-- ==== Sys2Proof/Word.lean ====
section
/-! DEFINITION. The byte that crosses a port, and the numbers of the lanes, lifts and day classes. -/

namespace Sys2Proof

/-- A byte of a frame or of a card image (R196: bit 0 is the least significant). -/
abbrev Byte := BitVec 8

/-- A lane of the base station, 0–7 (00_scope.md, section 1). -/
abbrev Lane := Fin 8

/-- A lift, 0–3 (00_scope.md, section 1). -/
abbrev Lift := Fin 4

/-- A day class: 0 low, 1 regular, 2 peak, 3 holiday (R50). -/
abbrev DayClass := Fin 4

/-- A set of lifts, "a mask in which bit n stands for lift n" (R196). -/
abbrev LiftMask := BitVec 4

end Sys2Proof
end

