-- ==== Sys2Proof/Config.lean ====
section
/-! DEFINITION. What the manual fixes for every part (sizes and tops of ranges), and the ONE free value of the model. -/

namespace Sys2Proof.Config

/-- FREE VALUE (log entry 3). The order in which several lanes are dealt with inside ONE event, where the manual
gives none: the arrival stamps of holds that become due at one tick (R94), and the rollbacks of the holds that one
SET_LANE releases (R106). `order k l` is the key of lane `l` at the `k`-th such event; a smaller key comes first. -/
opaque order : Nat → Nat → Nat

/-- Slots of the pass store (section 1.3). -/
abbrev slotCount : Nat := 16384
/-- Buckets of the pass store (section 1.3). -/
abbrev bucketCount : Nat := 1024
/-- Slots of one bucket (section 1.3). -/
abbrev bucketSize : Nat := 16
/-- Granules of the use history store (section 2.2). -/
abbrev granuleCount : Nat := 16384
/-- Places for use records in one granule (section 2.2). -/
abbrev placeCount : Nat := 6
/-- The last day number the clock can hold (R44). -/
abbrev lastDay : Nat := 65534
/-- The last second of a day (R42). -/
abbrev lastSecond : Nat := 86399
/-- Seconds of a day (R48). -/
abbrev daySeconds : Nat := 86400
/-- Places of a request queue and of a response queue (R182). -/
abbrev queuePlaces : Nat := 8
/-- The transaction code SEND (R197). -/
abbrev sendCode : Byte := 1
/-- The transaction code FETCH; every code but these two is STATUS (R197). -/
abbrev fetchCode : Byte := 2
/-- Pace units that one rider costs (00_scope.md, 4.1; R100). -/
abbrev riderUnits : Nat := 60
/-- Slots visited by one sweep batch (R175). -/
abbrev batchSize : Nat := 64
/-- Top of a running and of a snapshot counter (R130). -/
abbrev runningTop : Nat := 65535
/-- Top of a day counter (R130). -/
abbrev dayTop : Nat := 4294967295

end Sys2Proof.Config
end

