-- ==== Sys2Proof/Syntax.lean ====
section
/-! DEFINITION. The commands of the part: one constructor per row of spec/opcode_table.json, in the table's order.
The part is a block: the five port masters, the crystal, the lift lines and the reset line act on it, and its own
arbiter, admission unit and sweep act inside it. The order of the commands in the queue is the order in which those
events are taken; what each event finds and does follows from the state. -/

namespace Sys2Proof

/-- A port: gate port Gk, or the office port O (00_scope.md, section 1). -/
inductive Port where
  | gate (k : Fin 4)
  | office
deriving DecidableEq, Repr

/-- The levels of one lift's two lines; `true` is high (R111). -/
structure LiftLine where
  run  : Bool
  slow : Bool
deriving DecidableEq, Repr

/-- The levels of the eight lift lines, by lift (section 11.6). -/
abbrev LiftLines := Vector LiftLine 4

/-- What crosses a port after the transaction code in one SEND or FETCH command, and how the command stands in its transaction (R182):
whether the transaction begins with it, the master selecting the port while the status byte crosses the code, and whether it ends
with it, the master deselecting the port. A transaction that another event falls into is several commands (log entry 11). -/
structure Piece (α : Type) where
  data   : α
  begins : Bool
  ends   : Bool
deriving DecidableEq, Repr

/-- A whole transaction in one command. -/
abbrev Piece.whole {α : Type} (x : α) : Piece α := { data := x, begins := true, ends := true }

/-- A command: an event that the part takes whole (95_what_each_step_holds.md). -/
inductive Instr where
  /-- SEND (R183): in a transaction with code SEND the master of `p` shifts in `bytes`. -/
  | send (p : Port) (bytes : Piece (List Byte))
  /-- FETCH (R187): in a transaction with code FETCH the master of `p` shifts out `n` bytes. -/
  | fetch (p : Port) (n : Piece Nat)
  /-- STATUS (R182): a whole transaction with a code that is neither SEND nor FETCH. One that ends after its first byte with code
  SEND or FETCH is a `send` or a `fetch` of no bytes. -/
  | status (p : Port) (code : Byte)
  /-- ANSWERED_FRAME (R184, R185): the port answers its oldest port-served frame, one that failed a check. -/
  | answeredFrame (p : Port)
  /-- PRESENT (R55): the arbiter grants the PRESENT it selects. -/
  | present
  /-- PASSED (R85): the arbiter grants the PASSED it selects. -/
  | passed
  /-- RELEASE (R90): the arbiter grants the RELEASE it selects. -/
  | release
  /-- LANE_REPORT with condition JAM, granted (R107). -/
  | laneReportJam
  /-- LANE_REPORT with condition CLEAR, granted (R107). -/
  | laneReportClear
  /-- LANE_REPORT with condition QUERY, granted (R107). -/
  | laneReportQuery
  /-- READ_EVENTS served at port `p` (R192, R193). -/
  | readEvents (p : Port)
  /-- ISSUE granted (R13). -/
  | issue
  /-- REISSUE granted (R15). -/
  | reissue
  /-- SUSPEND granted (R16). -/
  | suspend
  /-- RESUME granted (R17). -/
  | resume
  /-- RESTORE granted (R18). -/
  | restore
  /-- ADD_USE granted (R20). -/
  | addUse
  /-- INQUIRE granted (R22). -/
  | inquire
  /-- REFUND granted (R145). -/
  | refund
  /-- LOAD_PRODUCT served (R7). -/
  | loadProduct
  /-- SET_RESORT served (R9). -/
  | setResort
  /-- SET_CLOCK served (R45, R46). -/
  | setClock
  /-- READ_CLOCK served (R49). -/
  | readClock
  /-- LOAD_CALENDAR in the BASE form served (R51). -/
  | loadCalendarBase
  /-- LOAD_CALENDAR in the RUNS form served (R52). -/
  | loadCalendarRuns
  /-- SET_LANE granted (R106). -/
  | setLane
  /-- SET_SCHEME served (R110). -/
  | setScheme
  /-- SET_LIFT served (R117). -/
  | setLift
  /-- READ_LANES served (R125). -/
  | readLanes
  /-- SET_REPORT served (R136). -/
  | setReport
  /-- TAKE_SNAPSHOT served (R137). -/
  | takeSnapshot
  /-- READ_COUNTS served (R138, R139). -/
  | readCounts
  /-- LOAD_TARIFF served (R143). -/
  | loadTariff
  /-- SET_STORE_POLICY served (R180). -/
  | setStorePolicy
  /-- READ_STORE served (R181). -/
  | readStore
  /-- SET_EVENTS served (R194). -/
  | setEvents
  /-- RESTART (R188): the office's SEND, a whole transaction, of a RESTART frame with this tag. -/
  | restart (tag : Byte)
  /-- TICK (R40): the one-second tick, at which the lift lines stand at `lines`. -/
  | tick (lines : LiftLines)
  /-- DAY_ROLLOVER (R43): the tick that rolls the day. -/
  | dayRollover (lines : LiftLines)
  /-- CLOCK_STALL (R44): the tick that stalls the clock. -/
  | clockStall (lines : LiftLines)
  /-- HOLD_DUE (R94): a tick that makes at least one open hold due. -/
  | holdDue (lines : LiftLines)
  /-- EXPIRY (R95): the arbiter grants the expiry it selects. -/
  | expiry
  /-- AUTO_TRANSFER (R135): the tick at which the AUTO report timer reaches 0. -/
  | autoTransfer (lines : LiftLines)
  /-- SWEEP_DEADLINE_REACHED (R171): the tick at which a sweep at MAY is found at or after its deadline. -/
  | sweepDeadlineReached (lines : LiftLines)
  /-- SWEEP_BATCH (R175): the arbiter grants the sweep a batch. -/
  | sweepBatch
  /-- RESET_LINE (R188): the reset line changes to active. -/
  | resetLine
  /-- RESET_LINE_INACTIVE (R188): the reset line becomes inactive. -/
  | resetLineInactive
  /-- POWER_ON_RESET (R195 and the reset rule of every chapter). -/
  | powerOnReset
deriving DecidableEq, Repr

end Sys2Proof
end

