-- ==== Sys2Proof/WellFormed.lean ====
section
/-! DEFINITION. Which commands the manual's transactions can be. Ports, lanes, lifts and lines are well formed by
their types; what the types do not say is said here. A command that fails a check still has a total meaning. -/

namespace Sys2Proof

/-- STATUS is a transaction with any code but SEND (1) and FETCH (2) (R182, R197); every other command is well formed
by its types. -/
def Instr.wellFormed : Instr → Bool
  | .status _ code => code != Config.sendCode && code != Config.fetchCode
  | _ => true

end Sys2Proof
end

