-- ==== Sys2Proof/Decode.lean ====
section
/-! DEFINITION. The decoder of a block. No row of spec/opcode_table.json gives bits ("fields": [] in every row), so no
word spells a command. The encodings this part does have, frames and card images, are read and written in
Machine/Operands.lean and Machine/Replies.lean. -/

namespace Sys2Proof

/-- The command that a word of `nbits` bits spells: none, since the table gives no row any bits. -/
def decodeTableWord (_nbits _w : Nat) : Option Instr := none

end Sys2Proof
end

