-- ==== Sys2Proof/Machine/Bytes.lean ====
section
/-! DEFINITION. Bytes as R196 has them: multi-byte fields most significant byte first, bit 0 the least significant. -/

namespace Sys2Proof.Machine

/-- The number that bytes spell, most significant byte first (R196). -/
def numberOf (bs : List Byte) : Nat := bs.foldl (fun n b => n * 256 + b.toNat) 0

/-- A number in `w` bytes, most significant byte first (R196). -/
def bytesOf : Nat → Nat → List Byte
  | 0, _ => []
  | w + 1, n => BitVec.ofNat 8 (n / 256 ^ w) :: bytesOf w n

/-- The number in the `w` bytes of a payload from byte `at_` on. -/
def fieldAt (at_ w : Nat) (p : List Byte) : Nat := numberOf ((p.drop at_).take w)

/-- The value of byte `at_` of a payload. -/
def byteAt (at_ : Nat) (p : List Byte) : Nat := (p.getD at_ 0).toNat

/-- One byte that carries a number below 256. -/
def byteOf (n : Nat) : Byte := BitVec.ofNat 8 n

/-- A bit standing in position `n` of a byte or word. -/
def bitAt (n : Nat) (b : Bool) : Nat := if b then 2 ^ n else 0

/-- A number clamped to `lo`–`hi` (00_scope.md, 4.2). -/
def clamp (lo hi n : Nat) : Nat := max lo (min n hi)

/-- A lift as a one-lift mask (R196). -/
def liftBit (f : Lift) : LiftMask := BitVec.ofNat 4 (2 ^ f.val)

/-- Whether a lift is in a mask (R196). -/
def inMask (m : LiftMask) (f : Lift) : Bool := m.getLsbD f.val

end Sys2Proof.Machine
end

