-- ==== Sys2Proof/Machine/State.lean ====
section
/-! DEFINITION. Everything the manual gives the part, as plain data, and its value after power-on reset. Fields that
only exist in one condition (a remembered state, a refund day, a sweep cursor) stand inside that condition. What the
manual names and another field already decides (the attention lines, the lane summary, the level conditions but
HISTORY_FULL) is computed, never stored twice: see Machine/Flags.lean. -/

namespace Sys2Proof.Machine

/-! ### Passes and the pass store (chapter 1) -/

/-- The three states in which a pass can be admitted or suspended (R1, section 1.2). -/
inductive LiveState where
  | issued
  | active
  | exhausted
deriving DecidableEq, Repr

/-- The state of an entry, with the fields that are present only in it (R1): the suspended-from state while SUSPENDED,
the refund day and refund amount while REFUNDED. -/
inductive PassState where
  | live (q : LiveState)
  | suspended (prior : LiveState)
  | refunded (day amount : Nat)
  | expired
deriving DecidableEq, Repr

/-- The last admit of an entry (R1, R75). -/
structure LastAdmit where
  lift : Lift
  lane : Lane
  day  : Nat
  sec  : Nat
deriving DecidableEq, Repr

/-- History head granule, history tail granule and tail fill, present together (R1, R25). -/
structure Chain where
  head : Nat
  tail : Nat
  fill : Nat
deriving DecidableEq, Repr

/-- A pass entry (R1). -/
structure Entry where
  pass      : Nat
  seq       : Nat
  product   : Fin 64
  validFrom : Nat
  validTo   : Nat
  bought    : Nat
  used      : Nat
  lost      : Nat
  state     : PassState
  price     : Nat
  lastUse   : Option Nat
  lastAdmit : Option LastAdmit
  chain     : Option Chain
  marker    : Option Lane
deriving DecidableEq, Repr

/-- The kind of a product (R6). -/
inductive Kind where
  | rider
  | control
deriving DecidableEq, Repr

/-- A product of the product table (R6). -/
structure Product where
  defined    : Bool
  kind       : Kind
  mask       : LiftMask
  passback   : Nat
  refundable : Bool
  row        : Fin 8
  fee        : Nat
  unit       : Nat
  minPayout  : Nat
deriving DecidableEq, Repr

/-- Power-on values of a product (R6). -/
def Product.powerOn : Product :=
  { defined := false, kind := .rider, mask := 0, passback := 0, refundable := false, row := 0, fee := 0, unit := 1,
    minPayout := 0 }

/-! ### Use history (chapter 2) -/

/-- A use record (R24). -/
structure UseRecord where
  day    : Nat
  cls    : DayClass
  first  : Nat
  admits : Nat
  lifts  : LiftMask
deriving DecidableEq, Repr

/-- The allocation table value of a granule that is not FREE (R26). -/
inductive Link where
  | next (g : Nat)
  | last (k : Nat)
deriving DecidableEq, Repr

/-- A granule in a chain: its allocation table value and the records in its places, from place 0 (R26). -/
structure Granule where
  link    : Link
  records : List UseRecord
deriving DecidableEq, Repr

/-- The use history store: the granules that are not FREE by rising number, the free queue from its head, and the
HISTORY_FULL condition (R26, R27, R31). A granule that `granules` does not list is FREE. -/
structure History where
  granules : List (Nat × Granule)
  free     : List Nat
  full     : Bool
deriving DecidableEq, Repr

/-! ### Season clock and calendar (chapter 3) -/

/-- UNSET or RUNNING (R41). -/
inductive ClockState where
  | unset
  | running
deriving DecidableEq, Repr

/-- The season clock (R41). -/
structure Clock where
  state   : ClockState
  day     : Nat
  sec     : Nat
  stalled : Bool
  ticks   : Nat
deriving DecidableEq, Repr

/-- An instant: (day number, second of day) (R48). -/
structure Instant where
  day : Nat
  sec : Nat
deriving DecidableEq, Repr

/-- The calendar (R50). -/
structure Calendar where
  base    : Nat
  classes : Vector DayClass 512
deriving DecidableEq, Repr

/-! ### Admission holds (chapter 5) -/

/-- The undo facts of a grant (R33). -/
structure UndoFacts where
  debitMade        : Bool
  recordWritten    : Bool
  granuleAllocated : Bool
  debitLost        : Bool
  countRaised      : Bool
  liftNewlySet     : Bool
deriving DecidableEq, Repr

/-- An open hold record (R83). -/
structure Hold where
  slot          : Nat
  pass          : Nat
  kind          : Kind
  deadline      : Instant
  lift          : Lift
  order         : Nat
  facts         : UndoFacts
  prevState     : LiveState
  prevLastUse   : Option Nat
  prevLastAdmit : Option LastAdmit
  pendingExpiry : Bool
deriving DecidableEq, Repr

/-- A late record (R96). -/
structure LateRecord where
  pass    : Nat
  expired : Instant
deriving DecidableEq, Repr

/-! ### Lanes, lifts and pacing (chapter 6) -/

/-- The lane states that SET_LANE can name and FAULT can remember (R103). -/
inductive WorkState where
  | closed
  | normal
  | opened
deriving DecidableEq, Repr

/-- A lane state; FAULT carries the remembered state, which is present in it alone (R103). -/
inductive LaneState where
  | work (w : WorkState)
  | fault (remembered : WorkState)
deriving DecidableEq, Repr

/-- A lane profile (R108). -/
structure Profile where
  holdTime   : Nat
  lateWindow : Nat
  threshold  : Nat
  toggle     : Bool
deriving DecidableEq, Repr

/-- A dwell record (R118). -/
structure Dwell where
  pass  : Nat
  start : Instant
  last  : Instant
  spent : Bool
deriving DecidableEq, Repr

/-- What the part keeps for one lane: R103, R108, R118, R122, and the hold and late records of R83 and R96. -/
structure LaneRec where
  state     : LaneState
  profile   : Profile
  dwell     : Option Dwell
  unreadRun : Nat
  hold      : Option Hold
  late      : Option LateRecord
deriving DecidableEq, Repr

/-- An established or indicated lift state (R111). -/
inductive LiftState where
  | stopped
  | running
  | slowed
deriving DecidableEq, Repr

/-- What the part keeps for one lift (R111, R114). -/
structure LiftRec where
  established : LiftState
  previous    : Option LiftState
  rate        : Nat
  burst       : Nat
  level       : Nat
deriving DecidableEq, Repr

/-- The scheme in force (R109). -/
inductive Scheme where
  | s0
  | s1
  | s2
  | s3
deriving DecidableEq, Repr

/-! ### Rider counts (chapter 7) -/

/-- The eleven lane counters, in the order of the table of R127. -/
inductive LaneCounter where
  | granted
  | committed
  | released
  | expired
  | refused
  | unreadable
  | pace
  | tailgate
  | late
  | free
  | staff
deriving DecidableEq, Repr

/-- The three lift counters, in the order of the table of R128. -/
inductive LiftCounter where
  | boarded
  | distinct
  | pace
deriving DecidableEq, Repr

/-- One set of 100 counters (R127, R128, R130). -/
structure CountSet where
  lanes : Vector (Vector Nat 11) 8
  lifts : Vector (Vector Nat 3) 4
deriving DecidableEq, Repr

/-- The report mode; ticks remaining is present in AUTO alone (R132). -/
inductive ReportMode where
  | manual
  | auto (remaining : Nat)
deriving DecidableEq, Repr

/-- The count unit (R130 to R132). -/
structure CountUnit where
  running       : CountSet
  snapshot      : CountSet
  day           : CountSet
  mode          : ReportMode
  period        : Nat
  round         : Nat
  snapRound     : Nat
  snapUnread    : Bool
  snapOverrun   : Bool
  snapSaturated : Bool
  saturated     : Bool
deriving DecidableEq, Repr

/-! ### Store arbitration and the day-close sweep (chapter 9) -/

/-- An expiry that waits as a class A requester of the arbiter (R94, R162). -/
structure Expiry where
  lane  : Lane
  stamp : Nat
deriving DecidableEq, Repr

/-- The store arbiter: the next arrival stamp, the next grant number, the waiting expiries, the lane burst counter and
the burst limit (R162, R83, R94, R168). -/
structure Arbiter where
  nextStamp  : Nat
  nextGrant  : Nat
  expiries   : List Expiry
  burst      : Nat
  burstLimit : Nat
deriving DecidableEq, Repr

/-- The urgency of an ACTIVE sweep; the grant count is present at MUST alone (R169). -/
inductive Urgency where
  | may
  | must (grants : Nat)
deriving DecidableEq, Repr

/-- What is present while the sweep is ACTIVE (R169). -/
structure Walk where
  cursor  : Nat
  urgency : Urgency
deriving DecidableEq, Repr

/-- The day-close sweep; `walk` is absent in IDLE (R169). -/
structure Sweep where
  walk      : Option Walk
  retention : Nat
  deadline  : Nat
  floor     : Nat
deriving DecidableEq, Repr

/-! ### Ports and events (chapters 10 and 11) -/

/-- The outcomes and verdicts, in the order of the table of R197. CLOCK_UNSET, UNKNOWN and PRODUCT_VOID serve as both. -/
inductive Code where
  | ok
  | unknownRequest
  | notPermitted
  | badLength
  | badValue
  | unknown
  | exists_
  | bucketFull
  | productVoid
  | sequenceExhausted
  | notAllowed
  | clockUnset
  | historyFull
  | clockStep
  | notClosed
  | wrongMode
  | noChange
  | nothingDue
  | alreadyRefunded
  | notRefundable
  | committed
  | late
  | unpaired
  | released
  | noHold
  | admitted
  | held
  | free
  | control
  | toggled
  | laneClosed
  | laneFault
  | unreadable
  | foreign
  | superseded
  | mismatch
  | inUse
  | laneBusy
  | liftStopped
  | suspended
  | refunded
  | expired
  | notYet
  | wrongLift
  | exhausted
  | passback
  | pace
deriving DecidableEq, Repr

/-- A frame: kind, tag and payload (R183, R197). Its length byte is the payload's length. -/
structure Frame where
  kind    : Byte
  tag     : Byte
  payload : List Byte
deriving DecidableEq, Repr

/-- What a taken frame is (R184, R185): an answered frame with its answer, a port-served request, or a requester of the
store arbiter with its arrival stamp (R162). -/
inductive Role where
  | answered (answer : Code)
  | served
  | store (stamp : Nat)
deriving DecidableEq, Repr

/-- A frame waiting in a request place (R183). The payload of a frame announced longer than 64 bytes is not kept. -/
structure Waiting where
  frame : Frame
  role  : Role
deriving DecidableEq, Repr

/-- The device events, in the order of the table of R189: the office's bits 0–9 (R201). -/
inductive DeviceEvent where
  | roundReady
  | roundOverrun
  | countSaturated
  | historyFull
  | tableLow
  | sweepDone
  | sweepLate
  | dayRollover
  | clockStall
  | restarted
deriving DecidableEq, Repr

/-- An event for which a port keeps a flag: by lane, by lift, or one of the device events (R189). -/
inductive Event where
  | laneState (l : Lane)
  | readerSuspect (l : Lane)
  | holdExpired (l : Lane)
  | tailgate (l : Lane)
  | liftState (f : Lift)
  | device (d : DeviceEvent)
deriving DecidableEq, Repr

/-- An edge mode (R190). -/
inductive Edge where
  | rise
  | any
deriving DecidableEq, Repr

/-- The edge modes of one port, one for each level kind, in the order of R198. -/
structure EdgeModes where
  laneState     : Edge
  readerSuspect : Edge
  liftState     : Edge
  historyFull   : Edge
  tableLow      : Edge
deriving DecidableEq, Repr

/-- A transaction in progress: the port is selected and the status byte has crossed the transaction code (R182). -/
inductive Transaction where
  /-- A SEND that has shifted in `got`, not yet a whole frame (R183). -/
  | sending (got : List Byte)
  /-- A FETCH with the bytes `left` to shift out; `response` says whether they are the last bytes of the oldest response, which
  leaves the queue with them (R187). -/
  | fetching (left : List Byte) (response : Bool)
  /-- A transaction whose further bytes do nothing: a SEND whose frame has been taken or could not be, or that a warm reset has
  ended, and a STATUS (R182, R183, R188). -/
  | over
deriving DecidableEq, Repr

/-- What a port keeps (R182), with the flags, masks and edge modes that the event unit keeps for it (R189 to R191).
`flags` holds the events whose flag is set, without repeats and in the order of `allEvents`; bit n of `masks` is the mask of
the n-th kind of R189, 1 for on (R198); `transaction` is the transaction in progress, none while the port is not
selected; `dataOut` is the bytes that the manual says the port has shifted out in its last transaction or the one in progress (the
data-out signal, section 11.6). -/
structure PortRec where
  requests    : List Waiting
  responses   : List Frame
  restarted   : Bool
  flags       : List Event
  masks       : BitVec 15
  edges       : EdgeModes
  transaction : Option Transaction
  dataOut     : List Byte
deriving DecidableEq, Repr

/-- The input pins that are no port's: the reset line, `true` while active, and the lift lines as the last tick
sampled them (R188, R112, section 11.6). -/
structure Pins where
  resetActive : Bool
  lines       : LiftLines
deriving DecidableEq, Repr

/-! ### The state -/

/-- The state of the part. `pending` is the queue of commands that wait, and `orderIndex` counts the free orders drawn so
far (log entry 3); both are the model's own. -/
structure State where
  pending    : List Instr
  pins       : Pins
  gates      : Vector PortRec 4
  office     : PortRec
  slots      : List (Nat × Entry)
  freeSlots  : Nat
  products   : Vector Product 64
  resort     : Nat
  history    : History
  clock      : Clock
  calendar   : Calendar
  lanes      : Vector LaneRec 8
  lifts      : Vector LiftRec 4
  scheme     : Scheme
  counts     : CountUnit
  tariff     : Vector (Vector Nat 4) 8
  arbiter    : Arbiter
  sweep      : Sweep
  orderIndex : Nat
deriving DecidableEq, Repr

/-- Why a command faults. No command of this part does: the manual gives every event an effect in every state, so the
type has no constructor. -/
inductive Fault where
deriving DecidableEq, Repr

/-- Why a command is refused. -/
inductive Refusal where
  /-- Raised by an arm of `exec` whose command has no meaning yet; no arm raises it. Safe: the model stops. -/
  | notModelled (mnemonic : String)
deriving DecidableEq, Repr

/-! ### After power-on reset -/

/-- Every edge mode is RISE (R195). -/
def EdgeModes.powerOn : EdgeModes :=
  { laneState := .rise, readerSuspect := .rise, liftState := .rise, historyFull := .rise, tableLow := .rise }

/-- A port after power-on reset with the flags of R195: empty queues, restarted mark yes, every mask on. No transaction is in
progress and no byte has been shifted out (DESIGN CHOICE, log entries 4 and 11). -/
def PortRec.powerOn (flags : List Event) : PortRec :=
  { requests := [], responses := [], restarted := true, flags := flags, masks := BitVec.allOnes 15,
    edges := .powerOn, transaction := none, dataOut := [] }

/-- The profile after power-on reset (R108). -/
def Profile.powerOn : Profile :=
  { holdTime := 8, lateWindow := 10, threshold := 7, toggle := false }

/-- A lane after power-on reset (R126, R102). -/
def LaneRec.powerOn : LaneRec :=
  { state := .work .closed, profile := .powerOn, dwell := none, unreadRun := 0, hold := none, late := none }

/-- A lift after power-on reset (R126). -/
def LiftRec.powerOn : LiftRec :=
  { established := .stopped, previous := none, rate := 30, burst := 8, level := 480 }

/-- A set whose counters are all 0 (R141). -/
def CountSet.zero : CountSet :=
  { lanes := Vector.replicate 8 (Vector.replicate 11 0), lifts := Vector.replicate 4 (Vector.replicate 3 0) }

/-- The count unit after power-on reset (R132, R141). -/
def CountUnit.powerOn : CountUnit :=
  { running := .zero, snapshot := .zero, day := .zero, mode := .manual, period := 15, round := 0, snapRound := 0,
    snapUnread := false, snapOverrun := false, snapSaturated := false, saturated := false }

/-- The lift lines low. DESIGN CHOICE (log entry 4): the manual gives the pins no level at reset. -/
def linesLow : LiftLines := Vector.replicate 4 { run := false, slow := false }

/-- The machine right after power-on reset: every block at its initial state (00_scope.md, 4.6), the command queue
empty. The two sequence numbers of the arbiter start at 0 (DESIGN CHOICE, log entry 5) and the pins are at the levels of log
entry 4. -/
def State.reset : State :=
  { pending := [], pins := { resetActive := false, lines := linesLow }
    gates := Vector.replicate 4 (.powerOn []), office := .powerOn [.device .restarted]
    slots := [], freeSlots := Config.slotCount, products := Vector.replicate 64 .powerOn, resort := 0
    history := { granules := [], free := List.range Config.granuleCount, full := false }
    clock := { state := .unset, day := 0, sec := 0, stalled := false, ticks := 0 }
    calendar := { base := 0, classes := Vector.replicate 512 1 }
    lanes := Vector.replicate 8 .powerOn, lifts := Vector.replicate 4 .powerOn, scheme := .s0
    counts := .powerOn, tariff := Vector.replicate 8 (Vector.replicate 4 0)
    arbiter := { nextStamp := 0, nextGrant := 0, expiries := [], burst := 0, burstLimit := 6 }
    sweep := { walk := none, retention := 7, deadline := 21600, floor := 256 }
    orderIndex := 0 }

end Sys2Proof.Machine
end

