-- ==== Sys2Proof/Machine/Table.lean ====
section
/-! DEFINITION. Sparse tables: what the part keeps for some numbers of a range (entries by slot, chained granules by
number), as a list of pairs in ONE canonical form, numbers strictly rising. A number that the list does not hold is
empty (a free slot, a FREE granule), so equal tables are equal lists. -/

namespace Sys2Proof.Machine

/-- What a table holds at number `n`. -/
def Table.get {α : Type} : List (Nat × α) → Nat → Option α
  | [], _ => none
  | (m, x) :: rest, n => if m = n then some x else Table.get rest n

/-- The table with `x` at number `n`, in place of what it held there. -/
def Table.put {α : Type} : List (Nat × α) → Nat → α → List (Nat × α)
  | [], n, x => [(n, x)]
  | (m, y) :: rest, n, x =>
    if n < m then (n, x) :: (m, y) :: rest
    else if n = m then (n, x) :: rest
    else (m, y) :: Table.put rest n x

/-- The table with number `n` empty. -/
def Table.erase {α : Type} (t : List (Nat × α)) (n : Nat) : List (Nat × α) := t.filter fun x => x.1 != n

/-- The numbers of a table, in its order. -/
def Table.keys {α : Type} (t : List (Nat × α)) : List Nat := t.map Prod.fst

/-- The canonical form: numbers strictly rising, each below `bound`. -/
abbrev Table.wf {α : Type} (bound : Nat) (t : List (Nat × α)) : Prop :=
  (Table.keys t).Pairwise (· < ·) ∧ ∀ n ∈ Table.keys t, n < bound

end Sys2Proof.Machine
end

