-- ==== Sys2Proof/Machine/Ops.lean ====
section
/-! DEFINITION. The named operations over the state: one update for each field, the accessors of ports, lanes, lifts,
entries and products, the lane-to-lift scheme, and instants. No other file writes a field of the state. -/

namespace Sys2Proof.Machine

/-! ### One update for each field -/

/-- `s` with the command queue replaced. -/
def State.withPending (s : State) (x : List Instr) : State := { s with pending := x }

/-- `s` with the input pins replaced. -/
def State.withPins (s : State) (x : Pins) : State := { s with pins := x }

/-- `s` with the gate ports replaced. -/
def State.withGates (s : State) (x : Vector PortRec 4) : State := { s with gates := x }

/-- `s` with the office port replaced. -/
def State.withOffice (s : State) (x : PortRec) : State := { s with office := x }

/-- `s` with the entries by slot replaced. -/
def State.withSlots (s : State) (x : List (Nat × Entry)) : State := { s with slots := x }

/-- `s` with the free-slot count replaced. -/
def State.withFreeSlots (s : State) (x : Nat) : State := { s with freeSlots := x }

/-- `s` with the product table replaced. -/
def State.withProducts (s : State) (x : Vector Product 64) : State := { s with products := x }

/-- `s` with the configured resort code replaced. -/
def State.withResort (s : State) (x : Nat) : State := { s with resort := x }

/-- `s` with the use history store replaced. -/
def State.withHistory (s : State) (x : History) : State := { s with history := x }

/-- `s` with the season clock replaced. -/
def State.withClock (s : State) (x : Clock) : State := { s with clock := x }

/-- `s` with the calendar replaced. -/
def State.withCalendar (s : State) (x : Calendar) : State := { s with calendar := x }

/-- `s` with the lanes replaced. -/
def State.withLanes (s : State) (x : Vector LaneRec 8) : State := { s with lanes := x }

/-- `s` with the lifts replaced. -/
def State.withLifts (s : State) (x : Vector LiftRec 4) : State := { s with lifts := x }

/-- `s` with the scheme in force replaced. -/
def State.withScheme (s : State) (x : Scheme) : State := { s with scheme := x }

/-- `s` with the count unit replaced. -/
def State.withCounts (s : State) (x : CountUnit) : State := { s with counts := x }

/-- `s` with the tariff replaced. -/
def State.withTariff (s : State) (x : Vector (Vector Nat 4) 8) : State := { s with tariff := x }

/-- `s` with the arbiter replaced. -/
def State.withArbiter (s : State) (x : Arbiter) : State := { s with arbiter := x }

/-- `s` with the sweep replaced. -/
def State.withSweep (s : State) (x : Sweep) : State := { s with sweep := x }

/-- `s` with the number of free orders drawn replaced. -/
def State.withOrderIndex (s : State) (x : Nat) : State := { s with orderIndex := x }
/-! ### Ports, lanes and lifts -/

/-- What the part keeps for port `p`. -/
def State.port (s : State) : Port → PortRec
  | .gate k => s.gates[k]
  | .office => s.office

/-- `s` with port `p` replaced. -/
def State.setPort (s : State) (p : Port) (r : PortRec) : State :=
  match p with
  | .gate k => s.withGates (s.gates.set k r)
  | .office => s.withOffice r

/-- `s` with port `p` changed by `f`. -/
def State.modPort (s : State) (p : Port) (f : PortRec → PortRec) : State := s.setPort p (f (s.port p))

/-- The five ports. -/
def allPorts : List Port := [.gate 0, .gate 1, .gate 2, .gate 3, .office]

/-- What the part keeps for lane `l`. -/
def State.lane (s : State) (l : Lane) : LaneRec := s.lanes[l]

/-- `s` with lane `l` replaced. -/
def State.setLane (s : State) (l : Lane) (r : LaneRec) : State := s.withLanes (s.lanes.set l r)

/-- `s` with lane `l` changed by `f`. -/
def State.modLane (s : State) (l : Lane) (f : LaneRec → LaneRec) : State := s.setLane l (f (s.lane l))

/-- The eight lanes, in ascending order. -/
def allLanes : List Lane := [0, 1, 2, 3, 4, 5, 6, 7]

/-- What the part keeps for lift `f`. -/
def State.lift (s : State) (f : Lift) : LiftRec := s.lifts[f]

/-- `s` with lift `f` replaced. -/
def State.setLift (s : State) (f : Lift) (r : LiftRec) : State := s.withLifts (s.lifts.set f r)

/-- The four lifts, in ascending order. -/
def allLifts : List Lift := [0, 1, 2, 3]

/-- The gate port that runs a lane: gate processor k runs lanes 2k and 2k+1 (00_scope.md, section 1). -/
def gateOf (l : Lane) : Port := .gate ⟨l.val / 2, by omega⟩

/-- The lift that a scheme assigns to a lane: the table of R109. -/
def Scheme.liftOf : Scheme → Lane → Lift
  | .s0, _ => 0
  | .s1, l => #v[(0 : Lift), 0, 0, 0, 1, 1, 1, 1][l]
  | .s2, l => #v[(0 : Lift), 0, 1, 1, 2, 2, 3, 3][l]
  | .s3, l => #v[(0 : Lift), 0, 0, 0, 1, 1, 2, 3][l]

/-- The lane's lift under the scheme in force (R109). -/
def State.liftOf (s : State) (l : Lane) : Lift := s.scheme.liftOf l

/-! ### Entries and products -/

/-- The entry in slot `n`, if the slot is occupied. -/
def State.entryAt (s : State) (n : Nat) : Option Entry := Table.get s.slots n

/-- `s` with entry `e` in slot `n`. -/
def State.putEntry (s : State) (n : Nat) (e : Entry) : State := s.withSlots (Table.put s.slots n e)

/-- `s` with the entry of slot `n`, if there is one, changed by `f`. -/
def State.modEntry (s : State) (n : Nat) (f : Entry → Entry) : State :=
  match s.entryAt n with
  | some e => s.putEntry n (f e)
  | none => s

/-- The bucket of a pass number (R4). -/
def bucketOf (pass : Nat) : Nat := pass % Config.bucketCount

/-- The slots of a bucket, in ascending order (section 1.3). -/
def bucketSlots (b : Nat) : List Nat := (List.range Config.bucketSize).map (Config.bucketSize * b + ·)

/-- The slot whose entry holds a pass number, looked for in the pass's bucket (R4). -/
def State.findSlot (s : State) (pass : Nat) : Option Nat :=
  (bucketSlots (bucketOf pass)).find? fun n => (s.entryAt n).any fun e => e.pass == pass

/-- The slot and entry of a pass number, or none (R4). -/
def State.findPass (s : State) (pass : Nat) : Option (Nat × Entry) :=
  match s.findSlot pass with
  | none => none
  | some n => (s.entryAt n).map fun e => (n, e)

/-- The lowest-numbered free slot of a pass's bucket (R4). -/
def State.freeSlotFor (s : State) (pass : Nat) : Option Nat :=
  (bucketSlots (bucketOf pass)).find? fun n => (s.entryAt n).isNone

/-- The product of a code (R6). -/
def State.product (s : State) (c : Fin 64) : Product := s.products[c]

/-! ### Instants (R48) -/

/-- Now: the day number and second of day that the clock holds (00_scope.md, 4.1). -/
def State.now (s : State) : Instant := { day := s.clock.day, sec := s.clock.sec }

/-- Whether one instant is at or before another (R48). -/
def Instant.le (a b : Instant) : Bool := a.day < b.day || (a.day == b.day && a.sec ≤ b.sec)

/-- The instant `n` seconds after another, `n` in 0–86,399 (R48). -/
def Instant.after (a : Instant) (n : Nat) : Instant :=
  if a.sec + n ≤ Config.lastSecond then { day := a.day, sec := a.sec + n }
  else if a.day + 1 ≤ Config.lastDay then { day := a.day + 1, sec := a.sec + n - Config.daySeconds }
  else { day := Config.lastDay, sec := Config.lastSecond }

/-- The seconds from one instant to another, a signed number: the difference of the seconds of day plus 86,400 for each
day by which the later day number exceeds the earlier (R97, R118). -/
def secondsFrom (a b : Instant) : Int := (b.sec : Int) - (a.sec : Int) + Config.daySeconds * ((b.day - a.day : Nat) : Int)

end Sys2Proof.Machine
end

