-- ==== Sys2Proof/Machine/Flags.lean ====
section
/-! DEFINITION. The event unit (R189 to R191, R195): which ports an event reaches, how a pulse and how a change of a level
condition sets a flag, the masks and the attention line, and the conditions it reports. -/

namespace Sys2Proof.Machine

/-- The device events, in table order (R189). -/
def deviceEvents : List DeviceEvent :=
  [.roundReady, .roundOverrun, .countSaturated, .historyFull, .tableLow, .sweepDone, .sweepLate, .dayRollover,
   .clockStall, .restarted]

/-- Every event of R189, in the order in which `PortRec.flags` lists them. -/
def allEvents : List Event :=
  allLanes.flatMap (fun l => [.laneState l, .readerSuspect l, .holdExpired l, .tailgate l])
    ++ allLifts.map .liftState ++ deviceEvents.map .device

/-- The place of a device event in the table of R189, counted from ROUND_READY. -/
def DeviceEvent.index : DeviceEvent → Nat
  | .roundReady => 0
  | .roundOverrun => 1
  | .countSaturated => 2
  | .historyFull => 3
  | .tableLow => 4
  | .sweepDone => 5
  | .sweepLate => 6
  | .dayRollover => 7
  | .clockStall => 8
  | .restarted => 9

/-- The place of an event's kind among the 15 kinds of R189, counted from 0 in table order (R198). -/
def Event.kindIndex : Event → Nat
  | .laneState _ => 0
  | .readerSuspect _ => 1
  | .holdExpired _ => 2
  | .tailgate _ => 3
  | .liftState _ => 4
  | .device d => 5 + d.index

/-- The edge mode that a port has for a level event; pulse events have none and are read as RISE (R190). -/
def EdgeModes.of (m : EdgeModes) : Event → Edge
  | .laneState _ => m.laneState
  | .readerSuspect _ => m.readerSuspect
  | .liftState _ => m.liftState
  | .device .historyFull => m.historyFull
  | .device .tableLow => m.tableLow
  | _ => .rise

/-- The lanes of gate port Gk: 2k and 2k+1. -/
def evenLane (k : Fin 4) : Lane := ⟨2 * k.val, by omega⟩
/-- The lanes of gate port Gk: 2k and 2k+1. -/
def oddLane (k : Fin 4) : Lane := ⟨2 * k.val + 1, by omega⟩

/-- Whether gate port Gk has a lane on a lift under the scheme in force (R113). -/
def State.gateServes (s : State) (k : Fin 4) (f : Lift) : Bool :=
  s.liftOf (evenLane k) == f || s.liftOf (oddLane k) == f

/-- The ports that an event reaches: the last column of R189. -/
def State.reached (s : State) : Event → List Port
  | .laneState l | .readerSuspect l | .holdExpired l | .tailgate l => [gateOf l, .office]
  | .liftState f => (([0, 1, 2, 3] : List (Fin 4)).filter (s.gateServes · f)).map .gate ++ [.office]
  | .device _ => [.office]

/-- A set of flags with one more flag set, in the fixed order and without repeats (R190). -/
def setFlag (e : Event) (fs : List Event) : List Event := allEvents.filter fun x => x == e || fs.contains x

/-- The flag of `e` set at port `p` (R190). -/
def State.flagAt (s : State) (p : Port) (e : Event) : State :=
  s.modPort p fun r => { r with flags := setFlag e r.flags }

/-- A pulse occurrence sets its flag at every port it reaches (R190). -/
def State.raise (s : State) (e : Event) : State := (s.reached e).foldl (fun t p => t.flagAt p e) s

/-- A device pulse, for the office port (R189). -/
def State.raiseDevice (s : State) (d : DeviceEvent) : State := s.raise (.device d)

/-- Whether a handed change of a level condition sets the flag under an edge mode: the table of R190. A change handed over
while the condition stays true sets it under ANY alone. -/
def Edge.takes (m : Edge) (before after : Bool) : Bool := (!before && after) || m == .any

/-- A change of a level condition is handed to the event unit (R190). -/
def State.handLevel (s : State) (e : Event) (before after : Bool) : State :=
  (s.reached e).foldl (fun t p => if ((s.port p).edges.of e).takes before after then t.flagAt p e else t) s

/-- The condition is judged again, and a change of its value is handed to the event unit. -/
def State.judgeLevel (s : State) (e : Event) (before after : Bool) : State :=
  if before = after then s else s.handLevel e before after

/-! ### Conditions, computed from the state that owns them -/

/-- LANE_STATE: the lane is in a state other than NORMAL (R104). -/
def LaneRec.stateCondition (r : LaneRec) : Bool := r.state != .work .normal

/-- READER_SUSPECT: the run count is at or above the threshold (R123). -/
def LaneRec.suspect (r : LaneRec) : Bool := r.profile.threshold ≤ r.unreadRun

/-- LIFT_STATE: the lift is in a state other than RUNNING (R113). -/
def LiftRec.stateCondition (r : LiftRec) : Bool := r.established != .running

/-- TABLE_LOW: the free-slot count is below the floor (R178). -/
def State.tableLow (s : State) : Bool := s.freeSlots < s.sweep.floor

/-! ### Flags, masks and the attention line -/

/-- Whether a port's flag of an event is set. -/
def PortRec.flagged (r : PortRec) (e : Event) : Bool := r.flags.contains e

/-- Whether a port's mask of an event's kind is on (R191, R198). -/
def PortRec.masked (r : PortRec) (e : Event) : Bool := r.masks.getLsbD e.kindIndex

/-- The attention line: active while at least one flag is set whose kind's mask is off (R191). -/
def PortRec.attention (r : PortRec) : Bool := r.flags.any fun e => !r.masked e

/-- The four flags of a lane at a port, in the order of R201. -/
def laneEvents (l : Lane) : List Event := [.laneState l, .readerSuspect l, .holdExpired l, .tailgate l]

/-- The office's lane summary holds a lane while one of its office flags is set (R193). -/
def State.summaryHas (s : State) (l : Lane) : Bool := (laneEvents l).any s.office.flagged

end Sys2Proof.Machine
end

