-- ==== Sys2Proof/Machine/Counts.lean ====
section
/-! DEFINITION. The count unit (chapter 7): additions with saturation, the transfer of a round, the AUTO timer and the day
rollover of the day set. -/

namespace Sys2Proof.Machine

/-- The place of a lane counter in the table of R127. -/
def LaneCounter.index : LaneCounter → Fin 11
  | .granted => 0
  | .committed => 1
  | .released => 2
  | .expired => 3
  | .refused => 4
  | .unreadable => 5
  | .pace => 6
  | .tailgate => 7
  | .late => 8
  | .free => 9
  | .staff => 10

/-- The place of a lift counter in the table of R128. -/
def LiftCounter.index : LiftCounter → Fin 3
  | .boarded => 0
  | .distinct => 1
  | .pace => 2

/-- A lane counter of a set. -/
def CountSet.lane (c : CountSet) (l : Lane) (k : LaneCounter) : Nat := c.lanes[l][k.index]

/-- A lift counter of a set. -/
def CountSet.lift (c : CountSet) (f : Lift) (k : LiftCounter) : Nat := c.lifts[f][k.index]

/-- A set with one lane counter replaced. -/
def CountSet.setLane (c : CountSet) (l : Lane) (k : LaneCounter) (n : Nat) : CountSet :=
  { c with lanes := c.lanes.set l (c.lanes[l].set k.index n) }

/-- A set with one lift counter replaced. -/
def CountSet.setLift (c : CountSet) (f : Lift) (k : LiftCounter) (n : Nat) : CountSet :=
  { c with lifts := c.lifts.set f (c.lifts[f].set k.index n) }

/-- One more, or the top of the range when the counter stands there (R130). -/
def bump (top n : Nat) : Nat := if n < top then n + 1 else n

/-- R131 at an addition to a running counter that stood at `old`: the first saturation of a round sets the mark and raises
COUNT_SATURATED. -/
def State.noteSaturation (s : State) (old : Nat) : State :=
  if Config.runningTop ≤ old ∧ s.counts.saturated = false then
    (s.withCounts { s.counts with saturated := true }).raiseDevice .countSaturated
  else s

/-- One event of R127: 1 added to a lane counter in the running set and in the day set (R130). -/
def State.countLane (s : State) (l : Lane) (k : LaneCounter) : State :=
  let c := s.counts
  (s.withCounts { c with
    running := c.running.setLane l k (bump Config.runningTop (c.running.lane l k))
    day := c.day.setLane l k (bump Config.dayTop (c.day.lane l k)) }).noteSaturation (c.running.lane l k)

/-- One event of R128: 1 added to a lift counter in the running set and in the day set (R130). -/
def State.countLift (s : State) (f : Lift) (k : LiftCounter) : State :=
  let c := s.counts
  (s.withCounts { c with
    running := c.running.setLift f k (bump Config.runningTop (c.running.lift f k))
    day := c.day.setLift f k (bump Config.dayTop (c.day.lift f k)) }).noteSaturation (c.running.lift f k)

/-- The addition of a warm reset: to the day set alone (R93, R130). -/
def State.countDayOnly (s : State) (l : Lane) (k : LaneCounter) : State :=
  s.withCounts { s.counts with day := s.counts.day.setLane l k (bump Config.dayTop (s.counts.day.lane l k)) }

/-- The next round number; from 65,535 it wraps to 0 (R133). -/
def nextRound (n : Nat) : Nat := if n = 65535 then 0 else n + 1

/-- A transfer (R133, R134). -/
def State.transfer (s : State) : State :=
  let c := s.counts
  let t := (s.withCounts { c with
    running := .zero, snapshot := c.running, snapRound := c.round, round := nextRound c.round
    snapSaturated := c.saturated, saturated := false, snapOverrun := c.snapUnread, snapUnread := true }).raiseDevice
      .roundReady
  if c.snapUnread then t.raiseDevice .roundOverrun else t

/-- The AUTO timer loaded with P × 60 (R135, R136). -/
def CountUnit.loaded (c : CountUnit) : ReportMode := .auto (c.period * 60)

/-- Whether the next tick brings the AUTO timer to 0 (R135). -/
def CountUnit.expiring (c : CountUnit) : Bool :=
  match c.mode with
  | .auto n => n ≤ 1
  | .manual => false

/-- One tick of the report timer (R135). -/
def State.tickTimer (s : State) : State :=
  match s.counts.mode with
  | .manual => s
  | .auto n =>
    if n ≤ 1 then
      let t := s.transfer
      t.withCounts { t.counts with mode := t.counts.loaded }
    else s.withCounts { s.counts with mode := .auto (n - 1) }

/-- The day set after the rollover: every counter 0, but day granted 1 for a lane whose hold is open (R140). -/
def State.rolledDaySet (s : State) : CountSet :=
  { CountSet.zero with
    lanes := Vector.ofFn fun l : Lane =>
      (Vector.replicate 11 0).set LaneCounter.granted.index (if (s.lane l).hold.isSome then 1 else 0) }

/-- The count unit at the day rollover (R140). -/
def State.rollCounts (s : State) : State := s.withCounts { s.counts with day := s.rolledDaySet }

/-- The count unit after a warm reset, once the rollbacks have been counted (R141). -/
def CountUnit.warm (c : CountUnit) : CountUnit :=
  { c with
    running := .zero, snapshot := .zero, round := 0, snapRound := 0, snapUnread := false, snapOverrun := false
    snapSaturated := false, saturated := false
    mode := match c.mode with
      | .auto _ => c.loaded
      | .manual => .manual }

end Sys2Proof.Machine
end

