-- ==== Sys2Proof/Machine/Lifts.lean ====
section
/-! DEFINITION. Lift states, their filter, and the pace buckets (sections 6.4 and 6.5). -/

namespace Sys2Proof.Machine

/-- The state that a reading of the two lines indicates (R111). -/
def indicated (x : LiftLine) : LiftState := if x.run then (if x.slow then .slowed else .running) else .stopped

/-- The capacity of a lift: 60 × burst units (R114). -/
def LiftRec.capacity (r : LiftRec) : Nat := Config.riderUnits * r.burst

/-- The lift record after one sample of its lines: a reading is established at the second consecutive tick that sees it
(R112). -/
def LiftRec.sample (r : LiftRec) (x : LiftState) : LiftRec :=
  { r with
    established := if x ≠ r.established ∧ r.previous = some x then x else r.established
    previous := some x }

/-- The filter of one lift at a tick; a change of lift state is handed to the event unit (R112, R113). -/
def State.filterLift (s : State) (f : Lift) (x : LiftState) : State :=
  let r := s.lift f
  let r' := r.sample x
  let t := s.setLift f r'
  if r'.established = r.established then t else t.handLevel (.liftState f) r.stateCondition r'.stateCondition

/-- The units that one tick adds, by the established state (R116). -/
def LiftRec.refillUnits (r : LiftRec) : Nat :=
  match r.established with
  | .running => r.rate
  | .slowed => max (r.rate / 2) 1
  | .stopped => 0

/-- The lift record after a refill, never above the capacity; a stopped lift keeps its level (R115, R116). -/
def LiftRec.refilled (r : LiftRec) : LiftRec :=
  match r.established with
  | .stopped => r
  | _ => { r with level := min (r.level + r.refillUnits) r.capacity }

/-- One tick of a lift: the filter, then the refill by the state established at that tick (R112, R116). -/
def State.tickLift (s : State) (lines : LiftLines) (f : Lift) : State :=
  let t := s.filterLift f (indicated lines[f])
  t.setLift f (t.lift f).refilled

/-- 60 units taken from a lift, to 0 at least (R98, R99, R100); a grant finds at least 60 (R74). -/
def State.takePace (s : State) (f : Lift) : State :=
  s.setLift f { s.lift f with level := (s.lift f).level - Config.riderUnits }

/-- 60 units returned to a lift, clamped at its capacity (R89). -/
def State.givePace (s : State) (f : Lift) : State :=
  s.setLift f { s.lift f with level := min ((s.lift f).level + Config.riderUnits) (s.lift f).capacity }

/-- A lift after a warm reset: STOPPED, no previous sample, a full pace level (R126). -/
def LiftRec.warm (r : LiftRec) : LiftRec :=
  { r with established := .stopped, previous := none, level := r.capacity }

end Sys2Proof.Machine
end

