-- ==== Sys2Proof/Machine/UseHistory.lean ====
section
/-! DEFINITION. The use history store (chapter 2): reading a chain, appending records, the debit and the update of a grant, the
undo of a grant and the freeing of a chain. -/

namespace Sys2Proof.Machine

/-- What the allocation table and the places hold for granule `g`; none for a FREE granule (R26). -/
def History.granule (h : History) (g : Nat) : Option Granule := Table.get h.granules g

/-- `h` with granule `g` in a chain. -/
def History.putGranule (h : History) (g : Nat) (x : Granule) : History :=
  { h with granules := Table.put h.granules g x }

/-- The granules of a chain from `g` on, through the NEXT values; a chain is no longer than the granules in use (R26). -/
def History.walkFrom (h : History) : Nat → Nat → List Nat
  | 0, _ => []
  | fuel + 1, g =>
    match h.granule g with
    | none => []
    | some x =>
      match x.link with
      | .last _ => [g]
      | .next g' => g :: h.walkFrom fuel g'

/-- The granules of an entry's chain, the head first (R26). -/
def History.chainGranules (h : History) : Option Chain → List Nat
  | none => []
  | some c => h.walkFrom h.granules.length c.head

/-- The records of a chain, oldest first (R25, R38). -/
def History.records (h : History) (c : Option Chain) : List UseRecord :=
  (h.chainGranules c).flatMap fun g => ((h.granule g).map Granule.records).getD []

/-- The tail record of a chain (R25). -/
def History.tailRecord (h : History) : Option Chain → Option UseRecord
  | none => none
  | some c => ((h.granule c.tail).bind fun x => x.records.getLast?)

/-- The records in the places of a granule. -/
def History.placesOf (h : History) (g : Nat) : List UseRecord := ((h.granule g).map Granule.records).getD []

/-- What an append leaves: the store, the chain, and whether a granule was allocated. -/
structure Appended where
  history   : History
  chain     : Chain
  allocated : Bool
deriving DecidableEq, Repr

/-- Records appended to a chain: into the free places of the tail granule, then into ONE granule from the head of the free
queue (R28, R29, R39). None when a granule is needed and the free queue is empty. -/
def History.append (h : History) (c : Option Chain) (rs : List UseRecord) : Option Appended :=
  match c with
  | none =>
    match h.free with
    | [] => none
    | g :: rest =>
      some { history := { h with free := rest }.putGranule g { link := .last rs.length, records := rs }
             chain := { head := g, tail := g, fill := rs.length }, allocated := true }
  | some c =>
    let here := rs.take (Config.placeCount - c.fill)
    let later := rs.drop (Config.placeCount - c.fill)
    let full := h.placesOf c.tail ++ here
    if later.isEmpty then
      some { history := h.putGranule c.tail { link := .last (c.fill + here.length), records := full }
             chain := { c with fill := c.fill + here.length }, allocated := false }
    else
      match h.free with
      | [] => none
      | g :: rest =>
        some { history := ({ h with free := rest }.putGranule c.tail { link := .next g, records := full }).putGranule g
                 { link := .last later.length, records := later }
               chain := { c with tail := g, fill := later.length }, allocated := true }

/-- The tail record of a chain changed by `f`. -/
def History.amendTail (h : History) (c : Chain) (f : UseRecord → UseRecord) : History :=
  match h.granule c.tail with
  | none => h
  | some x =>
    match x.records.getLast? with
    | none => h
    | some r => h.putGranule c.tail { x with records := x.records.dropLast ++ [f r] }

/-- A granule freed to the head of the free queue; the HISTORY_FULL condition becomes false (R31, R34). -/
def History.returnHead (h : History) (g : Nat) : History :=
  { granules := Table.erase h.granules g, free := g :: h.free, full := false }

/-- The removal of the tail record that a grant wrote (R34). -/
def History.unwrite (h : History) (c : Chain) (allocated : Bool) : Option Chain × History :=
  if allocated = false then
    (some { c with fill := c.fill - 1 },
     h.putGranule c.tail { link := .last (c.fill - 1), records := (h.placesOf c.tail).dropLast })
  else if c.head = c.tail then (none, h.returnHead c.tail)
  else
    match (h.chainGranules (some c)).find? fun g => (h.granule g).any fun x => x.link == .next c.tail with
    | none => (none, h.returnHead c.tail)
    | some g =>
      (some { c with tail := g, fill := Config.placeCount },
       (h.putGranule g { link := .last Config.placeCount, records := h.placesOf g }).returnHead c.tail)

/-- The undo of a grant's effect on a chain, by its undo facts and the lift of the grant (R34, R35). -/
def History.undo (h : History) (facts : UndoFacts) (f : Lift) (c : Option Chain) : Option Chain × History :=
  match c with
  | none => (none, h)
  | some ch =>
    if facts.recordWritten then h.unwrite ch facts.granuleAllocated
    else if facts.countRaised || facts.liftNewlySet then
      (some ch, h.amendTail ch fun r =>
        { r with
          admits := if facts.countRaised then r.admits - 1 else r.admits
          lifts := if facts.liftNewlySet then r.lifts &&& ~~~liftBit f else r.lifts })
    else (some ch, h)

/-- A chain freed by a retirement: its granules join the tail of the free queue, the head granule first, and HISTORY_FULL
becomes false when at least one does (R37, R31). -/
def History.freeChain (h : History) (c : Option Chain) : History :=
  let gs := h.chainGranules c
  { granules := gs.foldl Table.erase h.granules, free := h.free ++ gs, full := h.full && gs.isEmpty }

/-- No history work: every fact false (R33). -/
def UndoFacts.none : UndoFacts :=
  { debitMade := false, recordWritten := false, granuleAllocated := false, debitLost := false, countRaised := false,
    liftNewlySet := false }

/-- What the history part of a grant leaves: the store, the entry, and the undo facts (R33). -/
structure Debited where
  history : History
  entry   : Entry
  facts   : UndoFacts
deriving DecidableEq, Repr

/-- A debit (R29, R30, R76): days used rises by 1 and the last-use day becomes today; the record `r` is appended, or the debit
is lost when it needs a granule and the free queue is empty. -/
def History.debit (h : History) (e : Entry) (r : UseRecord) : Debited :=
  let used := { e with used := e.used + 1, lastUse := some r.day }
  match h.append e.chain [r] with
  | some a =>
    { history := a.history, entry := { used with chain := some a.chain }
      facts := { UndoFacts.none with
        debitMade := true, recordWritten := true, granuleAllocated := a.allocated, liftNewlySet := true } }
  | none =>
    { history := { h with full := true }, entry := { used with lost := e.lost + 1 }
      facts := { UndoFacts.none with debitMade := true, debitLost := true } }

/-- The update of today's record at a grant that debits no day (R32, R77). Today's record is the tail record when its day is
today; otherwise today's debit was lost and the chain stays as it was. -/
def History.update (h : History) (e : Entry) (today : Nat) (f : Lift) : Debited :=
  match e.chain, h.tailRecord e.chain with
  | some c, some r =>
    if r.day = today then
      { history := h.amendTail c fun r =>
          { r with admits := if r.admits < 255 then r.admits + 1 else r.admits, lifts := r.lifts ||| liftBit f }
        entry := e
        facts := { UndoFacts.none with countRaised := r.admits < 255, liftNewlySet := !inMask r.lifts f } }
    else { history := h, entry := e, facts := .none }
  | _, _ => { history := h, entry := e, facts := .none }

/-- The use history store replaced, with a change of HISTORY_FULL handed to the event unit (R31, R189). -/
def State.writeHistory (s : State) (h : History) : State :=
  (s.withHistory h).judgeLevel (.device .historyFull) s.history.full h.full

end Sys2Proof.Machine
end

