-- ==== Sys2Proof/Machine/Holds.lean ====
section
/-! DEFINITION. Admission holds (chapter 5): the rollback, the release, the commit, the late window, and the order in which one
event deals with several lanes. -/

namespace Sys2Proof.Machine

/-- The entry after the rollback of a hold, given its chain after the undo (R88). -/
def Entry.undone (e : Entry) (h : Hold) (c : Option Chain) : Entry :=
  { e with
    used := if h.facts.debitMade then e.used - 1 else e.used
    lost := if h.facts.debitLost then e.lost - 1 else e.lost
    state := .live h.prevState, lastUse := h.prevLastUse, lastAdmit := h.prevLastAdmit, chain := c, marker := none }

/-- The hold record of a lane replaced. -/
def State.setHold (s : State) (l : Lane) (h : Option Hold) : State := s.modLane l fun r => { r with hold := h }

/-- The late record of a lane replaced. -/
def State.setLate (s : State) (l : Lane) (x : Option LateRecord) : State := s.modLane l fun r => { r with late := x }

/-- The rollback of R88: the entry of the hold's slot, its chain and the free queue as they were, the hold record empty.
The change of HISTORY_FULL is not handed to the event unit here (a warm reset hands none: R195). -/
def State.undoGrant (s : State) (l : Lane) (h : Hold) : State :=
  match s.entryAt h.slot with
  | none => s.setHold l none
  | some e =>
    let u := s.history.undo h.facts h.lift e.chain
    ((s.withHistory u.2).putEntry h.slot (e.undone h u.1)).setHold l none

/-- A rollback by release or expiry: R88 with its effects on HISTORY_FULL and on the pace level (R89). -/
def State.rollback (s : State) (l : Lane) (h : Hold) : State :=
  let t := s.undoGrant l h
  (t.judgeLevel (.device .historyFull) s.history.full t.history.full).givePace h.lift

/-- The release of a lane's hold, if one is open: the rollback, counted released (R90, R92). -/
def State.releaseHold (s : State) (l : Lane) : State :=
  match (s.lane l).hold with
  | none => s
  | some h => (s.rollback l h).countLane l .released

/-- The commit of a lane's hold (R86, R87). -/
def State.commitHold (s : State) (l : Lane) (h : Hold) : State :=
  let t := ((s.modEntry h.slot fun e => { e with marker := none }).setHold l none).setLate l none
  let t := t.countLane l .committed
  let t := if h.kind = .control then t.countLane l .staff else t
  let t := t.countLift h.lift .boarded
  if h.facts.liftNewlySet then t.countLift h.lift .distinct else t

/-- Whether a passage at a lane lies within the late window (R97). -/
def State.withinLateWindow (s : State) (l : Lane) : Bool :=
  match (s.lane l).late with
  | none => false
  | some x => secondsFrom x.expired s.now ≤ ((s.lane l).profile.lateWindow : Int)

/-- A passage answered LATE (R98). -/
def State.latePassage (s : State) (l : Lane) : State :=
  ((((s.countLane l .late).countLift (s.liftOf l) .boarded).takePace (s.liftOf l)).setLate l none)

/-- A passage answered UNPAIRED: free in OPEN, a tailgate in every other state (R99). -/
def State.unpairedPassage (s : State) (l : Lane) : State :=
  let t := if (s.lane l).state = .work .opened then s.countLane l .free
    else (s.countLane l .tailgate).raise (.tailgate l)
  ((t.countLift (s.liftOf l) .boarded).takePace (s.liftOf l)).setLate l none

/-- A hold's expiry (R95). -/
def State.expireHold (s : State) (l : Lane) (h : Hold) : State :=
  (((s.rollback l h).countLane l .expired).setLate l (some { pass := h.pass, expired := s.now })).raise (.holdExpired l)

/-- A lane put in its place among lanes ordered by `key`; of two equal keys the lower lane stands first. -/
def insertLane (key : Nat → Nat) (l : Lane) : List Lane → List Lane
  | [] => [l]
  | m :: rest =>
    if key l.val < key m.val ∨ (key l.val = key m.val ∧ l.val < m.val) then l :: m :: rest
    else m :: insertLane key l rest

/-- Lanes ordered by `key`. -/
def orderLanes (key : Nat → Nat) : List Lane → List Lane
  | [] => []
  | l :: rest => insertLane key l (orderLanes key rest)

/-- The free order in which one event deals with several lanes (log entry 3); one lane or none needs no order. -/
def State.freeOrder (s : State) (ls : List Lane) : List Lane :=
  if ls.length < 2 then ls else orderLanes (Config.order s.orderIndex) ls

/-- A free order has been drawn for these lanes. -/
def State.drewOrder (s : State) (ls : List Lane) : State :=
  if ls.length < 2 then s else s.withOrderIndex (s.orderIndex + 1)

/-- Whether a lane's open hold becomes due at a tick (R94). -/
def State.isDue (s : State) (l : Lane) : Bool :=
  match (s.lane l).hold with
  | none => false
  | some h => !h.pendingExpiry && h.deadline.le s.now

/-- One hold becomes due: its expiry is pending and waits as a class A requester with a fresh stamp (R94, R162). -/
def State.makeDue (s : State) (l : Lane) : State :=
  let t := s.modLane l fun r => { r with hold := r.hold.map fun h => { h with pendingExpiry := true } }
  t.withArbiter { t.arbiter with
    nextStamp := t.arbiter.nextStamp + 1, expiries := t.arbiter.expiries ++ [{ lane := l, stamp := t.arbiter.nextStamp }] }

/-- The lanes whose holds are due. -/
def State.dueLanes (s : State) : List Lane := allLanes.filter s.isDue

/-- The hold tests of a tick (R94). The order of the stamps of several holds due at one tick is free (log entry 3). -/
def State.testHolds (s : State) : State := ((s.freeOrder s.dueLanes).foldl State.makeDue s).drewOrder s.dueLanes

/-- The open holds with their lanes. -/
def State.openHolds (s : State) : List (Lane × Hold) :=
  allLanes.filterMap fun l => (s.lane l).hold.map fun h => (l, h)

/-- A hold put in its place, the most recently granted first (R93). -/
def insertHold (x : Lane × Hold) : List (Lane × Hold) → List (Lane × Hold)
  | [] => [x]
  | y :: rest => if y.2.order ≤ x.2.order then x :: y :: rest else y :: insertHold x rest

/-- Holds in the reverse order of their grants (R93). -/
def newestFirst : List (Lane × Hold) → List (Lane × Hold)
  | [] => []
  | x :: rest => insertHold x (newestFirst rest)

/-- The rollbacks of a warm reset, the most recently granted first, each counted released in the day set alone; no event is
handed over, and the pace levels are set by the reset itself (R93). -/
def State.rollBackAll (s : State) : State :=
  (newestFirst s.openHolds).foldl (fun t x => (t.undoGrant x.1 x.2).countDayOnly x.1 .released) s

end Sys2Proof.Machine
end

