-- ==== Sys2Proof/Machine/Lanes.lean ====
section
/-! DEFINITION. Lanes (sections 6.1, 6.2, 6.6, 6.7): changes of lane state, profiles, the control-card dwell and the reader
monitor. -/

namespace Sys2Proof.Machine

/-- A change of lane state (R104): from NORMAL the open hold is released, the dwell record becomes `dwell` (empty, but for the
spent dwell of a toggle), the run count is kept, and LANE_STATE is handed to the event unit. -/
def State.moveLane (s : State) (l : Lane) (new : LaneState) (dwell : Option Dwell) : State :=
  let old := (s.lane l).state
  let t := if old = .work .normal then s.releaseHold l else s
  (t.modLane l fun r => { r with state := new, dwell := dwell }).handLevel (.laneState l) (old != .work .normal)
    (new != .work .normal)

/-- A change of the run count or of the profile, after which READER_SUSPECT is judged again (R123). -/
def State.modReader (s : State) (l : Lane) (f : LaneRec → LaneRec) : State :=
  (s.modLane l f).judgeLevel (.readerSuspect l) (s.lane l).suspect (f (s.lane l)).suspect

/-- One more unreadable image at a lane, saturating at 255 (R122). -/
def State.raiseRun (s : State) (l : Lane) : State := s.modReader l fun r => { r with unreadRun := bump 255 r.unreadRun }

/-- A parsed image at a lane sets its run count to 0 (R59, R122). -/
def State.clearRun (s : State) (l : Lane) : State := s.modReader l fun r => { r with unreadRun := 0 }

/-- The profile of a lane written (R106, R108). -/
def State.writeProfile (s : State) (l : Lane) (p : Profile) : State := s.modReader l fun r => { r with profile := p }

/-- What a SET_LANE does to one lane's state: the table of R106. `code` is none for KEEP. -/
def State.nameState (s : State) (l : Lane) (code : Option WorkState) : State :=
  match code with
  | none => s
  | some w =>
    match (s.lane l).state with
    | .fault _ => s.modLane l fun r => { r with state := .fault w }
    | .work w' => if w' = w then s else s.moveLane l (.work w) none

/-- The dwell record of a lane replaced. -/
def State.setDwell (s : State) (l : Lane) (d : Option Dwell) : State := s.modLane l fun r => { r with dwell := d }

/-- The dwell record after a tracked presentation of `pass`: the table of R119. -/
def trackedDwell (d : Option Dwell) (pass : Nat) (now : Instant) : Dwell :=
  match d with
  | none => { pass, start := now, last := now, spent := false }
  | some x =>
    if x.pass = pass ∧ secondsFrom x.last now ≤ 1 then { x with last := now }
    else { pass, start := now, last := now, spent := false }

/-- The toggle test of R120. -/
def toggles (d : Dwell) (now : Instant) (p : Profile) : Bool :=
  !d.spent && 3 ≤ secondsFrom d.start now && p.toggle

/-- The other of NORMAL and OPEN (R120). -/
def LaneState.toggled : LaneState → LaneState
  | .work .normal => .work .opened
  | _ => .work .normal

/-- Dwell tracking, and whether the lane toggled (R119, R120). A toggle keeps the dwell record, marked spent. -/
def State.track (s : State) (l : Lane) (pass : Nat) : State × Bool :=
  let d := trackedDwell (s.lane l).dwell pass s.now
  if toggles d s.now (s.lane l).profile then
    (s.moveLane l (s.lane l).state.toggled (some { d with spent := true }), true)
  else (s.setDwell l (some d), false)

/-- A presentation that is not tracked ends the dwell of another pass and keeps that of its own (R78, R121). -/
def State.endOtherDwell (s : State) (l : Lane) (pass : Nat) : State :=
  match (s.lane l).dwell with
  | none => s
  | some d => if d.pass = pass then s else s.setDwell l none

/-- The target of a SET_LANE: lanes in ascending order, under the scheme in force at the grant (R105, R198). -/
def State.targets (s : State) (form number : Nat) : List Lane :=
  match form with
  | 0 => [Fin.ofNat 8 number]
  | 1 => allLanes.filter fun l => (s.liftOf l).val == number
  | _ => allLanes

/-- Whether a SET_LANE with state code `code` takes a lane out of NORMAL while its hold is open (R106, R92). -/
def State.losesHold (s : State) (code : Option WorkState) (l : Lane) : Bool :=
  (s.lane l).state == .work .normal && (s.lane l).hold.isSome && code.any (· != .normal)

/-- A SET_LANE carried out whole for every lane it targets (R105, R106): the holds of lanes that leave NORMAL are released, in
an order the manual leaves open (log entry 3), then states and profiles are written. -/
def State.setLanes (s : State) (ls : List Lane) (code : Option WorkState) (p : Profile) : State :=
  let losing := ls.filter (s.losesHold code)
  let t := ((s.freeOrder losing).foldl State.releaseHold s).drewOrder losing
  ls.foldl (fun t l => (t.nameState l code).writeProfile l p) t

/-- A lane after a warm reset, its hold rolled back (R102, R126). -/
def LaneRec.warm (r : LaneRec) : LaneRec :=
  { r with state := .work .closed, dwell := none, unreadRun := 0, hold := none, late := none }

end Sys2Proof.Machine
end

