-- ==== Sys2Proof/Machine/Operands.lean ====
section
/-! DEFINITION. The operand forms of the part: the request kinds with their codes, ports, classes and payload lengths
(R161, R184, R198), and the fields that a payload, a use record and a card image carry (R10, R11, R196, R198). -/

namespace Sys2Proof.Machine

/-! ### Request kinds -/

/-- The kinds of request (R198). -/
inductive ReqKind where
  | present
  | passed
  | release
  | laneReport
  | readEvents
  | issue
  | reissue
  | suspend
  | resume
  | restore
  | addUse
  | inquire
  | refund
  | loadProduct
  | setResort
  | setClock
  | readClock
  | loadCalendar
  | setLane
  | setScheme
  | setLift
  | readLanes
  | setReport
  | takeSnapshot
  | readCounts
  | loadTariff
  | setStorePolicy
  | readStore
  | setEvents
  | restart
deriving DecidableEq, Repr

/-- The kind code of a request (R198). -/
def ReqKind.code : ReqKind → Nat
  | .present => 1
  | .passed => 2
  | .release => 3
  | .laneReport => 4
  | .readEvents => 5
  | .issue => 16
  | .reissue => 17
  | .suspend => 18
  | .resume => 19
  | .restore => 20
  | .addUse => 21
  | .inquire => 22
  | .refund => 23
  | .loadProduct => 32
  | .setResort => 33
  | .setClock => 34
  | .readClock => 35
  | .loadCalendar => 36
  | .setLane => 37
  | .setScheme => 38
  | .setLift => 39
  | .readLanes => 40
  | .setReport => 41
  | .takeSnapshot => 42
  | .readCounts => 43
  | .loadTariff => 44
  | .setStorePolicy => 45
  | .readStore => 46
  | .setEvents => 47
  | .restart => 48

/-- Every kind of request, in the order of R198. -/
def allKinds : List ReqKind :=
  [.present, .passed, .release, .laneReport, .readEvents, .issue, .reissue, .suspend, .resume, .restore, .addUse,
   .inquire, .refund, .loadProduct, .setResort, .setClock, .readClock, .loadCalendar, .setLane, .setScheme, .setLift,
   .readLanes, .setReport, .takeSnapshot, .readCounts, .loadTariff, .setStorePolicy, .readStore, .setEvents, .restart]

/-- The kind of a kind code, or none for a code that R198 does not list. -/
def ReqKind.ofCode (b : Byte) : Option ReqKind := allKinds.find? fun k => k.code == b.toNat

/-- The class of a requester of the store arbiter (R161). -/
inductive StoreClass where
  | a
  | b
  | c
deriving DecidableEq, Repr

/-- The class of a kind of request; none for the kinds that do not use the pass store (R161). -/
def ReqKind.storeClass : ReqKind → Option StoreClass
  | .passed | .release | .laneReport | .setLane => some .a
  | .present => some .b
  | .issue | .reissue | .suspend | .resume | .restore | .addUse | .inquire | .refund => some .c
  | _ => none

/-- Whether a kind is permitted on a port (R184). -/
def ReqKind.permitted (k : ReqKind) : Port → Bool
  | .gate _ => match k with
    | .present | .passed | .release | .laneReport | .readEvents => true
    | _ => false
  | .office => match k with
    | .present | .passed | .release | .laneReport => false
    | _ => true

/-- The lengths that R198 lists for a kind on a port. -/
def ReqKind.listedLength (k : ReqKind) (p : Port) (n : Nat) : Bool :=
  match k with
  | .present => 1 ≤ n && n ≤ 64
  | .passed | .release => n == 1
  | .laneReport => n == 2
  | .readEvents => n == if p = .office then 1 else 0
  | .issue => n == 14
  | .reissue | .suspend | .resume => n == 4
  | .restore => [16, 22, 28, 34, 40, 46].contains n
  | .addUse => [11, 17, 23, 29, 35].contains n
  | .inquire | .refund => n == 5
  | .loadProduct => n == 18
  | .setResort => n == 2
  | .setClock => n == 5
  | .readClock | .readLanes | .takeSnapshot | .readStore | .restart => n == 0
  | .loadCalendar => [3, 7, 12, 17, 22, 27, 32, 37, 42].contains n
  | .setLane => n == 7
  | .setScheme => n == 1
  | .setLift => n == 3
  | .setReport | .readCounts => n == 2
  | .loadTariff => n == 13
  | .setStorePolicy => n == 7
  | .setEvents => n == 8

/-- The lengths that step 3 of R184 accepts: the listed ones, and, for RESTORE, ADD_USE and LOAD_CALENDAR, the length that
the frame's own count byte or form byte asks for, as R198 lays down. -/
def ReqKind.lengthOk (k : ReqKind) (p : Port) (n : Nat) (payload : List Byte) : Bool :=
  k.listedLength p n && match k with
    | .restore => if byteAt 15 payload ≤ 5 then n == 16 + 6 * byteAt 15 payload else true
    | .addUse =>
      if 1 ≤ byteAt 4 payload ∧ byteAt 4 payload ≤ 5 then n == 5 + 6 * byteAt 4 payload else true
    | .loadCalendar =>
      if byteAt 0 payload = 0 then n == 3
      else if byteAt 0 payload = 1 ∧ 1 ≤ byteAt 1 payload ∧ byteAt 1 payload ≤ 8 then n == 2 + 5 * byteAt 1 payload
      else true
    | _ => true

/-- Step 5 of R184: the codes that SET_LANE (R105) and LANE_REPORT (R107) have checked when the port takes them. -/
def ReqKind.codesOk (k : ReqKind) (payload : List Byte) : Bool :=
  match k with
  | .setLane =>
    (match byteAt 0 payload with
      | 0 => byteAt 1 payload ≤ 7
      | 1 => byteAt 1 payload ≤ 3
      | 2 => true
      | _ => false) && byteAt 2 payload ≤ 3
  | .laneReport => byteAt 1 payload ≤ 2
  | _ => true

/-- The lane number that byte 0 of a gate request names; step 4 of R184 lets only lanes 0–7 through. -/
def laneArg (payload : List Byte) : Lane := Fin.ofNat 8 (byteAt 0 payload)

/-- The pass number in bytes 0–3 of an office request on an entry (R198). -/
def passArg (payload : List Byte) : Nat := fieldAt 0 4 payload

/-! ### The issue fields -/

/-- The 14 bytes of issue fields that ISSUE and RESTORE carry (R13, R198). -/
structure IssueFields where
  pass      : Nat
  seq       : Nat
  product   : Nat
  validFrom : Nat
  window    : Nat
  bought    : Nat
  price     : Nat
deriving DecidableEq, Repr

/-- The issue fields of a payload (R198). -/
def issueFields (p : List Byte) : IssueFields :=
  { pass := fieldAt 0 4 p, seq := byteAt 4 p, product := byteAt 5 p, validFrom := fieldAt 6 2 p, window := byteAt 8 p,
    bought := byteAt 9 p, price := fieldAt 10 4 p }

/-- Step 1 of R13. -/
def IssueFields.ok (f : IssueFields) : Bool :=
  1 ≤ f.pass && f.pass ≤ 4294967294 && f.seq ≤ 15 && f.product ≤ 63 && f.validFrom ≤ Config.lastDay
    && 1 ≤ f.window && f.window ≤ 60 && f.validFrom + f.window - 1 ≤ Config.lastDay
    && 1 ≤ f.bought && f.bought ≤ 30 && f.bought ≤ f.window && f.price ≤ 4000000

/-- The valid-to day: valid-from + window − 1 (R14). -/
def IssueFields.validTo (f : IssueFields) : Nat := f.validFrom + f.window - 1

/-! ### Use records -/

/-- A use record as a request carries it, before the checks of R18: six bytes (R198). The class is the number that the bytes
carry, 0–7. -/
structure RawRecord where
  day    : Nat
  cls    : Nat
  first  : Nat
  admits : Nat
  lifts  : LiftMask
deriving DecidableEq, Repr

/-- The record in six bytes: the day, the 24-bit value class × 2,097,152 + mask × 131,072 + second, the admit count
(R198). -/
def rawRecord (b : List Byte) : RawRecord :=
  { day := fieldAt 0 2 b, cls := fieldAt 2 3 b / 2097152, first := fieldAt 2 3 b % 131072, admits := byteAt 5 b,
    lifts := BitVec.ofNat 4 (fieldAt 2 3 b / 131072) }

/-- The first `n` records of a payload from byte `at_` on (R198). -/
def rawRecords (at_ : Nat) : Nat → List Byte → List RawRecord
  | 0, _ => []
  | n + 1, p => rawRecord (p.drop at_) :: rawRecords (at_ + 6) n p

/-- The field checks of step 3 of R18: class 0–3, first admit second 0–86,399, admit count 1–255, a non-empty mask. -/
def RawRecord.fieldsOk (r : RawRecord) : Bool :=
  r.cls ≤ 3 && r.first ≤ Config.lastSecond && 1 ≤ r.admits && r.admits ≤ 255 && r.lifts != 0

/-- The record that a checked request writes (R39). -/
def RawRecord.record (r : RawRecord) : UseRecord :=
  { day := r.day, cls := Fin.ofNat 4 r.cls, first := r.first, admits := r.admits, lifts := r.lifts }

/-- Whether the record days lie from `lo` to `hi`, do not exceed today and stand in strictly increasing order (R18). -/
def recordDaysOk (lo hi today : Nat) (rs : List RawRecord) : Bool :=
  rs.all (fun r => lo ≤ r.day && r.day ≤ hi && r.day ≤ today)
    && (rs.zip rs.tail).all fun q => q.1.day < q.2.day

/-- A use record as a response carries it, six bytes (R198). -/
def UseRecord.bytes (r : UseRecord) : List Byte :=
  bytesOf 2 r.day ++ bytesOf 3 (r.cls.val * 2097152 + r.lifts.toNat * 131072 + r.first) ++ [byteOf r.admits]

/-! ### The card image -/

/-- Why an image fails the integrity check (R11). -/
inductive Reason where
  | marker
  | format
  | length
  | check
deriving DecidableEq, Repr

/-- The fields of a parsed image (R10). -/
structure Card where
  pass      : Nat
  seq       : Nat
  product   : Nat
  validFrom : Nat
  resort    : Nat
deriving DecidableEq, Repr

/-- An image is unreadable for a reason, or a parsed image (R11). -/
inductive Image where
  | bad (r : Reason)
  | card (c : Card)
deriving DecidableEq, Repr

/-- The sum of the first 13 bytes of an image, each taken as 0–255 (R11). -/
def imageSum (b : List Byte) : Nat := ((b.take 13).map BitVec.toNat).sum

/-- The integrity check of R11, with the fields of R10 at the bytes of section 11.1. -/
def readImage (b : List Byte) : Image :=
  if b.length ≠ 15 then .bad .length
  else if byteAt 0 b ≠ 0xC6 then .bad .marker
  else if byteAt 1 b ≠ 1 then .bad .format
  else if byteAt 2 b ≠ 10 then .bad .length
  else if imageSum b + fieldAt 13 2 b ≠ 65535 then .bad .check
  else .card { pass := fieldAt 3 4 b, seq := byteAt 7 b, product := byteAt 8 b, validFrom := fieldAt 9 2 b,
               resort := fieldAt 11 2 b }

/-- The image that carries a card: the byte layout of section 11.1 with a valid check (R11). -/
def Card.bytes (c : Card) : List Byte :=
  let b := [0xC6, 1, 10] ++ bytesOf 4 c.pass ++ [byteOf c.seq, byteOf c.product] ++ bytesOf 2 c.validFrom
    ++ bytesOf 2 c.resort
  b ++ bytesOf 2 (65535 - imageSum b)

/-- The image of a PRESENT: the payload after the lane number (R58). -/
def imageArg (payload : List Byte) : Image := readImage (payload.drop 1)

/-! ### Other request forms -/

/-- The profile that a SET_LANE carries, clamped as R108 lays down. -/
def profileArg (p : List Byte) : Profile :=
  { holdTime := clamp 3 20 (byteAt 3 p), lateWindow := clamp 0 30 (byteAt 4 p), threshold := clamp 1 15 (byteAt 5 p),
    toggle := byteAt 6 p != 0 }

/-- The state code of a SET_LANE: a state, or none for KEEP (R105, R198). -/
def stateArg (p : List Byte) : Option WorkState :=
  match byteAt 2 p with
  | 0 => some .closed
  | 1 => some .normal
  | 2 => some .opened
  | _ => none

/-- The product that a LOAD_PRODUCT stores: clamped, or the power-on values when the defined flag is no (R7). -/
def productArg (p : List Byte) : Product :=
  if byteAt 1 p = 0 then .powerOn
  else
    { defined := true, kind := if byteAt 2 p = 0 then .rider else .control, mask := BitVec.ofNat 4 (byteAt 3 p)
      passback := clamp 0 3600 (fieldAt 4 2 p), refundable := byteAt 6 p != 0
      row := Fin.ofNat 8 (clamp 0 7 (byteAt 7 p)), fee := clamp 0 100000 (fieldAt 8 4 p)
      unit := clamp 1 10000 (fieldAt 12 2 p), minPayout := clamp 0 100000 (fieldAt 14 4 p) }

/-- The scheme of a scheme code 0–3 (R110). -/
def Scheme.ofCode : Nat → Option Scheme
  | 0 => some .s0
  | 1 => some .s1
  | 2 => some .s2
  | 3 => some .s3
  | _ => none

/-- An edge mode code: 0 RISE, 1 ANY (R198). -/
def Edge.ofCode : Nat → Option Edge
  | 0 => some .rise
  | 1 => some .any
  | _ => none

/-- The target port of a SET_EVENTS: 0–3 for G0–G3 and 4 for O (R198). -/
def portArg : Nat → Option Port
  | 0 => some (.gate 0)
  | 1 => some (.gate 1)
  | 2 => some (.gate 2)
  | 3 => some (.gate 3)
  | 4 => some .office
  | _ => none

/-- The five edge modes of a SET_EVENTS, in the order of R198, or none when a code is neither RISE nor ANY (R194). -/
def edgesArg (p : List Byte) : Option EdgeModes := do
  let laneState ← Edge.ofCode (byteAt 3 p)
  let readerSuspect ← Edge.ofCode (byteAt 4 p)
  let liftState ← Edge.ofCode (byteAt 5 p)
  let historyFull ← Edge.ofCode (byteAt 6 p)
  let tableLow ← Edge.ofCode (byteAt 7 p)
  return { laneState, readerSuspect, liftState, historyFull, tableLow }

end Sys2Proof.Machine
end

