-- ==== Sys2Proof/Machine/Sweep.lean ====
section
/-! DEFINITION. The day-close sweep (section 9.4) and the free-slot count that drives it (R5, R178). -/

namespace Sys2Proof.Machine

/-- `s` with the sweep's walk replaced. -/
def State.setWalk (s : State) (w : Option Walk) : State := s.withSweep { s.sweep with walk := w }

/-- The sweep at MAY raised to MUST, with a grant count of 0 (R171, R172); at MUST and in IDLE nothing changes. -/
def State.toMust (s : State) : State :=
  match s.sweep.walk with
  | some { cursor, urgency := .may } => s.setWalk (some { cursor, urgency := .must 0 })
  | _ => s

/-- The TABLE_LOW test of R172. -/
def State.tableLowTest (s : State) : State := if s.tableLow then s.toMust else s

/-- Whether the deadline test of R171 would raise the urgency: ACTIVE at MAY, the second of day at or after the deadline. -/
def State.deadlineReached (s : State) : Bool :=
  match s.sweep.walk with
  | some { urgency := .may, .. } => s.sweep.deadline ≤ s.clock.sec
  | _ => false

/-- The deadline test of R171. -/
def State.deadlineTest (s : State) : State :=
  if s.deadlineReached then s.toMust.raiseDevice .sweepLate else s

/-- The free-slot count replaced: TABLE_LOW is judged again, with its event and its effect on the urgency (R178, R172). -/
def State.setFreeSlots (s : State) (n : Nat) : State :=
  let t := s.withFreeSlots n
  (t.judgeLevel (.device .tableLow) s.tableLow t.tableLow).tableLowTest

/-- The start or restart of the sweep at a day rollover (R170), before the tests of R171 and R172. -/
def State.startSweep (s : State) : State :=
  match s.sweep.walk with
  | none => s.setWalk (some { cursor := 0, urgency := .may })
  | some w =>
    (s.setWalk (some { cursor := 0, urgency := match w.urgency with
      | .may => .may
      | .must _ => .must 0 })).raiseDevice .sweepLate

/-- Step 1 of a visit: whether the entry becomes EXPIRED (R175). -/
def Entry.lapses (e : Entry) (today : Nat) : Bool :=
  match e.state with
  | .live _ => e.validTo < today
  | _ => false

/-- The entry after step 1 of a visit (R175, R176). -/
def Entry.lapsed (e : Entry) (today : Nat) : Entry := if e.lapses today then { e with state := .expired } else e

/-- Step 2 of a visit, against the entry that step 1 leaves: whether it is retired (R175). -/
def Entry.retires (e : Entry) (today retention : Nat) : Bool :=
  match e.state with
  | .expired => e.validTo + retention < today
  | .refunded day _ => max e.validTo day + retention < today
  | _ => false

/-- The retirement of the entry in slot `n` (R177). -/
def State.retire (s : State) (n : Nat) (e : Entry) : State :=
  let t := (s.withSlots (Table.erase s.slots n)).writeHistory (s.history.freeChain e.chain)
  t.setFreeSlots (t.freeSlots + 1)

/-- The visit of one slot: a free slot and an entry with a hold marker are passed over (R175). -/
def State.visitSlot (s : State) (n : Nat) : State :=
  match s.entryAt n with
  | none => s
  | some e =>
    if e.marker.isSome then s
    else
      let e' := e.lapsed s.clock.day
      if e'.retires s.clock.day s.sweep.retention then s.retire n e'
      else if e' = e then s else s.putEntry n e'

/-- The end of a batch whose first slot was `cursor`: the cursor rises by 64, or, after the last slots, the sweep becomes IDLE
and SWEEP_DONE is raised (R175, R179). -/
def State.endBatch (s : State) (cursor : Nat) : State :=
  if Config.slotCount ≤ cursor + Config.batchSize then (s.setWalk none).raiseDevice .sweepDone
  else match s.sweep.walk with
    | some w => s.setWalk (some { w with cursor := cursor + Config.batchSize })
    | none => s

/-- One sweep batch: the 64 slots from the cursor on, in ascending order (R175). -/
def State.sweepBatch (s : State) : State :=
  match s.sweep.walk with
  | none => s
  | some w =>
    (((List.range Config.batchSize).map (w.cursor + ·)).foldl State.visitSlot s).endBatch w.cursor

/-- The sweep's walk after a warm reset, before the TABLE_LOW test of R173. -/
def Sweep.warm (w : Sweep) : Sweep :=
  { w with walk := w.walk.map fun _ => { cursor := 0, urgency := .may } }

end Sys2Proof.Machine
end

