-- ==== Sys2Proof/Machine/Replies.lean ====
section
/-! DEFINITION. The responses: outcome codes (R197) and the payload layouts of chapter 11 (R196, R199, R200, R201). DESIGN CHOICE
(log entry 19): a bit of a response byte for which the layout names no field is carried as 0; the manual does not say what such a
bit carries. -/

namespace Sys2Proof.Machine

/-- The number of an outcome or verdict: the table of R197. -/
def Code.number : Code → Nat
  | .ok => 0
  | .unknownRequest => 1
  | .notPermitted => 2
  | .badLength => 3
  | .badValue => 4
  | .unknown => 5
  | .exists_ => 6
  | .bucketFull => 7
  | .productVoid => 8
  | .sequenceExhausted => 9
  | .notAllowed => 10
  | .clockUnset => 11
  | .historyFull => 12
  | .clockStep => 13
  | .notClosed => 14
  | .wrongMode => 15
  | .noChange => 16
  | .nothingDue => 17
  | .alreadyRefunded => 18
  | .notRefundable => 19
  | .committed => 20
  | .late => 21
  | .unpaired => 22
  | .released => 23
  | .noHold => 24
  | .admitted => 32
  | .held => 33
  | .free => 34
  | .control => 35
  | .toggled => 36
  | .laneClosed => 37
  | .laneFault => 38
  | .unreadable => 39
  | .foreign => 40
  | .superseded => 41
  | .mismatch => 42
  | .inUse => 43
  | .laneBusy => 44
  | .liftStopped => 45
  | .suspended => 46
  | .refunded => 47
  | .expired => 48
  | .notYet => 49
  | .wrongLift => 50
  | .exhausted => 51
  | .passback => 52
  | .pace => 53

/-- The outcome byte (R197). -/
def Code.byte (c : Code) : Byte := byteOf c.number

/-- A response that carries the outcome byte alone (R197). -/
def bare (c : Code) : List Byte := [c.byte]

/-- A yes or no carried as a byte of its own: 1 or 0. DEDUCED for the defined and refundable bytes of LOAD_PRODUCT (log
entry 7). -/
def flagByte (b : Bool) : Byte := if b then 1 else 0

/-! ### Codes of states (R197, R201) -/

/-- ISSUED, ACTIVE and EXHAUSTED are coded 0, 1 and 2 (R197). -/
def LiveState.code : LiveState → Nat
  | .issued => 0
  | .active => 1
  | .exhausted => 2

/-- Entry states (R197). -/
def PassState.code : PassState → Nat
  | .live q => q.code
  | .suspended _ => 3
  | .refunded _ _ => 4
  | .expired => 5

/-- The suspended-from state, present while SUSPENDED (R1). -/
def PassState.prior? : PassState → Option LiveState
  | .suspended q => some q
  | _ => none

/-- An absent suspended-from state is carried as 0 (R196). -/
def PassState.priorCode (x : PassState) : Nat := (x.prior?.map LiveState.code).getD 0

/-- Lane states and remembered states: 0 CLOSED, 1 NORMAL, 2 OPEN (R201). -/
def WorkState.code : WorkState → Nat
  | .closed => 0
  | .normal => 1
  | .opened => 2

/-- The lane byte: lane state in bits 1–0, remembered state in bits 3–2, its presence in bit 4 (R201). -/
def LaneState.laneByte : LaneState → Nat
  | .work w => w.code
  | .fault w => 3 + 4 * w.code + 16

/-- Lift states (R201). -/
def LiftState.code : LiftState → Nat
  | .stopped => 0
  | .running => 1
  | .slowed => 2

/-- Schemes S0–S3. -/
def Scheme.code : Scheme → Nat
  | .s0 => 0
  | .s1 => 1
  | .s2 => 2
  | .s3 => 3

/-- Clock states (R201). -/
def ClockState.code : ClockState → Nat
  | .unset => 0
  | .running => 1

/-- Kinds (R198). -/
def Kind.code : Kind → Nat
  | .rider => 0
  | .control => 1

/-- The reason byte of a PRESENT response (R199). -/
def Reason.code : Reason → Nat
  | .marker => 1
  | .format => 2
  | .length => 3
  | .check => 4

/-- Edge modes (R198). -/
def Edge.code : Edge → Nat
  | .rise => 0
  | .any => 1

/-! ### PRESENT (R80, R81, R199) -/

/-- Days remaining as a PRESENT response carries it: days bought minus days used, and 0 for a CONTROL pass (R81). -/
def State.daysRemaining (s : State) (e : Entry) : Nat :=
  if (s.product e.product).kind = .control then 0 else e.bought - e.used

/-- The response to a PRESENT for which no entry was found (R80, R199). -/
def presentNoEntry (v : Code) (l : Lane) (reason : Nat) : List Byte :=
  [v.byte, byteOf l.val, byteOf reason, 0, 0, 0]

/-- The response to a PRESENT whose entry stands in slot `n` at the end of the evaluation (R80, R81, R199).
Carried as 0, having no field: bits 7–2 of byte 3 (log entry 19). -/
def State.presentEntry (s : State) (v : Code) (l : Lane) (n : Nat) (debited : Bool) : List Byte :=
  match s.entryAt n with
  | none => presentNoEntry v l 0
  | some e =>
    [v.byte, byteOf l.val, 0, byteOf (bitAt 0 true + bitAt 1 debited), byteOf e.state.code,
     byteOf (s.daysRemaining e)]

/-! ### PASSED, RELEASE and LANE_REPORT (R201) -/

/-- The response to a PASSED or a RELEASE (R85, R90, R91, R201).
Carried as 0, having no field: bits 7–1 of byte 2 (log entry 19). -/
def passReply (c : Code) (l : Lane) (pass : Option Nat) : List Byte :=
  [c.byte, byteOf l.val, flagByte pass.isSome] ++ bytesOf 4 (pass.getD 0)

/-- The response to a LANE_REPORT (R107, R201). Carried as 0, having no field: bits 7–5 of the lane byte (log entry 19). -/
def State.laneReply (s : State) (c : Code) (l : Lane) : List Byte :=
  [c.byte, byteOf l.val, byteOf (s.lane l).state.laneByte]

/-- The response to a SET_LANE (R106, R201). Carried as 0, having no field: bits 7–5 of each lane byte (log entry 19). -/
def State.setLaneReply (s : State) (ls : List Lane) (p : Profile) : List Byte :=
  [Code.ok.byte, byteOf ls.length, byteOf p.holdTime, byteOf p.lateWindow, byteOf p.threshold, flagByte p.toggle]
    ++ ls.flatMap fun l => [byteOf l.val, byteOf (s.lane l).state.laneByte]

/-! ### INQUIRE and REFUND (R200) -/

/-- The state byte of SUSPEND and RESUME: state in bits 2–0, suspended-from in bits 4–3 (R201).
Carried as 0, having no field: bits 7–5 (log entry 19). -/
def PassState.stateByte (x : PassState) : Nat := x.code + 8 * x.priorCode

/-- The refund day and refund amount, present while REFUNDED (R1). -/
def PassState.refund? : PassState → Option (Nat × Nat)
  | .refunded d a => some (d, a)
  | _ => none

/-- Bytes 21–23 of an INQUIRE response (R200). -/
def LastAdmit.word (a : LastAdmit) : Nat := a.lift.val * 2097152 + a.lane.val * 262144 + a.sec

/-- The 34 + 6 × n bytes of an INQUIRE response with outcome OK (R22, R23, R200), given the records carried and the record count
of the chain. Carried as 0, having no field: bit 7 of byte 1 and bit 3 of byte 7 (log entry 19). -/
def Entry.inquiry (e : Entry) (carried : List UseRecord) (count : Nat) (more : Bool) : List Byte :=
  [Code.ok.byte,
   byteOf (bitAt 0 e.state.prior?.isSome + bitAt 1 e.lastUse.isSome + bitAt 2 e.lastAdmit.isSome
     + bitAt 3 e.chain.isSome + bitAt 4 e.state.refund?.isSome + bitAt 5 e.marker.isSome + bitAt 6 more)]
    ++ bytesOf 4 e.pass
    ++ [byteOf (e.state.stateByte + 32 * ((e.chain.map Chain.fill).getD 0)),
        byteOf (16 * e.seq + ((e.marker.map Fin.val).getD 0)), byteOf e.product.val]
    ++ bytesOf 2 e.validFrom ++ [byteOf (e.validTo - e.validFrom)]
    ++ bytesOf 2 (e.bought * 1024 + e.used * 32 + e.lost) ++ bytesOf 3 e.price ++ bytesOf 2 (e.lastUse.getD 0)
    ++ bytesOf 2 ((e.lastAdmit.map LastAdmit.day).getD 0) ++ bytesOf 3 ((e.lastAdmit.map LastAdmit.word).getD 0)
    ++ bytesOf 2 ((e.chain.map Chain.head).getD 0) ++ bytesOf 2 ((e.chain.map Chain.tail).getD 0)
    ++ bytesOf 2 ((e.state.refund?.map Prod.fst).getD 0) ++ bytesOf 3 ((e.state.refund?.map Prod.snd).getD 0)
    ++ [byteOf (32 * carried.length + count)] ++ carried.flatMap UseRecord.bytes

/-- A REFUND response of 6 bytes: CLOCK_UNSET, UNKNOWN, NOT_REFUNDABLE (R160, R200). -/
def refundBare (c : Code) (pass : Nat) : List Byte := [c.byte, 0] ++ bytesOf 4 pass

/-- The values of a valuation that a REFUND response carries (R160). -/
structure Valued where
  amount : Nat
  value  : Nat
  days   : Nat
  cap    : Nat
deriving DecidableEq, Repr

/-- A REFUND response of 22 bytes (R160, R200). `stored` is the stored refund amount of ALREADY_REFUNDED.
Carried as 0, having no field: bits 7–5 of byte 1 (log entry 19). -/
def refundReply (c : Code) (pass : Nat) (x : PassState) (v : Option Valued) (quoted : Bool) (stored : Option Nat) :
    List Byte :=
  [c.byte,
   byteOf (bitAt 0 true + bitAt 1 v.isSome + bitAt 2 quoted + bitAt 3 x.refund?.isSome + bitAt 4 stored.isSome)]
    ++ bytesOf 4 pass ++ [byteOf x.code]
    ++ bytesOf 3 ((v.map Valued.amount).getD 0) ++ bytesOf 3 ((v.map Valued.value).getD 0)
    ++ [byteOf ((v.map Valued.days).getD 0)] ++ bytesOf 3 ((v.map Valued.cap).getD 0)
    ++ bytesOf 2 ((x.refund?.map Prod.fst).getD 0) ++ bytesOf 3 (stored.getD 0)

/-! ### Port-served requests (R201) -/

/-- A product, laid out as the request (R7, R201). Carried as 0, standing for no lift: bits 7–4 of the mask byte (log entry 19). -/
def Product.bytes (p : Product) (code : Nat) : List Byte :=
  [byteOf code, flagByte p.defined, byteOf p.kind.code, byteOf p.mask.toNat] ++ bytesOf 2 p.passback
    ++ [flagByte p.refundable, byteOf p.row.val] ++ bytesOf 4 p.fee ++ bytesOf 2 p.unit ++ bytesOf 4 p.minPayout

/-- The response to a SET_CLOCK, with the clock as it stands after the request (R45, R46, R201). -/
def State.clockReply (s : State) (c : Code) : List Byte :=
  [c.byte, byteOf s.clock.state.code] ++ bytesOf 2 s.clock.day ++ bytesOf 3 s.clock.sec

/-- The class of a day (R50). -/
def Calendar.classOf (c : Calendar) (day : Nat) : DayClass :=
  if h : c.base ≤ day ∧ day < c.base + 512 then c.classes[day - c.base]'(by omega) else 1

/-- The response to a READ_CLOCK (R49, R201). Carried as 0, having no field: bits 7–4 of byte 1 (log entry 19). -/
def State.readClockReply (s : State) : List Byte :=
  [Code.ok.byte,
   byteOf (s.clock.state.code + bitAt 1 s.clock.stalled + 4 * (s.calendar.classOf s.clock.day).val)]
    ++ bytesOf 2 s.clock.day ++ bytesOf 3 s.clock.sec ++ bytesOf 4 s.clock.ticks

/-- The response to a LOAD_CALENDAR; entries written are present for the RUNS form (R51, R201).
Carried as 0, having no field: bits 7–1 of byte 1 (log entry 19). -/
def calendarReply (base : Nat) (written : Option Nat) : List Byte :=
  [Code.ok.byte, flagByte written.isSome] ++ bytesOf 2 base ++ bytesOf 2 (written.getD 0)

/-- The five bytes of a lane in a READ_LANES response (R125, R201).
Carried as 0, having no field: bit 7 of the second byte (log entry 19). -/
def LaneRec.bytes (r : LaneRec) : List Byte :=
  [byteOf (r.state.laneByte + bitAt 5 r.suspect + bitAt 6 r.hold.isSome + bitAt 7 r.dwell.isSome),
   byteOf (r.profile.holdTime + bitAt 5 r.profile.toggle + bitAt 6 (r.dwell.any Dwell.spent)),
   byteOf r.profile.lateWindow, byteOf r.profile.threshold, byteOf r.unreadRun]

/-- The five bytes of a lift in a READ_LANES response (R125, R201). -/
def LiftRec.bytes (r : LiftRec) : List Byte :=
  [byteOf r.established.code, byteOf r.rate, byteOf r.burst] ++ bytesOf 2 r.level

/-- The response to a READ_LANES (R125, R201). -/
def State.readLanesReply (s : State) : List Byte :=
  [Code.ok.byte, byteOf s.scheme.code] ++ allLanes.flatMap (fun l => (s.lane l).bytes)
    ++ allLifts.flatMap fun f => (s.lift f).bytes

/-- Ticks remaining, present in AUTO (R132). -/
def ReportMode.remaining? : ReportMode → Option Nat
  | .manual => none
  | .auto n => some n

/-- The response to a SET_REPORT (R136, R201). Carried as 0, having no field: bits 7–1 of byte 1 (log entry 19). -/
def CountUnit.reportReply (c : CountUnit) : List Byte :=
  [Code.ok.byte, flagByte c.mode.remaining?.isSome, flagByte c.mode.remaining?.isSome, byteOf c.period]
    ++ bytesOf 2 c.round ++ bytesOf 2 (c.mode.remaining?.getD 0)

/-- The response to a TAKE_SNAPSHOT (R137, R201). Carried as 0, having no field: bit 0 and bits 7–3 of byte 3 (log entry 19). -/
def CountUnit.snapshotReply (c : CountUnit) : List Byte :=
  [Code.ok.byte] ++ bytesOf 2 c.snapRound ++ [byteOf (bitAt 1 c.snapOverrun + bitAt 2 c.snapSaturated)]

/-- The counters of a part, `w` bytes each: part 0–7 a lane in the order of R127, part 8 LIFTS lift by lift (R201). -/
def CountSet.part (c : CountSet) (part w : Nat) : List Byte :=
  if part < 8 then (c.lanes[Fin.ofNat 8 part]).toList.flatMap (bytesOf w)
  else c.lifts.toList.flatMap fun v => v.toList.flatMap (bytesOf w)

/-- The response to a READ_COUNTS of the SNAPSHOT (R138, R201).
Carried as 0, having no field: bits 7–5 of byte 5 (log entry 19). -/
def CountUnit.snapshotPart (c : CountUnit) (part : Nat) : List Byte :=
  [Code.ok.byte, 0, byteOf part] ++ bytesOf 2 c.snapRound
    ++ [byteOf (bitAt 0 c.snapUnread + bitAt 1 c.snapOverrun + bitAt 2 c.snapSaturated
        + bitAt 3 c.mode.remaining?.isSome + bitAt 4 c.mode.remaining?.isSome)]
    ++ bytesOf 2 (c.mode.remaining?.getD 0) ++ c.snapshot.part part 2

/-- The response to a READ_COUNTS of the DAY set (R139, R201). -/
def State.dayPart (s : State) (part : Nat) : List Byte :=
  [Code.ok.byte, 1, byteOf part] ++ bytesOf 2 (if s.clock.state = .unset then 0 else s.clock.day)
    ++ s.counts.day.part part 4

/-- The response to a SET_STORE_POLICY: the four values as written, laid out as the request (R180, R201). -/
def State.policyReply (s : State) : List Byte :=
  [Code.ok.byte, byteOf s.sweep.retention] ++ bytesOf 3 s.sweep.deadline ++ bytesOf 2 s.sweep.floor
    ++ [byteOf s.arbiter.burstLimit]

/-- The grant count, present at MUST (R169). -/
def Urgency.grants? : Urgency → Option Nat
  | .may => none
  | .must n => some n

/-- The response to a READ_STORE (R181, R201).
Carried as 0, having no field: bits 7–2 of byte 1 and bit 7 of byte 2 (log entry 19). -/
def State.readStoreReply (s : State) : List Byte :=
  let w := s.sweep.walk
  let g := w.bind fun x => x.urgency.grants?
  [Code.ok.byte, byteOf (bitAt 0 w.isSome + bitAt 1 g.isSome),
   byteOf (bitAt 0 w.isSome + bitAt 1 g.isSome + 4 * g.getD 0 + bitAt 5 s.tableLow + bitAt 6 s.history.full)]
    ++ bytesOf 2 ((w.map Walk.cursor).getD 0) ++ bytesOf 2 s.freeSlots ++ bytesOf 2 s.history.free.length
    ++ [byteOf s.arbiter.burst, byteOf s.sweep.retention] ++ bytesOf 3 s.sweep.deadline ++ bytesOf 2 s.sweep.floor
    ++ [byteOf s.arbiter.burstLimit]

/-- The eight bytes of a SET_EVENTS response after the outcome, laid out as the request (R194, R201); bit 15 of the masks, which
the request ignores, is carried as 0 (log entry 8). -/
def PortRec.eventsBytes (r : PortRec) (target : Nat) : List Byte :=
  [byteOf target] ++ bytesOf 2 r.masks.toNat
    ++ [byteOf r.edges.laneState.code, byteOf r.edges.readerSuspect.code, byteOf r.edges.liftState.code,
        byteOf r.edges.historyFull.code, byteOf r.edges.tableLow.code]

/-- The four flags of a lane at a port, bit 0 LANE_STATE to bit 3 TAILGATE (R201). -/
def PortRec.laneNibble (r : PortRec) (l : Lane) : Nat :=
  bitAt 0 (r.flagged (.laneState l)) + bitAt 1 (r.flagged (.readerSuspect l)) + bitAt 2 (r.flagged (.holdExpired l))
    + bitAt 3 (r.flagged (.tailgate l))

/-- The LIFT_STATE flags of a port, bit n for lift n (R201). -/
def PortRec.liftNibble (r : PortRec) : Nat := (allLifts.map fun f => bitAt f.val (r.flagged (.liftState f))).sum

/-- The LIFT_STATE conditions, bit n for lift n (R201). -/
def State.liftConditions (s : State) : Nat := (allLifts.map fun f => bitAt f.val (s.lift f).stateCondition).sum

/-- The device flags of the office, ROUND_READY in bit 0 and RESTARTED in bit 9 (R201). -/
def PortRec.deviceFlags (r : PortRec) : Nat := (deviceEvents.map fun d => bitAt d.index (r.flagged (.device d))).sum

/-- The response to a READ_EVENTS of gate port Gk (R192, R201).
Carried as 0, having no field: bits 6–4 of byte 2 (log entry 19). -/
def State.gateEventsReply (s : State) (k : Fin 4) : List Byte :=
  let r := s.port (.gate k)
  [Code.ok.byte, byteOf (r.laneNibble (evenLane k) + 16 * r.laneNibble (oddLane k)),
   byteOf (r.liftNibble + bitAt 7 r.restarted),
   byteOf (bitAt 0 (s.lane (evenLane k)).stateCondition + bitAt 1 (s.lane (oddLane k)).stateCondition
     + bitAt 2 (s.lane (evenLane k)).suspect + bitAt 3 (s.lane (oddLane k)).suspect + 16 * s.liftConditions)]

/-- The lane summary of the office, bit n for lane n (R193, R201). -/
def State.summaryByte (s : State) : Nat := (allLanes.map fun l => bitAt l.val (s.summaryHas l)).sum

/-- The response to a READ_EVENTS of the office with a lane selector, 8 for NONE (R193, R201). With NONE the selected lane's
flags and conditions are carried as 0. Carried as 0, having no field: bit 14 of bytes 1–2 (log entry 19). -/
def State.officeEventsReply (s : State) (sel : Nat) : List Byte :=
  let l : Lane := Fin.ofNat 8 sel
  let chosen := sel < 8
  [Code.ok.byte]
    ++ bytesOf 2 (s.office.deviceFlags + 1024 * s.office.liftNibble + bitAt 15 s.office.restarted)
    ++ [byteOf s.summaryByte, byteOf ((if chosen then s.office.laneNibble l else 0) + 16 * sel),
        byteOf (bitAt 0 s.history.full + bitAt 1 s.tableLow + 4 * s.liftConditions
          + bitAt 6 (chosen && (s.lane l).stateCondition) + bitAt 7 (chosen && (s.lane l).suspect))]

end Sys2Proof.Machine
end

