-- ==== Sys2Proof/Machine/Clock.lean ====
section
/-! DEFINITION. The season clock (chapter 3): the tick with everything that is taken within it, setting and trimming the clock,
and the calendar. -/

namespace Sys2Proof.Machine

/-- Whether a tick rolls the day (R42, R43). -/
def Clock.rolls (c : Clock) : Bool :=
  c.state == .running && !c.stalled && Config.lastSecond ≤ c.sec && c.day < Config.lastDay

/-- Whether a tick stalls the clock (R42, R44). -/
def Clock.stalls (c : Clock) : Bool :=
  c.state == .running && !c.stalled && Config.lastSecond ≤ c.sec && Config.lastDay ≤ c.day

/-- Whether a tick advances the second of day within the day (R42). -/
def Clock.advances (c : Clock) : Bool := c.state == .running && !c.stalled && c.sec < Config.lastSecond

/-- The clock after a tick: the table of R42; the tick counter rises in every case and wraps (R40). -/
def Clock.ticked (c : Clock) : Clock :=
  let c' := { c with ticks := (c.ticks + 1) % 4294967296 }
  if c.rolls then { c' with day := c.day + 1, sec := 0 }
  else if c.stalls then { c' with stalled := true }
  else if c.advances then { c' with sec := c.sec + 1 }
  else c'

/-- The clock's part of a tick, with what the rollover hands over within it: DAY_ROLLOVER, the day counters and the start of the
sweep (R43), or CLOCK_STALL (R44). -/
def State.tickClock (s : State) : State :=
  let t := s.withClock s.clock.ticked
  if s.clock.rolls then ((t.raiseDevice .dayRollover).rollCounts).startSweep
  else if s.clock.stalls then t.raiseDevice .clockStall
  else t

/-- The sweep's part of a tick: the deadline test, and after a rollover the TABLE_LOW test too (R170, R171, R172). -/
def State.tickSweep (s : State) (rolled : Bool) : State :=
  if rolled then s.deadlineTest.tableLowTest else s.deadlineTest

/-- The state when a tick has reached the clock, before the sweep is handed the second of day. -/
def State.clocked (s : State) (lines : LiftLines) : State := (s.withPins { s.pins with lines := lines }).tickClock

/-- One tick, taken whole (R40): the clock with its rollover or stall, the sweep's tests, the filters and pace buckets of the
lifts, the hold tests, and the report timer. The other blocks read now as this tick has left it. -/
def State.tickAll (s : State) (lines : LiftLines) : State :=
  let t := (s.clocked lines).tickSweep s.clock.rolls
  let t := allLifts.foldl (fun u f => u.tickLift lines f) t
  t.testHolds.tickTimer

/-! ### SET_CLOCK and READ_CLOCK -/

/-- The target day of a SET_CLOCK (R198). -/
def targetDay (p : List Byte) : Nat := fieldAt 0 2 p
/-- The target second of a SET_CLOCK (R198). -/
def targetSecond (p : List Byte) : Nat := fieldAt 2 3 p

/-- The check of a target (R45, step 1 of R46). -/
def targetOk (day sec : Nat) : Bool := day ≤ Config.lastDay && sec ≤ Config.lastSecond

/-- Whether two seconds of day differ by no more than 120 (R46). -/
def withinTrim (a b : Nat) : Bool := a ≤ b + 120 && b ≤ a + 120

/-- SET_CLOCK (R45, R46): in UNSET it sets the clock running, in RUNNING it trims. After every accepted trim the sweep is handed
the second of day (R47, R171), a trim of 0 s too: that it "changes nothing" (R46) is read of the clock (DEDUCED, log entry 20). -/
def State.setClock (s : State) (p : List Byte) : State × List Byte :=
  let day := targetDay p
  let sec := targetSecond p
  if targetOk day sec = false then (s, s.clockReply .badValue)
  else match s.clock.state with
    | .unset =>
      let t := s.withClock { s.clock with state := .running, day := day, sec := sec, stalled := false }
      (t, t.clockReply .ok)
    | .running =>
      if day ≠ s.clock.day ∨ withinTrim sec s.clock.sec = false then (s, s.clockReply .clockStep)
      else
        let t := (s.withClock { s.clock with
          sec := sec, stalled := if sec < Config.lastSecond then false else s.clock.stalled }).deadlineTest
        (t, t.clockReply .ok)

/-- READ_CLOCK (R49): it changes nothing. -/
def State.readClock (s : State) : State × List Byte := (s, s.readClockReply)

/-! ### The calendar (section 3.7) -/

/-- A class written into the entries from `start` to `start` + `count` − 1; entries above 511 are ignored (R52). -/
def Calendar.run (c : Calendar) (start count : Nat) (k : DayClass) : Calendar :=
  { c with classes := Vector.ofFn fun i : Fin 512 =>
      if start ≤ i.val ∧ i.val < start + count then k else c.classes[i] }

/-- The number of entries that a run writes (R52). -/
def runLength (start count : Nat) : Nat := min (start + count) 512 - start

/-- The runs of a LOAD_CALENDAR from byte `at_` on, applied in order, with the number of entries written so far (R52). -/
def applyRuns (at_ : Nat) : Nat → List Byte → Calendar → Nat → Calendar × Nat
  | 0, _, c, n => (c, n)
  | r + 1, p, c, n =>
    let start := fieldAt at_ 2 p
    let count := fieldAt (at_ + 2) 2 p
    applyRuns (at_ + 5) r p (c.run start count (Fin.ofNat 4 (clamp 0 3 (byteAt (at_ + 4) p)))) (n + runLength start count)

/-- LOAD_CALENDAR in the BASE form (R51). -/
def State.loadCalendarBase (s : State) (p : List Byte) : State × List Byte :=
  let base := clamp 0 Config.lastDay (fieldAt 1 2 p)
  (s.withCalendar { s.calendar with base := base }, calendarReply base none)

/-- LOAD_CALENDAR in the RUNS form (R51, R52). -/
def State.loadCalendarRuns (s : State) (p : List Byte) : State × List Byte :=
  let r := byteAt 1 p
  if r = 0 ∨ 8 < r then (s, bare .badValue)
  else
    let x := applyRuns 2 r p s.calendar 0
    (s.withCalendar x.1, calendarReply x.1.base (some x.2))

/-- A LOAD_CALENDAR, by its form byte; any other form code is refused (R51, R198). -/
def State.loadCalendar (s : State) (p : List Byte) : State × List Byte :=
  if byteAt 0 p = 0 then s.loadCalendarBase p
  else if byteAt 0 p = 1 then s.loadCalendarRuns p
  else (s, bare .badValue)

end Sys2Proof.Machine
end

