-- ==== Sys2Proof/Machine/Resets.lean ====
section
/-! DEFINITION. The warm reset and the power-on reset (00_scope.md, 4.6, and the reset rule of every chapter). -/

namespace Sys2Proof.Machine

/-- The bytes of a frame: the header, byte 2 the payload length, and the payload (R197). -/
def Frame.bytes (f : Frame) : List Byte := [f.kind, f.tag, byteOf f.payload.length] ++ f.payload

/-- The empty frame of FETCH (R187, R197). -/
def emptyFrame : Frame := { kind := 0, tag := 0, payload := [] }

/-- A transaction that a warm reset ends: a frame that it was sending is not taken, and the rest of a FETCH shifts out the bytes of
the empty frame, from its first (R188; DEDUCED, log entry 11). -/
def Transaction.cut : Transaction → Transaction
  | .sending _ | .over => .over
  | .fetching _ _ => .fetching emptyFrame.bytes false

/-- A port after a warm reset: both queues dropped, a transaction in progress ended, every flag clear, restarted mark yes; masks and
edge modes kept (R188, R195). -/
def PortRec.warm (r : PortRec) : PortRec :=
  { r with requests := [], responses := [], transaction := r.transaction.map Transaction.cut, restarted := true, flags := [] }

/-- The arbiter after a warm reset: pending expiries abandoned, the lane burst counter 0; the sequences go on (R102, R168). -/
def Arbiter.warm (a : Arbiter) : Arbiter := { a with expiries := [], burst := 0 }

/-- A warm reset, taken as one event at every block (R93, R102, R126, R141, R173, R188, R195). -/
def State.warmReset (s : State) : State :=
  let t := s.rollBackAll
  let t := t.withLanes (Vector.ofFn fun l : Lane => (t.lane l).warm)
  let t := t.withLifts (Vector.ofFn fun f : Lift => (t.lift f).warm)
  let t := t.withCounts t.counts.warm
  let t := t.withArbiter t.arbiter.warm
  let t := (t.withSweep t.sweep.warm).tableLowTest
  let t := t.withGates (Vector.ofFn fun k : Fin 4 => (t.port (.gate k)).warm)
  let t := t.withOffice t.office.warm
  t.raiseDevice .restarted

/-- Power-on reset: every block at its initial state; the input pins keep the levels that they are driven to, and the model's own
fields go on (R6, R9, R41, R50, R102, R126, R141, R142, R169, R188, R195). -/
def State.powerOn (s : State) : State :=
  ((State.reset.withPending s.pending).withPins s.pins).withOrderIndex s.orderIndex

end Sys2Proof.Machine
end

