-- ==== Sys2Proof/Machine/Arbiter.lean ====
section
/-! DEFINITION. The store arbiter (sections 9.1 to 9.3): who waits, who is eligible, who is granted the store next, and what a
grant does to the arbiter's own counters. -/

namespace Sys2Proof.Machine

/-- A request that waits for the store: its port, its place in the request queue, its frame and its arrival stamp. -/
structure StoreReq where
  port  : Port
  index : Nat
  frame : Frame
  stamp : Nat
deriving DecidableEq, Repr

/-- The kind of a waiting request. -/
def StoreReq.kind? (r : StoreReq) : Option ReqKind := ReqKind.ofCode r.frame.kind

/-- The class of a waiting request (R161). -/
def StoreReq.storeClass (r : StoreReq) : Option StoreClass := r.kind?.bind ReqKind.storeClass

/-- The pass number that a waiting request names, or none: the table of R163. -/
def StoreReq.pass? (r : StoreReq) : Option Nat :=
  match r.kind? with
  | some .present =>
    match imageArg r.frame.payload with
    | .card c => some c.pass
    | .bad _ => none
  | some .issue | some .reissue | some .suspend | some .resume | some .restore | some .addUse | some .inquire
  | some .refund => some (passArg r.frame.payload)
  | _ => none

/-- The kinds that wait while a hold is open on the pass they name (R166). -/
def ReqKind.waitsForHold : ReqKind → Bool
  | .reissue | .suspend | .resume | .addUse | .refund => true
  | _ => false

/-- The store requests of one queue, with their places counted from `i`. -/
def storeReqsOf (p : Port) : Nat → List Waiting → List StoreReq
  | _, [] => []
  | i, w :: rest =>
    match w.role with
    | .store stamp => { port := p, index := i, frame := w.frame, stamp := stamp } :: storeReqsOf p (i + 1) rest
    | _ => storeReqsOf p (i + 1) rest

/-- Every request that waits for the store, at any port (R161). -/
def State.storeReqs (s : State) : List StoreReq := allPorts.flatMap fun p => storeReqsOf p 0 (s.port p).requests

/-- Whether a port's response queue has a free place (R164). -/
def State.hasPlace (s : State) (p : Port) : Bool := (s.port p).responses.length < Config.queuePlaces

/-- Whether a hold is open on a pass (R166). -/
def State.holdOpenOn (s : State) (pass : Nat) : Bool := allLanes.any fun l => (s.lane l).hold.any fun h => h.pass == pass

/-- Whether an older request that names the same pass is still waiting (R165). -/
def State.olderNames (s : State) (r : StoreReq) (pass : Nat) : Bool :=
  s.storeReqs.any fun q => q.stamp < r.stamp && q.pass? == some pass

/-- Whether a waiting request of class A, B or C is eligible (R164, R165, R166). -/
def State.eligible (s : State) (r : StoreReq) : Bool :=
  s.hasPlace r.port && match r.pass? with
    | none => true
    | some n => !s.olderNames r n && !(r.kind?.any ReqKind.waitsForHold && s.holdOpenOn n)

/-- The eligible requests of a class. -/
def State.eligibleOf (s : State) (k : StoreClass) : List StoreReq :=
  s.storeReqs.filter fun r => r.storeClass == some k && s.eligible r

/-- The member of a list with the lowest stamp (R167). -/
def oldest {α : Type} (stamp : α → Nat) : List α → Option α
  | [] => none
  | x :: rest =>
    match oldest stamp rest with
    | none => some x
    | some y => if stamp y < stamp x then some y else some x

/-- What the arbiter grants the store to (R167). -/
inductive Grant where
  | batch
  | expiry (x : Expiry)
  | request (r : StoreReq)
deriving DecidableEq, Repr

/-- Whether a batch is due ahead of every requester: ACTIVE at MUST with a grant count of 4 (R167, R174). -/
def State.batchDue (s : State) : Bool :=
  match s.sweep.walk with
  | some { urgency := .must n, .. } => 4 ≤ n
  | _ => false

/-- The oldest eligible class A requester; an expiry is always eligible (R164, R167). -/
def State.oldestA (s : State) : Option Grant :=
  match oldest StoreReq.stamp (s.eligibleOf .a), oldest Expiry.stamp s.arbiter.expiries with
  | some r, some x => if x.stamp < r.stamp then some (.expiry x) else some (.request r)
  | some r, none => some (.request r)
  | none, some x => some (.expiry x)
  | none, none => none

/-- The B-or-C case: the table of R168. -/
def State.contested (s : State) : Option StoreReq :=
  match oldest StoreReq.stamp (s.eligibleOf .b), oldest StoreReq.stamp (s.eligibleOf .c) with
  | some b, some c => if s.arbiter.burst < s.arbiter.burstLimit then some b else some c
  | some b, none => some b
  | none, some c => some c
  | none, none => none

/-- The lane burst counter after a grant in the B-or-C case: the table of R168. -/
def State.burstAfter (s : State) : Nat :=
  if (s.eligibleOf .b).isEmpty = false ∧ (s.eligibleOf .c).isEmpty = false ∧ s.arbiter.burst < s.arbiter.burstLimit then
    s.arbiter.burst + 1
  else 0

/-- The next grant: the table of R167. -/
def State.select (s : State) : Option Grant :=
  if s.batchDue then some .batch
  else match s.oldestA with
    | some g => some g
    | none =>
      match s.contested with
      | some r => some (.request r)
      | none => if s.sweep.walk.isSome then some .batch else none

/-- The sweep's grant count after a grant (R174): at MUST a requester's grant raises it, up to 4, and a batch returns it to 0. -/
def Urgency.charged (u : Urgency) : Grant → Urgency
  | .batch => match u with
    | .may => .may
    | .must _ => .must 0
  | _ => match u with
    | .may => .may
    | .must n => .must (min 4 (n + 1))

/-- The state in which a grant is evaluated: the grant has its number (R83), the grant count is charged (R174), and in the B-or-C
case the lane burst counter is set (R168). -/
def State.charge (s : State) (g : Grant) : State :=
  let burst := match g with
    | .request r => if r.storeClass = some .a then s.arbiter.burst else s.burstAfter
    | _ => s.arbiter.burst
  (s.withArbiter { s.arbiter with nextGrant := s.arbiter.nextGrant + 1, burst := burst }).setWalk
    (s.sweep.walk.map fun w => { w with urgency := w.urgency.charged g })

end Sys2Proof.Machine
end

