-- ==== Sys2Proof/Machine/Ports.lean ====
section
/-! DEFINITION. The ports (sections 10.1 to 10.4): the status byte, taking and checking a frame, completing a request, the
requests a port serves, and fetching a response. -/

namespace Sys2Proof.Machine

/-- What a command answers. -/
abbrev Result := Host.Outcome State Fault Refusal

/-! ### The transaction (R182, R197) -/

/-- The request free count: 8 less the requests waiting, and 0 while the reset line is active (R182, R188). -/
def State.requestFree (s : State) (p : Port) : Nat :=
  if s.pins.resetActive then 0 else Config.queuePlaces - (s.port p).requests.length

/-- The status byte as it stands when a transaction begins (R182, R197). -/
def State.statusByte (s : State) (p : Port) : Byte :=
  byteOf (bitAt 7 (s.port p).attention + bitAt 6 (s.port p).restarted + 8 * min 7 (s.requestFree p)
    + min 7 (s.port p).responses.length)

/-- The transaction that a transaction code opens (R182, R197): 1 is SEND, 2 is FETCH, and every other code is STATUS. A FETCH shifts
out the oldest response, or the empty frame when none waits or the reset line is active (R187, R188); which of them is settled as
the transaction begins (DEDUCED, log entry 11). -/
def State.opening (s : State) (p : Port) (code : Byte) : Transaction :=
  if code = Config.sendCode then .sending []
  else if code = Config.fetchCode then
    let oldest := if s.pins.resetActive then none else (s.port p).responses.head?
    .fetching (oldest.getD emptyFrame).bytes oldest.isSome
  else .over

/-- A transaction of port `p` begins with a transaction code: the port shifts out the status byte meanwhile (R182). A transaction that
was in progress has been ended by the master, which takes nothing and delivers nothing more (R183, R187). -/
def State.opened (s : State) (p : Port) (code : Byte) : State :=
  s.modPort p fun r => { r with dataOut := [s.statusByte p], transaction := some (s.opening p code) }

/-- The transaction in progress at port `p` becomes `x`, none when the master deselects the port. -/
def State.inProgress (s : State) (p : Port) (x : Option Transaction) : State := s.modPort p fun r => { r with transaction := x }

/-- What is in progress after a command that leaves the transaction `x`: none where the transaction `ends` with the command. -/
def Transaction.after (x : Transaction) (ends : Bool) : Option Transaction := if ends then none else some x

/-! ### Taking a request (R183, R184) -/

/-- Step 4 of R184: a gate request names one of the port's two lanes. -/
def laneOk (k : ReqKind) (p : Port) (payload : List Byte) : Bool :=
  match p with
  | .office => true
  | .gate g => match k with
    | .present | .passed | .release | .laneReport =>
      byteAt 0 payload == (evenLane g).val || byteAt 0 payload == (oddLane g).val
    | _ => true

/-- The checks of R184 on a frame announced with `n` payload bytes: the answer of the first that fails, or none. -/
def checkFrame (p : Port) (f : Frame) (n : Nat) : Option Code :=
  match ReqKind.ofCode f.kind with
  | none => some .unknownRequest
  | some k =>
    if k.permitted p = false then some .notPermitted
    else if k.lengthOk p n f.payload = false then some .badLength
    else if laneOk k p f.payload = false then some .notPermitted
    else if k.codesOk f.payload = false then some .badValue
    else none

/-- A frame put into a request place. -/
def State.enqueue (s : State) (p : Port) (f : Frame) (r : Role) : State :=
  s.modPort p fun x => { x with requests := x.requests ++ [{ frame := f, role := r }] }

/-- A frame taken by a port whose request queue has a free place, and checked (R183, R184, R185): an answered frame, a request of
class A, B or C with its arrival stamp (R162), a port-served request, or a RESTART, which makes a warm reset (R188). -/
def State.takeFrame (s : State) (p : Port) (f : Frame) (n : Nat) : State :=
  match checkFrame p f n, ReqKind.ofCode f.kind with
  | some c, _ => s.enqueue p f (.answered c)
  | none, some .restart => s.warmReset
  | none, some k =>
    if k.storeClass.isSome then
      (s.enqueue p f (.store s.arbiter.nextStamp)).withArbiter
        { s.arbiter with nextStamp := s.arbiter.nextStamp + 1 }
    else s.enqueue p f .served
  | none, none => s

/-- The frame that the bytes of a SEND make, with its announced length, or none when the transaction ends before the frame is
whole. A frame announced longer than 64 bytes is taken as soon as its length byte is in; bytes after the last payload byte are
ignored (R183). -/
def sentFrame : List Byte → Option (Frame × Nat)
  | kind :: tag :: len :: rest =>
    if 64 < len.toNat then some ({ kind, tag, payload := [] }, len.toNat)
    else if len.toNat ≤ rest.length then some ({ kind, tag, payload := rest.take len.toNat }, len.toNat)
    else none
  | _ => none

/-- Bytes shifted in by a SEND in progress (R183, R188): once they make a frame whole it is taken, unless the reset line is active or
the request queue is full at that moment, and further bytes do nothing. With no SEND in progress nothing happens (log entry
11). -/
def State.shiftIn (s : State) (p : Port) (bytes : List Byte) (ends : Bool) : State :=
  match (s.port p).transaction with
  | some (.sending got) =>
    match sentFrame (got ++ bytes) with
    | none => s.inProgress p ((Transaction.sending (got ++ bytes)).after ends)
    | some (f, n) =>
      let t := s.inProgress p (Transaction.over.after ends)
      if s.requestFree p = 0 then t else t.takeFrame p f n
  | some .over => s.inProgress p (Transaction.over.after ends)
  | _ => s

/-- `n` bytes shifted out by a FETCH in progress (R187): the oldest response leaves the queue when its last byte has been shifted out.
With no FETCH in progress nothing happens (log entry 11). -/
def State.shiftOut (s : State) (p : Port) (n : Nat) (ends : Bool) : State :=
  match (s.port p).transaction with
  | some (.fetching left response) =>
    let last := response && left.length ≤ n
    s.modPort p fun r =>
      { r with dataOut := r.dataOut ++ left.take n, responses := if last then r.responses.tail else r.responses,
               transaction := (Transaction.fetching (left.drop n) (response && !last)).after ends }
  | _ => s

/-- A SEND, whole or in part (R182, R183). -/
def State.send (s : State) (p : Port) (bytes : Piece (List Byte)) : State :=
  (if bytes.begins then s.opened p Config.sendCode else s).shiftIn p bytes.data bytes.ends

/-- A FETCH, whole or in part (R182, R187). -/
def State.fetch (s : State) (p : Port) (n : Piece Nat) : State :=
  (if n.begins then s.opened p Config.fetchCode else s).shiftOut p n.data n.ends

/-! ### Serving and answering (R185, R186) -/

/-- A request completed: its place is freed, and its response, with the echoed kind and tag, joins the response queue (R186). -/
def State.complete (s : State) (p : Port) (i : Nat) (f : Frame) (payload : List Byte) : State :=
  s.modPort p fun r =>
    { r with requests := r.requests.eraseIdx i, responses := r.responses ++ [{ f with payload := payload }] }

/-- The oldest port-served frame of a queue, an answered frame or a served request, with its place counted from `i` (R185). -/
def oldestServed : Nat → List Waiting → Option (Nat × Waiting)
  | _, [] => none
  | i, w :: rest =>
    match w.role with
    | .store _ => oldestServed (i + 1) rest
    | _ => some (i, w)

/-- The port-served frame that a port can serve now: the oldest, while a response place is free (R185). -/
def State.nextServed (s : State) (p : Port) : Option (Nat × Waiting) :=
  if s.hasPlace p then oldestServed 0 (s.port p).requests else none

/-- An answered frame completed with its answer alone (R184, R185, R197). Where the port has none to answer now, the event does not
occur (log entry 1). -/
def State.answerFrame (s : State) (p : Port) : State :=
  match s.nextServed p with
  | some (i, { frame := f, role := .answered c }) => s.complete p i f (bare c)
  | _ => s

/-- The port-served request that port `p` can serve now, if it is one of `sel`: its place and its frame. -/
def State.servable (s : State) (p : Port) (sel : Frame → Bool) : Option (Nat × Frame) :=
  match s.nextServed p with
  | some (i, { frame := f, role := .served }) => if sel f then some (i, f) else none
  | _ => none

/-- The service of a port-served request (R185): its block evaluates it, and it is completed. Where the port can serve no such
request now, the event does not occur (log entry 1). -/
def State.serve (s : State) (p : Port) (sel : Frame → Bool) (eval : State → List Byte → State × List Byte) : State :=
  match s.servable p sel with
  | none => s
  | some (i, f) =>
    let x := eval s f.payload
    x.1.complete p i f x.2

/-- The request that the arbiter grants the store next, if it is one of `sel` (R167). -/
def State.grantable (s : State) (sel : Frame → Bool) : Option StoreReq :=
  match s.select with
  | some (.request r) => if sel r.frame then some r else none
  | _ => none

/-- The grant of a store request (R161, R167): the arbiter's counters are charged, the request is evaluated whole and completed.
Where the arbiter would grant no such request now, the event does not occur (log entry 1). -/
def State.grantTo (s : State) (sel : Frame → Bool) (eval : State → List Byte → State × List Byte) : State :=
  match s.grantable sel with
  | none => s
  | some r =>
    let x := eval (s.charge (.request r)) r.frame.payload
    x.1.complete r.port r.index r.frame x.2

/-- Whether a frame is of a kind. -/
def isKind (k : ReqKind) (f : Frame) : Bool := ReqKind.ofCode f.kind == some k

end Sys2Proof.Machine
end

