-- ==== Sys2Proof/Machine/Requests.lean ====
section
/-! DEFINITION. The requests that lanes, lifts, counts, tariff, store policy and events serve, and the gate requests that end
holds or change lanes: each takes the state and the request's payload and gives the state and the response payload. -/

namespace Sys2Proof.Machine

/-! ### PASSED, RELEASE, LANE_REPORT, SET_LANE -/

/-- PASSED (R85, R86, R98, R99). -/
def State.passed (s : State) (p : List Byte) : State × List Byte :=
  let l := laneArg p
  match (s.lane l).hold with
  | some h => (s.commitHold l h, passReply .committed l (some h.pass))
  | none =>
    if s.withinLateWindow l then (s.latePassage l, passReply .late l ((s.lane l).late.map LateRecord.pass))
    else (s.unpairedPassage l, passReply .unpaired l none)

/-- RELEASE (R90, R91). -/
def State.release (s : State) (p : List Byte) : State × List Byte :=
  let l := laneArg p
  match (s.lane l).hold with
  | some h => (s.releaseHold l, passReply .released l (some h.pass))
  | none => (s, passReply .noHold l none)

/-- LANE_REPORT with condition JAM (R107). -/
def State.jam (s : State) (p : List Byte) : State × List Byte :=
  let l := laneArg p
  match (s.lane l).state with
  | .work .closed | .fault _ => (s, s.laneReply .noChange l)
  | .work w =>
    let t := s.moveLane l (.fault w) none
    (t, t.laneReply .ok l)

/-- LANE_REPORT with condition CLEAR (R107). -/
def State.clearJam (s : State) (p : List Byte) : State × List Byte :=
  let l := laneArg p
  match (s.lane l).state with
  | .fault w =>
    let t := s.moveLane l (.work w) none
    (t, t.laneReply .ok l)
  | .work _ => (s, s.laneReply .noChange l)

/-- LANE_REPORT with condition QUERY (R107). -/
def State.queryLane (s : State) (p : List Byte) : State × List Byte := (s, s.laneReply .ok (laneArg p))

/-- SET_LANE (R105, R106). -/
def State.setLaneRequest (s : State) (p : List Byte) : State × List Byte :=
  let ls := s.targets (byteAt 0 p) (byteAt 1 p)
  let t := s.setLanes ls (stateArg p) (profileArg p)
  (t, t.setLaneReply ls (profileArg p))

/-! ### Products, resort code, scheme, lifts, lanes -/

/-- LOAD_PRODUCT (R7). -/
def State.loadProduct (s : State) (p : List Byte) : State × List Byte :=
  let code := byteAt 0 p
  if 63 < code ∨ 1 < byteAt 2 p then (s, bare .badValue)
  else
    (s.withProducts (s.products.set (Fin.ofNat 64 code).val (productArg p)),
     [Code.ok.byte] ++ (productArg p).bytes code)

/-- SET_RESORT (R9). -/
def State.setResort (s : State) (p : List Byte) : State × List Byte :=
  let code := fieldAt 0 2 p
  (s.withResort code, [Code.ok.byte] ++ bytesOf 2 code)

/-- Whether every lane is CLOSED (R110). -/
def State.allClosed (s : State) : Bool := allLanes.all fun l => (s.lane l).state == .work .closed

/-- SET_SCHEME (R110): its response carries the scheme in force with every outcome (R201). -/
def State.setScheme (s : State) (p : List Byte) : State × List Byte :=
  match Scheme.ofCode (byteAt 0 p) with
  | none => (s, [Code.badValue.byte, byteOf s.scheme.code])
  | some x =>
    if s.allClosed = false then (s, [Code.notClosed.byte, byteOf s.scheme.code])
    else (s.withScheme x, [Code.ok.byte, byteOf x.code])

/-- SET_LIFT (R117). -/
def State.setLiftRequest (s : State) (p : List Byte) : State × List Byte :=
  if 3 < byteAt 0 p then (s, bare .badValue)
  else
    let f : Lift := Fin.ofNat 4 (byteAt 0 p)
    let burst := clamp 1 32 (byteAt 2 p)
    let r := { s.lift f with rate := clamp 1 120 (byteAt 1 p), burst := burst, level := Config.riderUnits * burst }
    (s.setLift f r, [Code.ok.byte, byteOf f.val, byteOf r.rate, byteOf r.burst] ++ bytesOf 2 r.level)

/-- READ_LANES (R125): it changes nothing. -/
def State.readLanes (s : State) : State × List Byte := (s, s.readLanesReply)

/-! ### Counts -/

/-- SET_REPORT (R136). -/
def State.setReport (s : State) (p : List Byte) : State × List Byte :=
  let c := { s.counts with period := clamp 1 60 (byteAt 1 p) }
  match byteAt 0 p with
  | 0 =>
    let c := { c with mode := .manual }
    (s.withCounts c, c.reportReply)
  | 1 =>
    let c := { c with mode := c.loaded }
    (s.withCounts c, c.reportReply)
  | _ => (s, bare .badValue)

/-- TAKE_SNAPSHOT (R137). -/
def State.takeSnapshot (s : State) : State × List Byte :=
  match s.counts.mode with
  | .auto _ => (s, bare .wrongMode)
  | .manual => (s.transfer, s.transfer.counts.snapshotReply)

/-- READ_COUNTS (R138, R139): a read of the SNAPSHOT's LIFTS part clears the unread mark. -/
def State.readCounts (s : State) (p : List Byte) : State × List Byte :=
  let part := byteAt 1 p
  if 8 < part then (s, bare .badValue)
  else match byteAt 0 p with
    | 0 =>
      (if part = 8 then s.withCounts { s.counts with snapUnread := false } else s, s.counts.snapshotPart part)
    | 1 => (s, s.dayPart part)
    | _ => (s, bare .badValue)

/-! ### Tariff and store policy -/

/-- The four rates that a LOAD_TARIFF stores, class 0 first (R143). -/
def ratesArg (p : List Byte) : Vector Nat 4 :=
  #v[min 200000 (fieldAt 1 3 p), min 200000 (fieldAt 4 3 p), min 200000 (fieldAt 7 3 p), min 200000 (fieldAt 10 3 p)]

/-- LOAD_TARIFF (R143). -/
def State.loadTariff (s : State) (p : List Byte) : State × List Byte :=
  let row := byteAt 0 p
  if 7 < row then (s, bare .badValue)
  else
    (s.withTariff (s.tariff.set (Fin.ofNat 8 row).val (ratesArg p)),
     [Code.ok.byte, byteOf row] ++ (ratesArg p).toList.flatMap (bytesOf 3))

/-- SET_STORE_POLICY (R180): the four values, then TABLE_LOW against the new floor with its effect on the urgency, then the
deadline test. -/
def State.setStorePolicy (s : State) (p : List Byte) : State × List Byte :=
  let t := s.withSweep { s.sweep with
    retention := clamp 0 60 (byteAt 0 p), deadline := clamp 0 Config.lastSecond (fieldAt 1 3 p)
    floor := clamp 0 Config.slotCount (fieldAt 4 2 p) }
  let t := t.withArbiter { t.arbiter with burstLimit := clamp 1 15 (byteAt 6 p) }
  let t := ((t.judgeLevel (.device .tableLow) s.tableLow t.tableLow).tableLowTest).deadlineTest
  (t, t.policyReply)

/-- READ_STORE (R181): it changes nothing. -/
def State.readStore (s : State) : State × List Byte := (s, s.readStoreReply)

/-! ### Events (section 10.6) -/

/-- The flags that a READ_EVENTS response of a gate port carries (R192). -/
def gateCarried (k : Fin 4) : List Event :=
  laneEvents (evenLane k) ++ laneEvents (oddLane k) ++ allLifts.map .liftState

/-- The flags that a READ_EVENTS response of the office carries, by its lane selector (R193). -/
def officeCarried (sel : Nat) : List Event :=
  (if sel < 8 then laneEvents (Fin.ofNat 8 sel) else []) ++ allLifts.map .liftState ++ deviceEvents.map .device

/-- The flags carried are cleared and the restarted mark becomes no (R192, R193). -/
def PortRec.read (r : PortRec) (carried : List Event) : PortRec :=
  { r with flags := r.flags.filter fun e => !carried.contains e, restarted := false }

/-- READ_EVENTS of a gate port (R192). -/
def State.readGateEvents (s : State) (k : Fin 4) : State × List Byte :=
  (s.modPort (.gate k) fun r => r.read (gateCarried k), s.gateEventsReply k)

/-- READ_EVENTS of the office, with its lane selector (R193). -/
def State.readOfficeEvents (s : State) (p : List Byte) : State × List Byte :=
  let sel := byteAt 0 p
  if 8 < sel then (s, bare .badValue)
  else (s.modPort .office fun r => r.read (officeCarried sel), s.officeEventsReply sel)

/-- READ_EVENTS at a port (R192, R193). -/
def State.readEvents (s : State) (port : Port) (p : List Byte) : State × List Byte :=
  match port with
  | .gate k => s.readGateEvents k
  | .office => s.readOfficeEvents p

/-- SET_EVENTS (R194). -/
def State.setEvents (s : State) (p : List Byte) : State × List Byte :=
  match portArg (byteAt 0 p), edgesArg p with
  | some port, some edges =>
    let t := s.modPort port fun r => { r with masks := BitVec.ofNat 15 (fieldAt 1 2 p), edges := edges }
    (t, [Code.ok.byte] ++ (t.port port).eventsBytes (byteAt 0 p))
  | _, _ => (s, bare .badValue)

end Sys2Proof.Machine
end

