-- ==== Sys2Proof/Machine/Validation.lean ====
section
/-! DEFINITION. Validation (chapter 4): the ordered checks of a PRESENT, the grant, and the effects and response of every
verdict. -/

namespace Sys2Proof.Machine

/-! ### The ordered checks (R55) -/

/-- Step 16: whether a pass is held to its passback (R72). The difference is signed. -/
def State.passbackHolds (s : State) (e : Entry) (p : Product) (f : Lift) : Bool :=
  1 ≤ p.passback && match e.lastAdmit with
    | none => false
    | some a => a.lift == f && a.day == s.clock.day && (s.clock.sec : Int) - (a.sec : Int) ≤ (p.passback : Int)

/-- Steps 11 to 17, for a pass and a lane without a hold (R67 to R74). -/
def State.judgeGrant (s : State) (l : Lane) (e : Entry) : Code :=
  let p := s.product e.product
  let f := s.liftOf l
  if (s.lift f).established = .stopped then .liftStopped
  else match e.state with
    | .suspended _ => .suspended
    | .refunded _ _ => .refunded
    | .expired => .expired
    | .live q =>
      if s.clock.day < e.validFrom then .notYet
      else if e.validTo < s.clock.day then .expired
      else if inMask p.mask f = false then .wrongLift
      else if p.kind = .rider ∧ q = .exhausted ∧ e.lastUse ≠ some s.clock.day then .exhausted
      else if p.kind = .rider ∧ s.passbackHolds e p f = true then .passback
      else if (s.lift f).level < Config.riderUnits then .pace
      else .admitted

/-- Steps 6 to 17, for an entry that was found (R62 to R74). At step 8 a CONTROL pass is answered CONTROL and at step 9 HELD
unless its dwell toggles the lane (R64, R65, R79). Step 10 asks whether the lane's hold record is open: a pass that reaches it
carries no hold marker, so an open record is another pass's (R66). -/
def State.judgeEntry (s : State) (l : Lane) (c : Card) (e : Entry) : Code :=
  let p := s.product e.product
  if c.seq ≠ e.seq then .superseded
  else if c.product ≠ e.product.val ∨ c.validFrom ≠ e.validFrom then .mismatch
  else if p.defined = false then .productVoid
  else if (s.lane l).state = .work .opened then (if p.kind = .control then .control else .free)
  else match e.marker with
    | some m => if m = l then .held else .inUse
    | none => if (s.lane l).hold.isSome then .laneBusy else s.judgeGrant l e

/-- Step 4: whether the resort code differs, or none is configured (R60). -/
def State.isForeign (s : State) (c : Card) : Bool := s.resort == 0 || c.resort != s.resort

/-! ### The grant (section 4.7) -/

/-- The history part of a grant: a CONTROL pass does no history work (R33); a RIDER pass whose last-use day is today updates
today's record (R77), and any other debits the day (R76). -/
def State.grantHistory (s : State) (e : Entry) (f : Lift) : Debited :=
  let today := s.clock.day
  if (s.product e.product).kind = .control then { history := s.history, entry := e, facts := .none }
  else if e.lastUse = some today then s.history.update e today f
  else s.history.debit e
    { day := today, cls := s.calendar.classOf today, first := s.clock.sec, admits := 1, lifts := liftBit f }

/-- The state after a debit: the table of R76. -/
def stateAfterDebit (used bought : Nat) : LiveState := if used = bought then .exhausted else .active

/-- The grant of ADMIT at lane `l` to the entry `e` of slot `n`, which stands in ISSUED, ACTIVE or EXHAUSTED as `q` (R74 to R77,
R83, R84). The granted counter is raised by the verdict (R82). -/
def State.grant (s : State) (l : Lane) (n : Nat) (e : Entry) (q : LiveState) : State :=
  let f := s.liftOf l
  let d := s.grantHistory e f
  let h : Hold :=
    { slot := n, pass := e.pass, kind := (s.product e.product).kind
      deadline := s.now.after (s.lane l).profile.holdTime, lift := f, order := s.arbiter.nextGrant, facts := d.facts
      prevState := q, prevLastUse := e.lastUse, prevLastAdmit := e.lastAdmit, pendingExpiry := false }
  let e' : Entry :=
    { d.entry with
      state := .live (if d.facts.debitMade then stateAfterDebit d.entry.used d.entry.bought else q)
      lastAdmit := some { lift := f, lane := l, day := s.clock.day, sec := s.clock.sec }, marker := some l }
  ((((s.writeHistory d.history).putEntry n e').setHold l (some h)).takePace f)

/-! ### The effects of a verdict (sections 4.8 to 4.10) -/

/-- A tracked presentation of a CONTROL pass: the verdict is `v`, or TOGGLED where the tracking toggles the lane (R64, R65, R78,
R79). -/
def State.presentTracked (s : State) (v : Code) (l : Lane) (n : Nat) (pass : Nat) : State × List Byte :=
  let u := s.track l pass
  (u.1, u.1.presentEntry (if u.2 then .toggled else v) l n false)

/-- ADMIT: the grant, then dwell tracking for a CONTROL pass, whose toggle turns the verdict into TOGGLED (R74, R78, R79). -/
def State.presentAdmit (s : State) (l : Lane) (n : Nat) (e : Entry) (q : LiveState) : State × List Byte :=
  let t := (s.grant l n e q).countLane l .granted
  if (s.product e.product).kind = .control then t.presentTracked .admitted l n e.pass
  else
    let t := t.endOtherDwell l e.pass
    (t, t.presentEntry .admitted l n (s.grantHistory e (s.liftOf l)).facts.debitMade)

/-- What a verdict adds to the counters, where it is neither ADMIT nor TOGGLED (R82). -/
def State.countVerdict (s : State) (v : Code) (l : Lane) : State :=
  match v with
  | .held | .free | .control => s
  | .pace => (s.countLane l .pace).countLift (s.liftOf l) .pace
  | _ => s.countLane l .refused

/-- A PRESENT for which an entry was found, with verdict `v` of its checks (R64 to R74, R78, R82). -/
def State.presentFound (s : State) (v : Code) (l : Lane) (n : Nat) (e : Entry) : State × List Byte :=
  match v, e.state with
  | .admitted, .live q => s.presentAdmit l n e q
  | .control, _ => s.presentTracked .control l n e.pass
  | .laneBusy, _ =>
    let t := (s.setDwell l none).countLane l .refused
    (t, t.presentEntry .laneBusy l n false)
  | .held, _ =>
    if (s.product e.product).kind = .control then s.presentTracked .held l n e.pass
    else
      let t := s.endOtherDwell l e.pass
      (t, t.presentEntry .held l n false)
  | v, _ =>
    let t := (s.endOtherDwell l e.pass).countVerdict v l
    (t, t.presentEntry v l n false)

/-- A PRESENT with a parsed image, from step 4 on (R59 to R74). -/
def State.presentCard (s : State) (l : Lane) (c : Card) : State × List Byte :=
  if s.isForeign c then
    ((s.endOtherDwell l c.pass).countLane l .refused, presentNoEntry .foreign l 0)
  else match s.findPass c.pass with
    | none => ((s.endOtherDwell l c.pass).countLane l .refused, presentNoEntry .unknown l 0)
    | some (n, e) => s.presentFound (s.judgeEntry l c e) l n e

/-- A PRESENT with an image that fails the check (R58, R59, R82). -/
def State.presentUnreadable (s : State) (l : Lane) (r : Reason) : State × List Byte :=
  (((s.raiseRun l).countLane l .refused).countLane l .unreadable, presentNoEntry .unreadable l r.code)

/-- The evaluation of a granted PRESENT, with its effects and its response (R55 to R82). -/
def State.present (s : State) (l : Lane) (image : Image) : State × List Byte :=
  if s.clock.state = .unset then (s.countLane l .refused, presentNoEntry .clockUnset l 0)
  else match (s.lane l).state with
    | .work .closed => (s.countLane l .refused, presentNoEntry .laneClosed l 0)
    | .fault _ => (s.countLane l .refused, presentNoEntry .laneFault l 0)
    | _ =>
      match image with
      | .bad r => s.presentUnreadable l r
      | .card c => (s.clearRun l).presentCard l c

end Sys2Proof.Machine
end

