-- ==== Sys2Proof/Machine/GateCommands.lean ====
section
/-! DEFINITION. The gate requests that the arbiter grants: PRESENT, PASSED, RELEASE and the three conditions of LANE_REPORT. -/

namespace Sys2Proof.Machine

/-- PRESENT, granted (R53 to R82). -/
def execPresent (s : State) : Result :=
  .next (s.grantTo (isKind .present) fun t p => t.present (laneArg p) (imageArg p))

/-- PASSED, granted (R85). -/
def execPassed (s : State) : Result := .next (s.grantTo (isKind .passed) State.passed)

/-- RELEASE, granted (R90). -/
def execRelease (s : State) : Result := .next (s.grantTo (isKind .release) State.release)

/-- Whether a frame is a LANE_REPORT with condition code `c`: 0 JAM, 1 CLEAR, 2 QUERY (R198). -/
def isReport (c : Nat) (f : Frame) : Bool := isKind .laneReport f && byteAt 1 f.payload == c

/-- LANE_REPORT JAM, granted (R107). -/
def execLaneReportJam (s : State) : Result := .next (s.grantTo (isReport 0) State.jam)

/-- LANE_REPORT CLEAR, granted (R107). -/
def execLaneReportClear (s : State) : Result := .next (s.grantTo (isReport 1) State.clearJam)

/-- LANE_REPORT QUERY, granted (R107). -/
def execLaneReportQuery (s : State) : Result := .next (s.grantTo (isReport 2) State.queryLane)

end Sys2Proof.Machine
end

