-- ==== Sys2Proof/Machine/InternalCommands.lean ====
section
/-! DEFINITION. The events that come from inside the part or from the crystal: the tick, the ticks that the table lists by what they
bring about, the granted expiry and the granted sweep batch. A tick is ONE event (R40, R42, R43, R94, R135, R171), so a command
that names a kind of tick IS that tick, taken whole, where the state makes the tick one of that kind; elsewhere the event does
not occur (log entry 2). -/

namespace Sys2Proof.Machine

/-- TICK (R40). -/
def execTick (lines : LiftLines) (s : State) : Result := .next (s.tickAll lines)

/-- DAY_ROLLOVER (R43). -/
def execDayRollover (lines : LiftLines) (s : State) : Result := .next (if s.clock.rolls then s.tickAll lines else s)

/-- CLOCK_STALL (R44). -/
def execClockStall (lines : LiftLines) (s : State) : Result := .next (if s.clock.stalls then s.tickAll lines else s)

/-- Whether the next tick makes a hold due: it is tested after the tick has advanced the clock (R94). -/
def State.tickMakesDue (s : State) (lines : LiftLines) : Bool := !(s.clocked lines).dueLanes.isEmpty

/-- HOLD_DUE (R94). -/
def execHoldDue (lines : LiftLines) (s : State) : Result := .next (if s.tickMakesDue lines then s.tickAll lines else s)

/-- AUTO_TRANSFER (R135). -/
def execAutoTransfer (lines : LiftLines) (s : State) : Result :=
  .next (if s.counts.expiring then s.tickAll lines else s)

/-- SWEEP_DEADLINE_REACHED (R171). -/
def execSweepDeadlineReached (lines : LiftLines) (s : State) : Result :=
  .next (if (s.clocked lines).deadlineReached then s.tickAll lines else s)

/-- The expiry that the arbiter grants next, if it grants one (R167). -/
def State.grantableExpiry (s : State) : Option Expiry :=
  match s.select with
  | some (.expiry x) => some x
  | _ => none

/-- A granted expiry (R95): it waits no longer; the hold expires when its record is open with its expiry pending, and otherwise the
expiry is abandoned. -/
def State.expire (s : State) (x : Expiry) : State :=
  let t := s.withArbiter { s.arbiter with expiries := s.arbiter.expiries.erase x }
  match (t.lane x.lane).hold with
  | some h => if h.pendingExpiry then t.expireHold x.lane h else t
  | none => t

/-- EXPIRY, granted (R95). -/
def execExpiry (s : State) : Result :=
  .next (match s.grantableExpiry with
    | some x => (s.charge (.expiry x)).expire x
    | none => s)

/-- SWEEP_BATCH, granted (R175 to R179). -/
def execSweepBatch (s : State) : Result :=
  .next (if s.select = some .batch then (s.charge .batch).sweepBatch else s)

end Sys2Proof.Machine
end

