-- ==== Sys2Proof/Machine/PassStore.lean ====
section
/-! DEFINITION. The seven office requests on entries (section 1.7): each evaluation takes the payload of the request and gives the
state and the response payload. The checks stand in the order of each rule's table, and the first that fails gives the outcome. -/

namespace Sys2Proof.Machine

/-- A new entry placed in slot `n`: the free-slot count falls by 1 (R5, R14, R19). -/
def State.place (s : State) (n : Nat) (e : Entry) : State := (s.putEntry n e).setFreeSlots (s.freeSlots - 1)

/-- The entry that the issue fields make, before any use (R14). -/
def IssueFields.entry (f : IssueFields) : Entry :=
  { pass := f.pass, seq := f.seq, product := Fin.ofNat 64 f.product, validFrom := f.validFrom, validTo := f.validTo
    bought := f.bought, used := 0, lost := 0, state := .live .issued, price := f.price, lastUse := none, lastAdmit := none
    chain := none, marker := none }

/-- ISSUE (R13, R14). A refusal BUCKET_FULL is reported to the sweep (R5, R172). -/
def State.issue (s : State) (p : List Byte) : State × List Byte :=
  let f := issueFields p
  if f.ok = false then (s, bare .badValue)
  else if (s.product (Fin.ofNat 64 f.product)).defined = false then (s, bare .productVoid)
  else if (s.findSlot f.pass).isSome then (s, bare .exists_)
  else match s.freeSlotFor f.pass with
    | none => (s.toMust, bare .bucketFull)
    | some n => (s.place n f.entry, [Code.ok.byte] ++ bytesOf 4 f.pass ++ bytesOf 2 f.validTo)

/-- REISSUE (R15). -/
def State.reissue (s : State) (p : List Byte) : State × List Byte :=
  match s.findPass (passArg p) with
  | none => (s, bare .unknown)
  | some (n, e) =>
    if e.seq = 15 then (s, bare .sequenceExhausted)
    else (s.putEntry n { e with seq := e.seq + 1 }, [Code.ok.byte, byteOf (e.seq + 1)])

/-- SUSPEND (R16). -/
def State.suspend (s : State) (p : List Byte) : State × List Byte :=
  match s.findPass (passArg p) with
  | none => (s, bare .unknown)
  | some (n, e) =>
    match e.state with
    | .live q => (s.putEntry n { e with state := .suspended q }, [Code.ok.byte, byteOf (PassState.suspended q).stateByte])
    | _ => (s, bare .notAllowed)

/-- RESUME (R17). -/
def State.resume (s : State) (p : List Byte) : State × List Byte :=
  match s.findPass (passArg p) with
  | none => (s, bare .unknown)
  | some (n, e) =>
    match e.state with
    | .suspended q => (s.putEntry n { e with state := .live q }, [Code.ok.byte, byteOf (PassState.live q).stateByte])
    | _ => (s, bare .notAllowed)

/-- The state of a restored entry: ISSUED, EXHAUSTED or ACTIVE, from days used (R19). -/
def restoredState (used bought : Nat) : LiveState :=
  if used = 0 then .issued else if used = bought then .exhausted else .active

/-- The lost-days count of a RESTORE (R198). -/
def restoreLost (p : List Byte) : Nat := byteAt 14 p
/-- The record count of a RESTORE (R198). -/
def restoreCount (p : List Byte) : Nat := byteAt 15 p
/-- The records of a RESTORE, oldest first (R198). -/
def restoreRecords (p : List Byte) : List RawRecord := rawRecords 16 (restoreCount p) p

/-- Steps 1 to 6 of R18, which need no place: the first that fails. -/
def State.restoreCheck (s : State) (p : List Byte) : Code :=
  let f := issueFields p
  let rs := restoreRecords p
  let product := s.product (Fin.ofNat 64 f.product)
  if s.clock.state = .unset then .clockUnset
  else if f.ok = false ∨ 30 < restoreLost p ∨ 5 < restoreCount p then .badValue
  else if rs.all RawRecord.fieldsOk = false ∨ recordDaysOk f.validFrom f.validTo s.clock.day rs = false then .badValue
  else if f.bought < restoreCount p + restoreLost p then .badValue
  else if product.defined = false then .productVoid
  else if product.kind = .control ∧ (restoreCount p ≠ 0 ∨ restoreLost p ≠ 0) then .badValue
  else .ok

/-- RESTORE (R18, R19, R39). A refusal BUCKET_FULL is reported to the sweep (R5, R172). -/
def State.restore (s : State) (p : List Byte) : State × List Byte :=
  let f := issueFields p
  let rs := (restoreRecords p).map RawRecord.record
  let used := restoreCount p + restoreLost p
  let q := restoredState used f.bought
  let e := { f.entry with used := used, lost := restoreLost p, state := .live q }
  let reply := [Code.ok.byte, byteOf q.code, byteOf used]
  if s.restoreCheck p ≠ .ok then (s, bare (s.restoreCheck p))
  else if (s.findSlot f.pass).isSome then (s, bare .exists_)
  else match s.freeSlotFor f.pass with
    | none => (s.toMust, bare .bucketFull)
    | some n =>
      if rs.isEmpty then (s.place n e, reply)
      else match s.history.append none rs with
        | none => (s, bare .historyFull)
        | some a =>
          ((s.withHistory a.history).place n
            { e with chain := some a.chain, lastUse := (rs.getLast?).map UseRecord.day }, reply)

/-- The record count of an ADD_USE (R198). -/
def addCount (p : List Byte) : Nat := byteAt 4 p
/-- The records of an ADD_USE, oldest first (R198). -/
def addRecords (p : List Byte) : List RawRecord := rawRecords 5 (addCount p) p

/-- The state change of R21, for an ISSUED, ACTIVE or EXHAUSTED state. -/
def LiveState.added (q : LiveState) (used bought : Nat) : LiveState :=
  if used = bought then .exhausted else if 0 < used ∧ q = .issued then .active else q

/-- The state after an ADD_USE; a SUSPENDED entry changes its suspended-from state (R21). -/
def PassState.added (x : PassState) (used bought : Nat) : PassState :=
  match x with
  | .live q => .live (q.added used bought)
  | .suspended q => .suspended (q.added used bought)
  | x => x

/-- Whether a state takes further use records: ISSUED, ACTIVE, EXHAUSTED or SUSPENDED (R20). -/
def PassState.takesRecords : PassState → Bool
  | .live _ | .suspended _ => true
  | _ => false

/-- Steps 7 and 8 of R20. -/
def State.addDaysOk (s : State) (e : Entry) (rs : List RawRecord) : Bool :=
  recordDaysOk e.validFrom e.validTo s.clock.day rs
    && (match e.lastUse, rs.head? with
      | some d, some r => d < r.day
      | _, _ => true)
    && e.used + rs.length ≤ e.bought

/-- ADD_USE (R20, R21, R39). In the response, bits 7–1 of byte 1, having no field, are carried as 0 (log entry 19). -/
def State.addUse (s : State) (p : List Byte) : State × List Byte :=
  let rs := addRecords p
  if s.clock.state = .unset then (s, bare .clockUnset)
  else if addCount p = 0 ∨ 5 < addCount p ∨ rs.all RawRecord.fieldsOk = false then (s, bare .badValue)
  else match s.findPass (passArg p) with
    | none => (s, bare .unknown)
    | some (n, e) =>
      let product := s.product e.product
      if e.state.takesRecords = false then (s, bare .notAllowed)
      else if product.defined = false then (s, bare .productVoid)
      else if product.kind ≠ .rider then (s, bare .notAllowed)
      else if s.addDaysOk e rs = false then (s, bare .badValue)
      else match s.history.append e.chain (rs.map RawRecord.record) with
        | none => (s, bare .historyFull)
        | some a =>
          let used := e.used + addCount p
          let x := e.state.added used e.bought
          ((s.withHistory a.history).putEntry n
            { e with chain := some a.chain, used := used, state := x, lastUse := (rs.getLast?).map RawRecord.day },
           [Code.ok.byte, flagByte x.prior?.isSome, byteOf x.stateByte, byteOf used])

/-- Records `start` to `start` + 4 of a chain (R23). -/
def carriedRecords (rs : List UseRecord) (start : Nat) : List UseRecord := (rs.drop start).take 5

/-- INQUIRE (R22, R23): it changes nothing. -/
def State.inquire (s : State) (p : List Byte) : State × List Byte :=
  match s.findPass (passArg p) with
  | none => (s, bare .unknown)
  | some (_, e) =>
    let rs := s.history.records e.chain
    let start := byteAt 4 p
    (s, e.inquiry (carriedRecords rs start) rs.length (start + 5 < rs.length))

end Sys2Proof.Machine
end

