-- ==== Sys2Proof/Machine/Refunds.lean ====
section
/-! DEFINITION. Refunds (chapter 8): the valuation stage by stage, and the REFUND request. -/

namespace Sys2Proof.Machine

/-- The rate of a row for a day class (R142). -/
def State.rate (s : State) (row : Fin 8) (c : DayClass) : Nat := s.tariff[row][c]

/-- The highest rate of a row (R142). -/
def State.highestRate (s : State) (row : Fin 8) : Nat :=
  max (max (s.rate row 0) (s.rate row 1)) (max (s.rate row 2) (s.rate row 3))

/-- Stage 1, the used value V (R148). -/
def State.usedValue (s : State) (e : Entry) (row : Fin 8) : Nat :=
  ((s.history.records e.chain).map fun r => s.rate row r.cls).sum + e.lost * s.highestRate row

/-- Stage 3, the first refundable day f (R150). -/
def Entry.firstRefundable (e : Entry) (today : Nat) : Nat :=
  max e.validFrom (if e.lastUse = some today then today + 1 else today)

/-- Stage 4, the refundable days of the window D (R150). -/
def Entry.windowDays (e : Entry) (today : Nat) : Nat :=
  if e.firstRefundable today ≤ e.validTo then e.validTo - e.firstRefundable today + 1 else 0

/-- Stage 5, the refundable days E (R151). -/
def Entry.refundableDays (e : Entry) (today : Nat) : Nat := min (e.bought - e.used) (e.windowDays today)

/-- Stage 6, the cap K: floor(P × E / B) (R152). -/
def Entry.refundCap (e : Entry) (today : Nat) : Nat := e.price * e.refundableDays today / e.bought

/-- Stages 7 to 10: the cap, the fee, the rounding and the minimum payout (R153, R154). -/
def Product.amountOf (p : Product) (credit cap : Nat) : Nat :=
  let c2 := min credit cap - p.fee
  let a := c2 / p.unit * p.unit
  if a < p.minPayout then 0 else a

/-- The ten stages of the valuation (R147 to R154). -/
def State.valuation (s : State) (e : Entry) (p : Product) : Valued :=
  let v := s.usedValue e p.row
  let k := e.refundCap s.clock.day
  { amount := p.amountOf (e.price - v) k, value := v, days := e.refundableDays s.clock.day, cap := k }

/-- Whether QUOTE is given: bit 0 of the options (R198). -/
def quoteGiven (p : List Byte) : Bool := (p.getD 4 0).getLsbD 0

/-- Whether FORCE is given: bit 1 of the options (R198). -/
def forceGiven (p : List Byte) : Bool := (p.getD 4 0).getLsbD 1

/-- Step 4 of R146. -/
def Product.refundOk (p : Product) : Bool := p.defined && p.kind == .rider && p.refundable

/-- A REFUND that passes the checks: the table of R145, with the closing of R156. -/
def State.refundValued (s : State) (n : Nat) (e : Entry) (v : Valued) (quote force : Bool) : State × List Byte :=
  if quote then (s, refundReply .ok e.pass e.state (some v) true none)
  else if v.amount = 0 ∧ force = false then (s, refundReply .nothingDue e.pass e.state (some v) false none)
  else
    let x := PassState.refunded s.clock.day v.amount
    (s.putEntry n { e with state := x }, refundReply .ok e.pass x (some v) false none)

/-- REFUND (R145, R146, R155 to R160). -/
def State.refund (s : State) (p : List Byte) : State × List Byte :=
  if s.clock.state = .unset then (s, refundBare .clockUnset (passArg p))
  else match s.findPass (passArg p) with
    | none => (s, refundBare .unknown (passArg p))
    | some (n, e) =>
      match e.state with
      | .refunded _ amount => (s, refundReply .alreadyRefunded e.pass e.state none false (some amount))
      | _ =>
        let product := s.product e.product
        if product.refundOk = false then (s, refundBare .notRefundable e.pass)
        else s.refundValued n e (s.valuation e product) (quoteGiven p) (forceGiven p)

end Sys2Proof.Machine
end

