-- ==== Sys2Proof/Machine/OfficeCommands.lean ====
section
/-! DEFINITION. The office requests: those that the arbiter grants (the entry requests, REFUND and SET_LANE) and those that the block
they name serves. -/

namespace Sys2Proof.Machine

/-! ### Granted by the arbiter -/

/-- ISSUE, granted (R13, R14). -/
def execIssue (s : State) : Result := .next (s.grantTo (isKind .issue) State.issue)

/-- REISSUE, granted (R15). -/
def execReissue (s : State) : Result := .next (s.grantTo (isKind .reissue) State.reissue)

/-- SUSPEND, granted (R16). -/
def execSuspend (s : State) : Result := .next (s.grantTo (isKind .suspend) State.suspend)

/-- RESUME, granted (R17). -/
def execResume (s : State) : Result := .next (s.grantTo (isKind .resume) State.resume)

/-- RESTORE, granted (R18, R19). -/
def execRestore (s : State) : Result := .next (s.grantTo (isKind .restore) State.restore)

/-- ADD_USE, granted (R20, R21). -/
def execAddUse (s : State) : Result := .next (s.grantTo (isKind .addUse) State.addUse)

/-- INQUIRE, granted (R22, R23). -/
def execInquire (s : State) : Result := .next (s.grantTo (isKind .inquire) State.inquire)

/-- REFUND, granted (R145). -/
def execRefund (s : State) : Result := .next (s.grantTo (isKind .refund) State.refund)

/-- SET_LANE, granted (R106). -/
def execSetLane (s : State) : Result := .next (s.grantTo (isKind .setLane) State.setLaneRequest)

/-! ### Served by the block they name -/

/-- LOAD_PRODUCT (R7). -/
def execLoadProduct (s : State) : Result := .next (s.serve .office (isKind .loadProduct) State.loadProduct)

/-- SET_RESORT (R9). -/
def execSetResort (s : State) : Result := .next (s.serve .office (isKind .setResort) State.setResort)

/-- SET_CLOCK (R45, R46). -/
def execSetClock (s : State) : Result := .next (s.serve .office (isKind .setClock) State.setClock)

/-- READ_CLOCK (R49). -/
def execReadClock (s : State) : Result := .next (s.serve .office (isKind .readClock) fun t _ => t.readClock)

/-- Whether a frame is a LOAD_CALENDAR that the row of form code `c` serves: every form but the other row's (log entry 6). -/
def isCalendarForm (other : Nat) (f : Frame) : Bool := isKind .loadCalendar f && byteAt 0 f.payload != other

/-- LOAD_CALENDAR in the BASE form (R51); a form that is neither BASE nor RUNS is refused here too. -/
def execLoadCalendarBase (s : State) : Result := .next (s.serve .office (isCalendarForm 1) State.loadCalendar)

/-- LOAD_CALENDAR in the RUNS form (R51, R52); a form that is neither BASE nor RUNS is refused here too. -/
def execLoadCalendarRuns (s : State) : Result := .next (s.serve .office (isCalendarForm 0) State.loadCalendar)

/-- SET_SCHEME (R110). -/
def execSetScheme (s : State) : Result := .next (s.serve .office (isKind .setScheme) State.setScheme)

/-- SET_LIFT (R117). -/
def execSetLift (s : State) : Result := .next (s.serve .office (isKind .setLift) State.setLiftRequest)

/-- READ_LANES (R125). -/
def execReadLanes (s : State) : Result := .next (s.serve .office (isKind .readLanes) fun t _ => t.readLanes)

/-- SET_REPORT (R136). -/
def execSetReport (s : State) : Result := .next (s.serve .office (isKind .setReport) State.setReport)

/-- TAKE_SNAPSHOT (R137). -/
def execTakeSnapshot (s : State) : Result := .next (s.serve .office (isKind .takeSnapshot) fun t _ => t.takeSnapshot)

/-- READ_COUNTS (R138, R139). -/
def execReadCounts (s : State) : Result := .next (s.serve .office (isKind .readCounts) State.readCounts)

/-- LOAD_TARIFF (R143). -/
def execLoadTariff (s : State) : Result := .next (s.serve .office (isKind .loadTariff) State.loadTariff)

/-- SET_STORE_POLICY (R180). -/
def execSetStorePolicy (s : State) : Result := .next (s.serve .office (isKind .setStorePolicy) State.setStorePolicy)

/-- READ_STORE (R181). -/
def execReadStore (s : State) : Result := .next (s.serve .office (isKind .readStore) fun t _ => t.readStore)

/-- SET_EVENTS (R194). -/
def execSetEvents (s : State) : Result := .next (s.serve .office (isKind .setEvents) State.setEvents)

end Sys2Proof.Machine
end

