-- ==== Sys2Proof/Machine/PortCommands.lean ====
section
/-! DEFINITION. The commands of the port masters and of the reset pins: SEND, FETCH, STATUS, ANSWERED_FRAME, RESTART, READ_EVENTS,
the reset line and power-on reset. -/

namespace Sys2Proof.Machine

/-- SEND (R182, R183, R184). -/
def execSend (p : Port) (bytes : Piece (List Byte)) (s : State) : Result := .next (s.send p bytes)

/-- FETCH (R182, R187). -/
def execFetch (p : Port) (n : Piece Nat) (s : State) : Result := .next (s.fetch p n)

/-- STATUS, or any other transaction code, or a transaction that ends after its first byte (R182, R197): the transaction begins and
ends. -/
def execStatus (p : Port) (code : Byte) (s : State) : Result := .next ((s.opened p code).inProgress p none)

/-- ANSWERED_FRAME (R184, R185). -/
def execAnsweredFrame (p : Port) (s : State) : Result := .next (s.answerFrame p)

/-- READ_EVENTS (R192, R193). -/
def execReadEvents (p : Port) (s : State) : Result :=
  .next (s.serve p (isKind .readEvents) fun t payload => t.readEvents p payload)

/-- RESTART (R188): the SEND transaction in which the office shifts in a RESTART frame. -/
def execRestart (tag : Byte) (s : State) : Result :=
  .next (s.send .office (.whole [byteOf ReqKind.restart.code, tag, 0]))

/-- The reset line changes to active (R188); a line that is active already makes no further reset. -/
def execResetLine (s : State) : Result :=
  .next (if s.pins.resetActive then s else (s.withPins { s.pins with resetActive := true }).warmReset)

/-- The reset line becomes inactive: the ports take frames again (R188). -/
def execResetLineInactive (s : State) : Result := .next (s.withPins { s.pins with resetActive := false })

/-- POWER_ON_RESET. -/
def execPowerOnReset (s : State) : Result := .next s.powerOn

end Sys2Proof.Machine
end

