-- ==== Sys2Proof/Machine/Dispatch.lean ====
section
/-! DEFINITION. One arm for each command: a direct call of its meaning. -/

namespace Sys2Proof.Machine

def exec (i : Instr) (s : State) : Host.Outcome State Fault Refusal :=
  match i with
  | .send p bytes => Sys2Proof.Machine.execSend p bytes s
  | .fetch p n => Sys2Proof.Machine.execFetch p n s
  | .status p code => Sys2Proof.Machine.execStatus p code s
  | .answeredFrame p => Sys2Proof.Machine.execAnsweredFrame p s
  | .present => Sys2Proof.Machine.execPresent s
  | .passed => Sys2Proof.Machine.execPassed s
  | .release => Sys2Proof.Machine.execRelease s
  | .laneReportJam => Sys2Proof.Machine.execLaneReportJam s
  | .laneReportClear => Sys2Proof.Machine.execLaneReportClear s
  | .laneReportQuery => Sys2Proof.Machine.execLaneReportQuery s
  | .readEvents p => Sys2Proof.Machine.execReadEvents p s
  | .issue => Sys2Proof.Machine.execIssue s
  | .reissue => Sys2Proof.Machine.execReissue s
  | .suspend => Sys2Proof.Machine.execSuspend s
  | .resume => Sys2Proof.Machine.execResume s
  | .restore => Sys2Proof.Machine.execRestore s
  | .addUse => Sys2Proof.Machine.execAddUse s
  | .inquire => Sys2Proof.Machine.execInquire s
  | .refund => Sys2Proof.Machine.execRefund s
  | .loadProduct => Sys2Proof.Machine.execLoadProduct s
  | .setResort => Sys2Proof.Machine.execSetResort s
  | .setClock => Sys2Proof.Machine.execSetClock s
  | .readClock => Sys2Proof.Machine.execReadClock s
  | .loadCalendarBase => Sys2Proof.Machine.execLoadCalendarBase s
  | .loadCalendarRuns => Sys2Proof.Machine.execLoadCalendarRuns s
  | .setLane => Sys2Proof.Machine.execSetLane s
  | .setScheme => Sys2Proof.Machine.execSetScheme s
  | .setLift => Sys2Proof.Machine.execSetLift s
  | .readLanes => Sys2Proof.Machine.execReadLanes s
  | .setReport => Sys2Proof.Machine.execSetReport s
  | .takeSnapshot => Sys2Proof.Machine.execTakeSnapshot s
  | .readCounts => Sys2Proof.Machine.execReadCounts s
  | .loadTariff => Sys2Proof.Machine.execLoadTariff s
  | .setStorePolicy => Sys2Proof.Machine.execSetStorePolicy s
  | .readStore => Sys2Proof.Machine.execReadStore s
  | .setEvents => Sys2Proof.Machine.execSetEvents s
  | .restart tag => Sys2Proof.Machine.execRestart tag s
  | .tick lines => Sys2Proof.Machine.execTick lines s
  | .dayRollover lines => Sys2Proof.Machine.execDayRollover lines s
  | .clockStall lines => Sys2Proof.Machine.execClockStall lines s
  | .holdDue lines => Sys2Proof.Machine.execHoldDue lines s
  | .expiry => Sys2Proof.Machine.execExpiry s
  | .autoTransfer lines => Sys2Proof.Machine.execAutoTransfer lines s
  | .sweepDeadlineReached lines => Sys2Proof.Machine.execSweepDeadlineReached lines s
  | .sweepBatch => Sys2Proof.Machine.execSweepBatch s
  | .resetLine => Sys2Proof.Machine.execResetLine s
  | .resetLineInactive => Sys2Proof.Machine.execResetLineInactive s
  | .powerOnReset => Sys2Proof.Machine.execPowerOnReset s

end Sys2Proof.Machine
end

