-- ==== Sys2Proof/Safety.lean ====
section
/-! DEFINITION. What the claims are stated in: which parts of the state a command leaves alone, when a command has its
event to take, and the invariants that every step keeps. -/

namespace Sys2Proof.Machine

/-! ### Frames -/

/-- The parts of the state, one for each field of `State`. -/
inductive Part where
  | pending
  | pins
  | gates
  | office
  | slots
  | freeSlots
  | products
  | resort
  | history
  | clock
  | calendar
  | lanes
  | lifts
  | scheme
  | counts
  | tariff
  | arbiter
  | sweep
  | orderIndex
deriving DecidableEq, Repr

/-- Two states agree on a part. -/
def Part.same (s t : State) : Part → Prop
  | .pending => t.pending = s.pending
  | .pins => t.pins = s.pins
  | .gates => t.gates = s.gates
  | .office => t.office = s.office
  | .slots => t.slots = s.slots
  | .freeSlots => t.freeSlots = s.freeSlots
  | .products => t.products = s.products
  | .resort => t.resort = s.resort
  | .history => t.history = s.history
  | .clock => t.clock = s.clock
  | .calendar => t.calendar = s.calendar
  | .lanes => t.lanes = s.lanes
  | .lifts => t.lifts = s.lifts
  | .scheme => t.scheme = s.scheme
  | .counts => t.counts = s.counts
  | .tariff => t.tariff = s.tariff
  | .arbiter => t.arbiter = s.arbiter
  | .sweep => t.sweep = s.sweep
  | .orderIndex => t.orderIndex = s.orderIndex

/-- The frame of a command: every part of the state but those listed is as before. -/
def onlyChanges (ps : List Part) (s t : State) : Prop := ∀ p, p ∉ ps → Part.same s t p

/-- The part of the state that holds a port. -/
def portPart : Port → Part
  | .gate _ => .gates
  | .office => .office

/-- What every grant of the store can change: the port that is answered, the arbiter's counters and the sweep's grant count. -/
def grantParts : List Part := [.gates, .office, .arbiter, .sweep]

/-- What a warm reset can change. -/
def warmParts : List Part := [.gates, .office, .slots, .history, .lanes, .lifts, .counts, .arbiter, .sweep]

/-- What a tick can change. -/
def tickParts : List Part :=
  [.pins, .gates, .office, .clock, .lanes, .lifts, .counts, .arbiter, .sweep, .orderIndex]

/-- The frame of every command: the parts that it can change. -/
def touches : Instr → List Part
  | .send p _ => if p = .office then warmParts else [.gates, .arbiter]
  | .fetch p _ | .status p _ | .answeredFrame p | .readEvents p => [portPart p]
  | .present | .release | .laneReportJam | .expiry => [.slots, .history, .lanes, .lifts, .counts] ++ grantParts
  | .passed => [.slots, .lanes, .lifts, .counts] ++ grantParts
  | .laneReportClear => .lanes :: grantParts
  | .laneReportQuery | .inquire => grantParts
  | .issue => [.slots, .freeSlots] ++ grantParts
  | .reissue | .suspend | .resume | .refund => .slots :: grantParts
  | .restore => [.slots, .freeSlots, .history] ++ grantParts
  | .addUse => [.slots, .history] ++ grantParts
  | .setLane => [.slots, .history, .lanes, .lifts, .counts, .orderIndex] ++ grantParts
  | .loadProduct => [.products, .office]
  | .setResort => [.resort, .office]
  | .setClock => [.clock, .sweep, .office]
  | .readClock | .readLanes | .readStore => [.office]
  | .loadCalendarBase | .loadCalendarRuns => [.calendar, .office]
  | .setScheme => [.scheme, .office]
  | .setLift => [.lifts, .office]
  | .setReport | .takeSnapshot | .readCounts => [.counts, .office]
  | .loadTariff => [.tariff, .office]
  | .setStorePolicy => [.sweep, .arbiter, .office]
  | .setEvents => [.gates, .office]
  | .restart _ => warmParts
  | .tick _ | .dayRollover _ | .clockStall _ | .holdDue _ | .autoTransfer _ | .sweepDeadlineReached _ => tickParts
  | .sweepBatch => [.slots, .freeSlots, .history, .arbiter, .sweep, .office]
  | .resetLine => .pins :: warmParts
  | .resetLineInactive => [.pins]
  | .powerOnReset =>
    [.gates, .office, .slots, .freeSlots, .products, .resort, .history, .clock, .calendar, .lanes, .lifts, .scheme, .counts,
     .tariff, .arbiter, .sweep]

/-- The event units' settings, the transactions in progress and what the masters have last read are as before, at every port. -/
def State.SamePorts (s t : State) : Prop :=
  ∀ p, (t.port p).masks = (s.port p).masks ∧ (t.port p).edges = (s.port p).edges
    ∧ (t.port p).restarted = (s.port p).restarted ∧ (t.port p).transaction = (s.port p).transaction
    ∧ (t.port p).dataOut = (s.port p).dataOut

/-- The queues after the completion of the request in place `i` of port `p`: its place is free, and its response, with the kind and
tag of `f`, is the youngest of the response queue; the queues of the other ports are as before (R186). -/
def State.Answers (s t : State) (p : Port) (i : Nat) (f : Frame) (payload : List Byte) : Prop :=
  (t.port p).requests = (s.port p).requests.eraseIdx i
    ∧ (t.port p).responses = (s.port p).responses ++ [{ kind := f.kind, tag := f.tag, payload := payload }]
    ∧ ∀ q, q ≠ p → (t.port q).requests = (s.port q).requests ∧ (t.port q).responses = (s.port q).responses

/-- The counters that a command raises: each of those listed by 1, in the running set and in the day set, unless it stands at the
top of its range; every other counter of the two sets is as before (R130). -/
def State.Counts (s t : State) (ls : List (Lane × LaneCounter)) (fs : List (Lift × LiftCounter)) : Prop :=
  (∀ l k, t.counts.running.lane l k
      = if (l, k) ∈ ls then bump Config.runningTop (s.counts.running.lane l k) else s.counts.running.lane l k)
    ∧ (∀ l k, t.counts.day.lane l k
      = if (l, k) ∈ ls then bump Config.dayTop (s.counts.day.lane l k) else s.counts.day.lane l k)
    ∧ (∀ f k, t.counts.running.lift f k
      = if (f, k) ∈ fs then bump Config.runningTop (s.counts.running.lift f k) else s.counts.running.lift f k)
    ∧ (∀ f k, t.counts.day.lift f k
      = if (f, k) ∈ fs then bump Config.dayTop (s.counts.day.lift f k) else s.counts.day.lift f k)

/-- Every slot but `n` is as before. -/
def State.SameSlotsBut (s t : State) (n : Nat) : Prop := ∀ m, m ≠ n → t.entryAt m = s.entryAt m

/-- Every lane but `l` is as before. -/
def State.SameLanesBut (s t : State) (l : Lane) : Prop := ∀ m, m ≠ l → t.lane m = s.lane m

/-- Every lift but `f` is as before. -/
def State.SameLiftsBut (s t : State) (f : Lift) : Prop := ∀ g, g ≠ f → t.lift g = s.lift g

/-- The walk after its urgency has been raised to MUST: at MAY the grant count becomes 0; at MUST nothing changes (R171, R172). -/
def mustWalk (w : Option Walk) : Option Walk :=
  w.map fun x => { x with urgency := match x.urgency with
    | .may => .must 0
    | .must n => .must n }

/-! ### When a command has its event to take -/

/-- The store arbiter grants the request `r` of kind `k` next (R167). -/
def State.grants (s : State) (k : ReqKind) (r : StoreReq) : Prop := s.grantable (isKind k) = some r

/-- Port `p` can serve the request of kind `k` in place `i` of its queue, with frame `f` (R185). -/
def State.serves (s : State) (p : Port) (k : ReqKind) (i : Nat) (f : Frame) : Prop :=
  s.servable p (isKind k) = some (i, f)

/-- Port `p` can take a frame: the reset line is inactive and a request place is free (R183, R188). -/
def State.canTake (s : State) (p : Port) : Prop :=
  s.pins.resetActive = false ∧ (s.port p).requests.length < Config.queuePlaces

/-- The grants of the store that answer a request: each command with the frames it can be granted to (R161, R167). -/
def grantedCommands : List (Instr × (Frame → Bool)) :=
  [(.present, isKind .present), (.passed, isKind .passed), (.release, isKind .release), (.laneReportJam, isReport 0),
   (.laneReportClear, isReport 1), (.laneReportQuery, isReport 2), (.setLane, isKind .setLane), (.issue, isKind .issue),
   (.reissue, isKind .reissue), (.suspend, isKind .suspend), (.resume, isKind .resume), (.restore, isKind .restore),
   (.addUse, isKind .addUse), (.inquire, isKind .inquire), (.refund, isKind .refund)]

/-- The bytes that a SEND at port `p` has shifted in after the transaction code, with those of this command; none when no SEND that
still waits for its frame is in progress (R183). -/
def State.shiftedIn (s : State) (p : Port) (bytes : Piece (List Byte)) : Option (List Byte) :=
  if bytes.begins then some bytes.data
  else match (s.port p).transaction with
    | some (.sending got) => some (got ++ bytes.data)
    | _ => none

/-- What the manual says port `p` has shifted out in the transaction of a command, before the bytes of the command itself: the status
byte where the transaction begins with it (R182). -/
def State.dataSoFar (s : State) (p : Port) (begins : Bool) : List Byte :=
  if begins then [s.statusByte p] else (s.port p).dataOut

/-- Slot `n` is the lowest-numbered free slot of the bucket of a pass number (R4). -/
def State.LowestFree (s : State) (pass n : Nat) : Prop :=
  n / Config.bucketSize = bucketOf pass ∧ s.entryAt n = none
    ∧ ∀ m, m / Config.bucketSize = bucketOf pass → m < n → (s.entryAt m).isSome = true

/-- Every slot of the bucket of a pass number is occupied (R4). -/
def State.BucketFull (s : State) (pass : Nat) : Prop :=
  ∀ m, m / Config.bucketSize = bucketOf pass → (s.entryAt m).isSome = true

/-- The ranges of step 1 of R13. -/
def IssueFields.Valid (f : IssueFields) : Prop :=
  1 ≤ f.pass ∧ f.pass ≤ 4294967294 ∧ f.seq ≤ 15 ∧ f.product ≤ 63 ∧ f.validFrom ≤ 65534 ∧ 1 ≤ f.window ∧ f.window ≤ 60
    ∧ f.validFrom + f.window - 1 ≤ 65534 ∧ 1 ≤ f.bought ∧ f.bought ≤ 30 ∧ f.bought ≤ f.window ∧ f.price ≤ 4000000

/-- The field checks of step 3 of R18, for every record of a request; an admit count is one byte. -/
def RecordsValid (rs : List RawRecord) : Prop :=
  ∀ x ∈ rs, x.cls ≤ 3 ∧ x.first ≤ 86399 ∧ 1 ≤ x.admits ∧ x.admits ≤ 255 ∧ x.lifts ≠ 0

/-- The day checks of step 3 of R18: each day from `lo` to `hi` and not after `today`, the days in strictly increasing order. -/
def DaysValid (lo hi today : Nat) (rs : List RawRecord) : Prop :=
  (∀ x ∈ rs, lo ≤ x.day ∧ x.day ≤ hi ∧ x.day ≤ today) ∧ (rs.map RawRecord.day).Pairwise (· < ·)

/-! ### The checks of a PRESENT (R55) -/

/-- The entry that the card of an image finds, with its slot; none for an image that fails the integrity check (R61). -/
def State.presented (s : State) : Image → Option (Nat × Entry)
  | .bad _ => none
  | .card c => s.findPass c.pass

/-- A condition on the card of an image and on the entry that it finds; false where either is missing. -/
def State.onFound (s : State) (image : Image) (cond : Card → Entry → Bool) : Bool :=
  match image with
  | .bad _ => false
  | .card c => (s.findPass c.pass).any fun x => cond c x.2

/-- The 17 checks of a PRESENT at lane `l`, in the order of R55, each with the verdict that it gives. -/
def State.checks (s : State) (l : Lane) (image : Image) : List (Bool × Code) :=
  let lift := s.liftOf l
  let rider (e : Entry) : Bool := (s.product e.product).kind == .rider
  let today := s.clock.day
  [(s.clock.state == .unset, .clockUnset),
   ((s.lane l).state == .work .closed, .laneClosed),
   (match (s.lane l).state with | .fault _ => true | _ => false, .laneFault),
   (match image with | .bad _ => true | .card _ => false, .unreadable),
   (match image with | .bad _ => false | .card c => s.resort == 0 || c.resort != s.resort, .foreign),
   ((s.presented image).isNone, .unknown),
   (s.onFound image fun c e => c.seq != e.seq, .superseded),
   (s.onFound image fun c e => c.product != e.product.val || c.validFrom != e.validFrom, .mismatch),
   (s.onFound image fun _ e => !(s.product e.product).defined, .productVoid),
   ((s.lane l).state == .work .opened && s.onFound image fun _ e => rider e, .free),
   ((s.lane l).state == .work .opened && s.onFound image fun _ e => !rider e, .control),
   (s.onFound image fun _ e => e.marker == some l, .held),
   (s.onFound image fun _ e => e.marker.isSome, .inUse),
   ((s.lane l).hold.isSome, .laneBusy),
   ((s.lift lift).established == .stopped, .liftStopped),
   (s.onFound image fun _ e => e.state.code == 3, .suspended),
   (s.onFound image fun _ e => e.state.code == 4, .refunded),
   (s.onFound image fun _ e => e.state.code == 5, .expired),
   (s.onFound image fun _ e => today < e.validFrom, .notYet),
   (s.onFound image fun _ e => e.validTo < today, .expired),
   (s.onFound image fun _ e => !(s.product e.product).mask.getLsbD lift.val, .wrongLift),
   (s.onFound image fun _ e => rider e && e.state.code == 2 && e.lastUse != some today, .exhausted),
   (s.onFound image fun _ e => rider e && (1 ≤ (s.product e.product).passback && e.lastAdmit.any fun a =>
      a.lift == lift && a.day == today && s.clock.sec ≤ a.sec + (s.product e.product).passback), .passback),
   ((s.lift lift).level < 60, .pace)]

/-- The verdict of the first check that applies, or ADMIT when none does. -/
def firstOf : List (Bool × Code) → Code
  | [] => .admitted
  | (applies, v) :: rest => if applies then v else firstOf rest

/-- The verdict of the checks of a PRESENT, before a dwell turns it into TOGGLED (R55). -/
def State.verdict (s : State) (l : Lane) (image : Image) : Code := firstOf (s.checks l image)

/-- Whether the PRESENT of the entry `e` with the verdict `v` of its checks is a tracked presentation: ADMIT, HELD or CONTROL of a
CONTROL pass (R78). -/
def State.tracked (s : State) (v : Code) (e : Entry) : Bool :=
  (s.product e.product).kind == .control && (v == .admitted || v == .held || v == .control)

/-- Whether a tracked presentation of a pass at a lane toggles the lane (R119, R120). -/
def State.toggling (s : State) (l : Lane) (pass : Nat) : Bool :=
  toggles (trackedDwell (s.lane l).dwell pass s.now) s.now (s.lane l).profile

/-! ### Ranges -/

/-- A port's queues hold at most 8 frames each (R186), and its flags stand in table order without repeats. -/
abbrev PortRec.ok (r : PortRec) : Prop :=
  r.requests.length ≤ Config.queuePlaces ∧ r.responses.length ≤ Config.queuePlaces ∧ r.flags.Sublist allEvents

/-- The transaction in progress at a port: a SEND still waits for its frame, and the bytes of a response that a FETCH has left to
shift out are the last of the oldest response, which has not left the queue (R183, R187). -/
def PortRec.TransactionOk (r : PortRec) : Prop :=
  (∀ got, r.transaction = some (.sending got) → sentFrame got = none)
    ∧ ∀ left, r.transaction = some (.fetching left true) →
      left ≠ [] ∧ ∃ f rest, r.responses = f :: rest ∧ left <:+ f.bytes

/-- The season clock: the ranges of R41, held at 0 in UNSET, stalled only at the last instant (R41, R44). -/
abbrev Clock.ok (c : Clock) : Prop :=
  c.day ≤ Config.lastDay ∧ c.sec ≤ Config.lastSecond ∧ c.ticks < 4294967296
    ∧ (c.state = .unset → c.day = 0 ∧ c.sec = 0 ∧ c.stalled = false)
    ∧ (c.stalled = true → c.day = Config.lastDay ∧ c.sec = Config.lastSecond)

/-- A lift: the ranges of rate, burst and level (R114). -/
abbrev LiftRec.ok (r : LiftRec) : Prop :=
  1 ≤ r.rate ∧ r.rate ≤ 120 ∧ 1 ≤ r.burst ∧ r.burst ≤ 32 ∧ r.level ≤ r.capacity

/-- A lane profile: the ranges of R108. -/
abbrev Profile.ok (p : Profile) : Prop :=
  3 ≤ p.holdTime ∧ p.holdTime ≤ 20 ∧ p.lateWindow ≤ 30 ∧ 1 ≤ p.threshold ∧ p.threshold ≤ 15

/-- A lane: its profile, its run count (R122), and no dwell in CLOSED or FAULT (R57). -/
abbrev LaneRec.ok (r : LaneRec) : Prop :=
  r.profile.ok ∧ r.unreadRun ≤ 255
    ∧ (r.dwell.isSome = true → r.state = .work .normal ∨ r.state = .work .opened)

/-- The instants of a lane on day `today`: an expiry and a dwell lie no later than today, and a deadline is an instant that the clock
can hold (R48, R83, R96, R118). -/
def LaneRec.InstantsOk (r : LaneRec) (today : Nat) : Prop :=
  (∀ x, r.late = some x → x.expired.day ≤ today ∧ x.expired.sec ≤ Config.lastSecond)
    ∧ (∀ d, r.dwell = some d → d.start.day ≤ today ∧ d.start.sec ≤ Config.lastSecond ∧ d.last.day ≤ today
        ∧ d.last.sec ≤ Config.lastSecond)
    ∧ ∀ h, r.hold = some h → h.deadline.day ≤ Config.lastDay ∧ h.deadline.sec ≤ Config.lastSecond

/-- Every counter of a set is at most `top` (R130). -/
abbrev CountSet.atMost (c : CountSet) (top : Nat) : Prop :=
  (∀ l k : Nat, (hl : l < 8) → (hk : k < 11) → (c.lanes[l])[k] ≤ top)
    ∧ (∀ f k : Nat, (hf : f < 4) → (hk : k < 3) → (c.lifts[f])[k] ≤ top)

/-- The count unit: the ranges of R130 and R132. -/
abbrev CountUnit.ok (c : CountUnit) : Prop :=
  c.running.atMost Config.runningTop ∧ c.snapshot.atMost Config.runningTop ∧ c.day.atMost Config.dayTop
    ∧ 1 ≤ c.period ∧ c.period ≤ 60 ∧ c.round ≤ 65535 ∧ c.snapRound ≤ 65535
    ∧ (∀ n, c.mode = .auto n → 1 ≤ n ∧ n ≤ 3600)

/-- The sweep: the ranges of R169. -/
abbrev Sweep.ok (w : Sweep) : Prop :=
  w.retention ≤ 60 ∧ w.deadline ≤ Config.lastSecond ∧ w.floor ≤ Config.slotCount
    ∧ (∀ x, w.walk = some x → x.cursor % Config.batchSize = 0 ∧ x.cursor < Config.slotCount
        ∧ ∀ n, x.urgency = .must n → n ≤ 4)

/-- The arbiter's lane burst counter and burst limit (R168). -/
abbrev Arbiter.ok (a : Arbiter) : Prop := a.burst ≤ 15 ∧ 1 ≤ a.burstLimit ∧ a.burstLimit ≤ 15

/-- A product: the ranges of R6; an undefined product has its power-on values (R7). -/
abbrev Product.ok (p : Product) : Prop :=
  p.passback ≤ 3600 ∧ p.fee ≤ 100000 ∧ 1 ≤ p.unit ∧ p.unit ≤ 10000 ∧ p.minPayout ≤ 100000
    ∧ (p.defined = false → p = .powerOn)

/-- Every range that the manual gives for a quantity outside the pass store and the use history store, and a sweep that is
ACTIVE only while the clock runs (R169). -/
structure State.InRange (s : State) : Prop where
  ports    : ∀ p : Port, (s.port p).ok
  sends    : ∀ p : Port, (s.port p).TransactionOk
  clock    : s.clock.ok
  lanes    : ∀ l : Lane, (s.lane l).ok
  instants : ∀ l : Lane, (s.lane l).InstantsOk s.clock.day
  lifts    : ∀ f : Lift, (s.lift f).ok
  counts   : s.counts.ok
  sweep    : s.sweep.ok
  walk     : s.sweep.walk.isSome = true → s.clock.state = .running
  arbiter  : s.arbiter.ok
  products : ∀ c : Fin 64, (s.product c).ok
  tariff   : ∀ (row : Fin 8) (c : DayClass), s.rate row c ≤ 200000
  resort   : s.resort ≤ 65535
  calendar : s.calendar.base ≤ Config.lastDay

/-! ### The request queues -/

/-- What a frame that waits at port `p` is (R184, R185): an answered frame; a port-served request that has passed the checks of the
port and does not use the store; or a requester of the store that has passed them, with a stamp that was given before. -/
def State.WaitingOk (s : State) (p : Port) (w : Waiting) : Prop :=
  match w.role with
  | .answered _ => True
  | .served => checkFrame p w.frame w.frame.payload.length = none
      ∧ ∃ k, ReqKind.ofCode w.frame.kind = some k ∧ k.storeClass = none ∧ k ≠ .restart
  | .store stamp => checkFrame p w.frame w.frame.payload.length = none
      ∧ (∃ k, ReqKind.ofCode w.frame.kind = some k ∧ k.storeClass.isSome = true) ∧ stamp < s.arbiter.nextStamp

/-- The request queues: every waiting frame is what its port took it as, the requesters of one queue stand in the order of their
stamps, and a stamp is given once (R162). -/
structure State.QueuesOk (s : State) : Prop where
  waiting : ∀ p, ∀ w ∈ (s.port p).requests, s.WaitingOk p w
  stamps  : (s.storeReqs.map StoreReq.stamp ++ s.arbiter.expiries.map Expiry.stamp).Nodup
  ordered : ∀ p, ((storeReqsOf p 0 (s.port p).requests).map StoreReq.stamp).Pairwise (· < ·)
  expired : ∀ x ∈ s.arbiter.expiries, x.stamp < s.arbiter.nextStamp

/-! ### The pass store -/

/-- The pass store: slots in canonical form, each entry in the bucket of its pass number, no two entries with one pass number,
and occupied slots plus free slots equal 16,384 (R4, R5). -/
structure State.StoreOk (s : State) : Prop where
  canonical : Table.wf Config.slotCount s.slots
  bucket    : ∀ n e, s.entryAt n = some e → n / Config.bucketSize = bucketOf e.pass
  oneEntry  : ∀ n m e e', s.entryAt n = some e → s.entryAt m = some e' → e.pass = e'.pass → n = m
  count     : s.slots.length + s.freeSlots = Config.slotCount

/-! ### Holds -/

/-- What an open hold at lane `l` asks of the rest of the state (R83): the lane is NORMAL, and the entry of the hold's slot
carries the hold's pass number and the marker of the lane, in ISSUED, ACTIVE or EXHAUSTED. -/
def State.HoldOk (s : State) (l : Lane) (h : Hold) : Prop :=
  (s.lane l).state = .work .normal
    ∧ ∃ e, s.entryAt h.slot = some e ∧ e.pass = h.pass ∧ e.marker = some l ∧ ∃ q, e.state = .live q

/-- Open holds and hold markers match (R3, R83): every open hold is one of an entry that carries its lane's marker, and every
marker names the lane whose hold is the entry's; the grant orders of open holds differ and are no higher than the arbiter's
last grant number. -/
structure State.HoldsOk (s : State) : Prop where
  hold   : ∀ l h, (s.lane l).hold = some h → s.HoldOk l h
  marker : ∀ n e l, s.entryAt n = some e → e.marker = some l → ∃ h, (s.lane l).hold = some h ∧ h.slot = n
  order  : ∀ l h, (s.lane l).hold = some h → h.order ≤ s.arbiter.nextGrant
  orders : ∀ l m h h', (s.lane l).hold = some h → (s.lane m).hold = some h' → h.order = h'.order → l = m

/-- A day counter of a lane. -/
def State.dayCount (s : State) (l : Lane) (k : LaneCounter) : Nat := s.counts.day.lane l k

/-- The balance of R140 at a lane: day granted equals day committed + day released + day expired + 1 while a hold is open. A
granted counter that stands at the top of its range no longer tells how many grants it counted (R130). -/
def State.Balanced (s : State) (l : Lane) : Prop :=
  s.dayCount l .granted < Config.dayTop →
    s.dayCount l .granted = s.dayCount l .committed + s.dayCount l .released + s.dayCount l .expired
      + (if (s.lane l).hold.isSome then 1 else 0)

/-! ### Use history -/

/-- The granules `gs` form a chain that ends with fill `k`: each but the last is full and linked to the one after it, and the last
holds `k` records, 1–6 (R26). -/
def History.Linked (h : History) (k : Nat) : List Nat → Prop
  | [] => False
  | [g] => 1 ≤ k ∧ k ≤ Config.placeCount ∧ ∃ rs, h.granule g = some { link := .last k, records := rs } ∧ rs.length = k
  | g :: g' :: rest =>
    (∃ rs, h.granule g = some { link := .next g', records := rs } ∧ rs.length = Config.placeCount)
      ∧ h.Linked k (g' :: rest)

/-- An entry's chain is what R26 says: absent, or linked from its head to its tail with its tail fill. -/
def History.ChainOk (h : History) : Option Chain → Prop
  | none => True
  | some c =>
    h.Linked c.fill (h.chainGranules (some c))
      ∧ (h.chainGranules (some c)).head? = some c.head ∧ (h.chainGranules (some c)).getLast? = some c.tail

/-- The granules of all chains, in slot order. -/
def State.chained (s : State) : List Nat := s.slots.flatMap fun x => s.history.chainGranules x.2.chain

/-- The undo facts of an open hold fit the entry as the grant left it (R33, R34): a debit was either recorded or lost; a written
record is the tail record, and it stands alone in the tail granule exactly when the grant allocated that granule. -/
def UndoFacts.Fit (u : UndoFacts) (e : Entry) : Prop :=
  (u.debitMade = true ↔ u.recordWritten = true ∨ u.debitLost = true)
    ∧ ¬(u.recordWritten = true ∧ u.debitLost = true)
    ∧ (u.recordWritten = true → ∃ c, e.chain = some c ∧ (u.granuleAllocated = true ↔ c.fill = 1))
    ∧ (u.debitLost = true → 1 ≤ e.lost)

/-- The use history store: every chain is linked, the records of a pass are its days used less its lost days (R2), and the free
queue and the chains hold all 16,384 granules between them, each once (R27); a FREE granule holds nothing, and HISTORY_FULL is
true only while the free queue is empty (R31). -/
structure State.HistoryOk (s : State) : Prop where
  table  : Table.wf Config.granuleCount s.history.granules
  chains : ∀ n e, s.entryAt n = some e → s.history.ChainOk e.chain
  used   : ∀ n e, s.entryAt n = some e → e.used = (s.history.records e.chain).length + e.lost
  once   : (s.history.free ++ s.chained).Nodup
  all    : ∀ g, g < Config.granuleCount ↔ g ∈ s.history.free ++ s.chained
  empty  : ∀ g ∈ s.history.free, s.history.granule g = none
  full   : s.history.full = true → s.history.free = []
  facts  : ∀ l h e, (s.lane l).hold = some h → s.entryAt h.slot = some e → h.facts.Fit e

/-! ### Entries -/

/-- An entry on day `today`: the ranges of R1, a window of at most 60 days (R13, R200), lost days within days used within days
bought, no last-use day, last admit or refund day after today (R2), and a state that says EXHAUSTED exactly when every day bought
is used. -/
def Entry.Ok (e : Entry) (today : Nat) : Prop :=
  1 ≤ e.pass ∧ e.pass ≤ 4294967294 ∧ e.seq ≤ 15 ∧ e.validFrom ≤ e.validTo ∧ e.validTo ≤ Config.lastDay
    ∧ e.validTo ≤ e.validFrom + 59
    ∧ 1 ≤ e.bought ∧ e.bought ≤ 30 ∧ e.used ≤ e.bought ∧ e.lost ≤ e.used ∧ e.price ≤ 4000000
    ∧ (∀ d, e.lastUse = some d → d ≤ today)
    ∧ (∀ a, e.lastAdmit = some a → a.day ≤ today ∧ a.sec ≤ Config.lastSecond)
    ∧ match e.state with
      | .live q | .suspended q => q = .exhausted ↔ e.used = e.bought
      | .refunded day amount => day ≤ today ∧ amount ≤ e.price
      | .expired => True

/-- The records `rs` of a chain stand in strictly increasing order of day, so at most one a day, and none is after today or after the
last-use day `last`, which is present when there is a record (R2, R25). -/
def DaysInOrder (rs : List UseRecord) (last : Option Nat) (today : Nat) : Prop :=
  (rs.map UseRecord.day).Pairwise (· < ·) ∧ ∀ x ∈ rs, x.day ≤ today ∧ ∃ d, last = some d ∧ x.day ≤ d

/-- What an open hold keeps of the entry fits the entry before the grant: its days used before the grant, its last-use day. -/
def Hold.PrevOk (h : Hold) (e : Entry) (today : Nat) : Prop :=
  (h.facts.debitMade = true → 1 ≤ e.used)
    ∧ (h.facts.debitLost = true → h.facts.debitMade = true ∧ 1 ≤ e.lost)
    ∧ (h.facts.debitMade = true → h.facts.debitLost = false → e.lost < e.used)
    ∧ (h.prevState = .exhausted ↔ (if h.facts.debitMade then e.used - 1 else e.used) = e.bought)
    ∧ (∀ d, h.prevLastUse = some d → d ≤ today)
    ∧ (∀ a, h.prevLastAdmit = some a → a.day ≤ today ∧ a.sec ≤ Config.lastSecond)

/-- Every entry is within its ranges today with its use records in order of day, and so is what an open hold keeps of one: the records
but the one that the hold's grant wrote, by the last-use day before the grant (R1, R2, R25). -/
structure State.EntriesOk (s : State) : Prop where
  entry : ∀ n e, s.entryAt n = some e → e.Ok s.clock.day
  days  : ∀ n e, s.entryAt n = some e → DaysInOrder (s.history.records e.chain) e.lastUse s.clock.day
  older : ∀ l h e, (s.lane l).hold = some h → s.entryAt h.slot = some e →
    DaysInOrder (if h.facts.recordWritten then (s.history.records e.chain).dropLast else s.history.records e.chain)
      h.prevLastUse s.clock.day
  prev  : ∀ l h e, (s.lane l).hold = some h → s.entryAt h.slot = some e → h.PrevOk e s.clock.day

end Sys2Proof.Machine
end

