-- ==== Sys2Proof/Certificates/Slice0/Obligations.lean ====
section
/-! DEFINITION. The statements for the provers. Each docstring names the rules that the statement draws on (OBLIGATIONS.json says which of them it states whole); a clause that rests on
the model's own choice names the log entry. -/

open Sys2Proof Sys2Proof.Machine

/-! ### The queue of commands, frames and resets -/

/-- The command at the front of the queue is the one that a step takes, on the state with the queue's rest; on an empty queue the
part idles. The queue is the model's own (log entries 1 and 9). -/
def Obligations.StepTakesTheFrontCommand : Prop :=
  (∀ (c : Instr) (rest : List Instr) (s : State), step (s.withPending (c :: rest)) = exec c (s.withPending rest))
    ∧ ∀ s : State, step (s.withPending []) = .next (s.withPending [])

/-- Every command is taken in every state: none faults and none is refused. That a command whose event cannot occur, since the
arbiter or the port would choose no such request, leaves the state as it is, is the model's choice (log entry 1), and so is the
reading of the five rows that are ticks (log entry 2). The frame of every command: it changes no part of the state but those that
`touches` lists for it, and never the queue. -/
def Obligations.CommandsCompleteAndChangeOnlyTheirParts : Prop :=
  (∀ (c : Instr) (s : State), ∃ t, exec c s = .next t)
  ∧ (∀ (c : Instr) (s t : State), exec c s = .next t → onlyChanges (touches c) s t)

/-- The masks and edge modes of the ports are written by SET_EVENTS and by power-on reset alone (R191, R194, R195). A flag is
cleared only by a READ_EVENTS and by a reset (R190). Each request taken receives exactly one response, unless a reset drops it
(R186): every command that is neither a SEND nor a FETCH at a port, nor one that can make a reset, keeps the number of frames
that wait in the two queues of the port. A warm reset can be taken by RESTART, by a SEND of the office and by the reset line. -/
def Obligations.PortFrames : Prop :=
  ((∀ (c : Instr) (s t : State) (p : Port), exec c s = .next t → c ≠ .setEvents → c ≠ .powerOnReset →
    (t.port p).masks = (s.port p).masks ∧ (t.port p).edges = (s.port p).edges)
  ∧ (∀ (c : Instr) (s t : State) (p : Port) (e : Event), exec c s = .next t →
    (∀ q, c ≠ .readEvents q) → (∀ bytes, c ≠ .send .office bytes) → (∀ tag, c ≠ .restart tag) → c ≠ .resetLine →
    c ≠ .powerOnReset → (s.port p).flagged e = true → (t.port p).flagged e = true))
  ∧ (∀ (c : Instr) (s t : State) (p : Port), exec c s = .next t →
    (∀ bytes, c ≠ .send p bytes) → (∀ n, c ≠ .fetch p n) → (∀ bytes, c ≠ .send .office bytes) → (∀ tag, c ≠ .restart tag) →
    c ≠ .resetLine → c ≠ .powerOnReset →
    (t.port p).requests.length + (t.port p).responses.length = (s.port p).requests.length + (s.port p).responses.length)

/-- SEND, whole or in part (R182, R183, R184, R185): the bytes shifted in after the code, with those of an earlier command of the
same transaction, make a frame once they are whole. A frame of at most 64 payload bytes that the port can take waits in the youngest
request place, as an answered frame with the answer of the first check that it fails, as a requester of the store with a fresh
arrival stamp, or as a port-served request; bytes after the last payload byte are ignored. A frame announced longer than 64 bytes is
taken as soon as its length byte is in, answered UNKNOWN_REQUEST, NOT_PERMITTED or BAD_LENGTH, and kept without a payload (the
model's choice: log entry 10). Nothing is taken while the reset line is active, while the request queue is full, and before the frame
is whole (R188). Of the bytes shifted out only the status byte is recorded (log entry 10); transactions in pieces, and that a piece with no such SEND
in progress does nothing but end the transaction, are log entry 11's. -/
def Obligations.SendTakesAFrame : Prop :=
  (∀ (p : Port) (kind tag len : Byte) (payload extra : List Byte) (bytes : Piece (List Byte)) (s : State) (role : Role),
    s.canTake p → s.shiftedIn p bytes = some ([kind, tag, len] ++ payload ++ extra) →
    len.toNat ≤ 64 → payload.length = len.toNat →
    ((∃ c, checkFrame p { kind, tag, payload } len.toNat = some c ∧ role = .answered c)
      ∨ (checkFrame p { kind, tag, payload } len.toNat = none ∧ ∃ k, ReqKind.ofCode kind = some k ∧ k ≠ .restart
          ∧ role = if k.storeClass.isSome then .store s.arbiter.nextStamp else .served)) →
    ∃ t, exec (.send p bytes) s = .next t
      ∧ t.port p = { s.port p with
          requests := (s.port p).requests ++ [{ frame := { kind, tag, payload }, role }]
          transaction := if bytes.ends then none else some .over, dataOut := s.dataSoFar p bytes.begins }
      ∧ (∀ q, q ≠ p → t.port q = s.port q)
      ∧ t.arbiter = { s.arbiter with
          nextStamp := s.arbiter.nextStamp + (if role = .store s.arbiter.nextStamp then 1 else 0) }
      ∧ onlyChanges [portPart p, .arbiter] s t)
  ∧ (∀ (p : Port) (kind tag len : Byte) (rest : List Byte) (bytes : Piece (List Byte)) (s : State), s.canTake p →
    s.shiftedIn p bytes = some (kind :: tag :: len :: rest) → 64 < len.toNat →
    ∃ t, exec (.send p bytes) s = .next t
      ∧ t.port p = { s.port p with
          requests := (s.port p).requests ++ [{
            frame := { kind, tag, payload := [] }
            role := .answered (match ReqKind.ofCode kind with
              | none => .unknownRequest
              | some k => if k.permitted p then .badLength else .notPermitted) }]
          transaction := if bytes.ends then none else some .over, dataOut := s.dataSoFar p bytes.begins }
      ∧ (∀ q, q ≠ p → t.port q = s.port q) ∧ onlyChanges [portPart p] s t)
  ∧ (∀ (p : Port) (bytes : Piece (List Byte)) (s : State), s.shiftedIn p bytes = none →
    exec (.send p bytes) s = .next (if (s.port p).transaction = some .over then
      s.setPort p { s.port p with transaction := if bytes.ends then none else some .over } else s))
  ∧ ∀ (p : Port) (all : List Byte) (bytes : Piece (List Byte)) (s : State), s.shiftedIn p bytes = some all →
    let whole := ∃ kind tag len rest, all = kind :: tag :: len :: rest ∧ (64 < len.toNat ∨ len.toNat ≤ rest.length)
    let after (x : Transaction) : Option Transaction := if bytes.ends then none else some x
    (¬whole → exec (.send p bytes) s = .next (s.setPort p { s.port p with
      transaction := after (.sending all), dataOut := s.dataSoFar p bytes.begins }))
    ∧ (whole → (s.pins.resetActive = true ∨ Config.queuePlaces ≤ (s.port p).requests.length) →
      exec (.send p bytes) s = .next (s.setPort p { s.port p with
        transaction := after .over, dataOut := s.dataSoFar p bytes.begins }))

/-- The five checks of a taken frame, in order (R184), `n` being the announced length, and the tables that they read: the kind codes,
the permitted ports and the payload lengths of R198, with the count byte of RESTORE and ADD_USE and the form and count bytes of
LOAD_CALENDAR, the lanes of a gate port, and the codes of SET_LANE and LANE_REPORT that the port checks (R105, R107). -/
def Obligations.FrameChecksInOrder : Prop :=
  (∀ (p : Port) (f : Frame) (n : Nat),
    (ReqKind.ofCode f.kind = none → checkFrame p f n = some .unknownRequest)
    ∧ ∀ k, ReqKind.ofCode f.kind = some k →
      (k.permitted p = false → checkFrame p f n = some .notPermitted)
      ∧ (k.permitted p = true → k.lengthOk p n f.payload = false → checkFrame p f n = some .badLength)
      ∧ (k.permitted p = true → k.lengthOk p n f.payload = true → laneOk k p f.payload = false →
          checkFrame p f n = some .notPermitted)
      ∧ (k.permitted p = true → k.lengthOk p n f.payload = true → laneOk k p f.payload = true → k.codesOk f.payload = false →
          checkFrame p f n = some .badValue)
      ∧ (k.permitted p = true → k.lengthOk p n f.payload = true → laneOk k p f.payload = true → k.codesOk f.payload = true →
          checkFrame p f n = none))
  ∧ (∀ b : Byte, ReqKind.ofCode b = match b.toNat with
      | 1 => some .present | 2 => some .passed | 3 => some .release | 4 => some .laneReport | 5 => some .readEvents
      | 16 => some .issue | 17 => some .reissue | 18 => some .suspend | 19 => some .resume | 20 => some .restore
      | 21 => some .addUse | 22 => some .inquire | 23 => some .refund | 32 => some .loadProduct | 33 => some .setResort
      | 34 => some .setClock | 35 => some .readClock | 36 => some .loadCalendar | 37 => some .setLane | 38 => some .setScheme
      | 39 => some .setLift | 40 => some .readLanes | 41 => some .setReport | 42 => some .takeSnapshot | 43 => some .readCounts
      | 44 => some .loadTariff | 45 => some .setStorePolicy | 46 => some .readStore | 47 => some .setEvents | 48 => some .restart
      | _ => none)
  ∧ (∀ (k : ReqKind) (g : Fin 4),
    (k.permitted (.gate g) = true ↔ k ∈ [ReqKind.present, .passed, .release, .laneReport, .readEvents])
    ∧ (k.permitted .office = true ↔ k ∉ [ReqKind.present, .passed, .release, .laneReport]))
  ∧ (∀ (k : ReqKind) (p : Port) (n : Nat) (b : List Byte), k.lengthOk p n b = true ↔ match k with
      | .present => 1 ≤ n ∧ n ≤ 64
      | .passed | .release => n = 1
      | .laneReport => n = 2
      | .readEvents => n = if p = .office then 1 else 0
      | .issue => n = 14
      | .reissue | .suspend | .resume => n = 4
      | .restore => ∃ m, m ≤ 5 ∧ n = 16 + 6 * m ∧ (byteAt 15 b ≤ 5 → byteAt 15 b = m)
      | .addUse => ∃ m, 1 ≤ m ∧ m ≤ 5 ∧ n = 5 + 6 * m ∧ (1 ≤ byteAt 4 b → byteAt 4 b ≤ 5 → byteAt 4 b = m)
      | .inquire | .refund => n = 5
      | .loadProduct => n = 18
      | .setResort => n = 2
      | .setClock => n = 5
      | .loadCalendar =>
        (n = 3 ∧ (byteAt 0 b = 1 → byteAt 1 b < 1 ∨ 8 < byteAt 1 b))
          ∨ ∃ m, 1 ≤ m ∧ m ≤ 8 ∧ n = 2 + 5 * m ∧ byteAt 0 b ≠ 0
              ∧ (byteAt 0 b = 1 → 1 ≤ byteAt 1 b → byteAt 1 b ≤ 8 → byteAt 1 b = m)
      | .setLane => n = 7
      | .setScheme => n = 1
      | .setLift => n = 3
      | .setReport | .readCounts => n = 2
      | .loadTariff => n = 13
      | .setStorePolicy => n = 7
      | .setEvents => n = 8
      | .readClock | .readLanes | .takeSnapshot | .readStore | .restart => n = 0)
  ∧ ∀ (k : ReqKind) (p : Port) (b : List Byte),
    (laneOk k p b = false ↔ ∃ g : Fin 4, p = .gate g ∧ k ∈ [ReqKind.present, .passed, .release, .laneReport]
        ∧ byteAt 0 b ≠ 2 * g.val ∧ byteAt 0 b ≠ 2 * g.val + 1)
    ∧ (k.codesOk b = false ↔ (k = .laneReport ∧ 2 < byteAt 1 b)
        ∨ (k = .setLane ∧ (2 < byteAt 0 b ∨ 3 < byteAt 2 b ∨ (byteAt 0 b = 0 ∧ 7 < byteAt 1 b) ∨ (byteAt 0 b = 1 ∧ 3 < byteAt 1 b))))

/-- FETCH, whole or in part (R187, R188): a transaction that begins shifts out the oldest response after the status byte, or the empty
frame when none waits or the reset line is active; the response leaves its queue with its last byte, and a FETCH that ends before
leaves it there; a later command of the same transaction goes on where the bytes stood. STATUS shifts out the status byte and changes
nothing else (R182). The byte carries the attention state in bit 7, the restarted mark in bit 6, the request free count in bits 5–3
and the response count in bits 2–0, each count as 7 when it is 8; the transaction code is 1 for SEND, 2 for FETCH, and every other
value is STATUS (R197). Nothing is recorded of bytes that the manual does not name (PRESUMED, log entry 10); transactions in pieces
are log entry 11's. -/
def Obligations.FetchAndStatus : Prop :=
  (∀ (p : Port) (n : Nat) (ends : Bool) (s : State),
    let after (x : Transaction) : Option Transaction := if ends then none else some x
    (∀ f rest, s.pins.resetActive = false → (s.port p).responses = f :: rest → 3 + f.payload.length ≤ n →
      exec (.fetch p ⟨n, true, ends⟩) s = .next (s.setPort p { s.port p with
        responses := rest, transaction := after (.fetching [] false)
        dataOut := [s.statusByte p, f.kind, f.tag, byteOf f.payload.length] ++ f.payload }))
    ∧ (∀ f rest, s.pins.resetActive = false → (s.port p).responses = f :: rest → n < 3 + f.payload.length →
      exec (.fetch p ⟨n, true, ends⟩) s = .next (s.setPort p { s.port p with
        transaction := after (.fetching (([f.kind, f.tag, byteOf f.payload.length] ++ f.payload).drop n) true)
        dataOut := s.statusByte p :: ([f.kind, f.tag, byteOf f.payload.length] ++ f.payload).take n }))
    ∧ (s.pins.resetActive = true ∨ (s.port p).responses = [] →
      exec (.fetch p ⟨n, true, ends⟩) s = .next (s.setPort p { s.port p with
        transaction := after (.fetching (([0, 0, 0] : List Byte).drop n) false)
        dataOut := s.statusByte p :: ([0, 0, 0] : List Byte).take n }))
    ∧ (∀ left response, (s.port p).transaction = some (.fetching left response) →
      let last : Prop := response = true ∧ left.length ≤ n
      exec (.fetch p ⟨n, false, ends⟩) s = .next (s.setPort p { s.port p with
        responses := if last then (s.port p).responses.tail else (s.port p).responses
        transaction := after (.fetching (left.drop n) (response && n < left.length))
        dataOut := (s.port p).dataOut ++ left.take n }))
    ∧ ((∀ left response, (s.port p).transaction ≠ some (.fetching left response)) →
      exec (.fetch p ⟨n, false, ends⟩) s = .next s))
  ∧ (∀ (p : Port) (code : Byte) (s : State),
    exec (.status p code) s = .next (s.setPort p { s.port p with transaction := none, dataOut := [s.statusByte p] })
    ∧ (s.statusByte p).getLsbD 7 = (s.port p).attention
    ∧ (s.statusByte p).getLsbD 6 = (s.port p).restarted
    ∧ (s.statusByte p).toNat / 8 % 8
        = min 7 (if s.pins.resetActive then 0 else Config.queuePlaces - (s.port p).requests.length)
    ∧ (s.statusByte p).toNat % 8 = min 7 (s.port p).responses.length)
  ∧ (∀ (p : Port) (code : Byte) (s : State),
    (s.opening p code = .sending [] ↔ code = 1) ∧ ((∃ left response, s.opening p code = .fetching left response) ↔ code = 2)
    ∧ (s.opening p code = .over ↔ code ≠ 1 ∧ code ≠ 2)
    ∧ (∀ bytes, exec (.send p ⟨bytes, true, false⟩) s = .next ((s.opened p 1).shiftIn p bytes false))
    ∧ ∀ n, exec (.fetch p ⟨n, true, false⟩) s = .next ((s.opened p 2).shiftOut p n false))

/-- ANSWERED_FRAME (R184, R185, R197): the oldest port-served frame of a port with a free response place, one that failed a check,
is answered with its outcome byte alone; older requests that wait for the store stay. The port-served request that a port can
serve is the oldest of its port-served frames, and none while no response place is free; older store requests do not hold it
back (R185). -/
def Obligations.PortServedFramesInOrder : Prop :=
  (∀ (p : Port) (s : State) (older younger : List Waiting) (f : Frame) (c : Code),
    (s.port p).requests = older ++ { frame := f, role := .answered c } :: younger →
    (∀ w ∈ older, ∃ stamp, w.role = .store stamp) → (s.port p).responses.length < Config.queuePlaces →
    exec (.answeredFrame p) s = .next (s.setPort p { s.port p with
      requests := older ++ younger
      responses := (s.port p).responses ++ [{ kind := f.kind, tag := f.tag, payload := [c.byte] }] }))
  ∧ (∀ (s : State) (p : Port) (k : ReqKind) (i : Nat) (f : Frame),
    s.serves p k i f ↔
      (s.port p).responses.length < Config.queuePlaces ∧ ReqKind.ofCode f.kind = some k
        ∧ ∃ older younger, (s.port p).requests = older ++ { frame := f, role := .served } :: younger ∧ older.length = i
          ∧ ∀ w ∈ older, ∃ stamp, w.role = .store stamp)

/-- What every block has after power-on reset (00_scope.md, 4.6; R6, R9, R27, R41, R50, R102, R126, R141, R142, R168, R169, R188,
R195). The queue of commands, the pins and the model's own counter of free orders are kept, and no transaction is in progress (the model's
choices: log entries 3, 4, 9 and 11). -/
def Obligations.PowerOnResetValues : Prop :=
  ∀ s : State, ∃ t, exec .powerOnReset s = .next t
    ∧ (∀ p, (t.port p).requests = [] ∧ (t.port p).responses = [] ∧ (t.port p).restarted = true
        ∧ (t.port p).masks = BitVec.allOnes 15 ∧ (t.port p).attention = false ∧ (t.port p).transaction = none
        ∧ (t.port p).edges = { laneState := .rise, readerSuspect := .rise, liftState := .rise, historyFull := .rise, tableLow := .rise }
        ∧ (∀ e, (t.port p).flagged e = true ↔ p = .office ∧ e = .device .restarted))
    ∧ (∀ n, t.entryAt n = none) ∧ t.freeSlots = 16384
    ∧ (∀ c, t.product c = { defined := false, kind := .rider, mask := 0, passback := 0, refundable := false, row := 0, fee := 0,
                            unit := 1, minPayout := 0 })
    ∧ t.resort = 0
    ∧ (∀ g, t.history.granule g = none) ∧ t.history.free = List.range 16384 ∧ t.history.full = false
    ∧ t.clock = { state := .unset, day := 0, sec := 0, stalled := false, ticks := 0 }
    ∧ t.calendar.base = 0 ∧ (∀ i : Fin 512, t.calendar.classes[i] = 1)
    ∧ (∀ l, t.lane l = { state := .work .closed, profile := { holdTime := 8, lateWindow := 10, threshold := 7, toggle := false },
                         dwell := none, unreadRun := 0, hold := none, late := none })
    ∧ (∀ f, t.lift f = { established := .stopped, previous := none, rate := 30, burst := 8, level := 480 })
    ∧ t.scheme = .s0
    ∧ (∀ c ∈ [t.counts.running, t.counts.snapshot, t.counts.day], (∀ l k, c.lane l k = 0) ∧ ∀ f k, c.lift f k = 0)
    ∧ t.counts.mode = .manual ∧ t.counts.period = 15 ∧ t.counts.round = 0 ∧ t.counts.snapRound = 0
    ∧ t.counts.snapUnread = false ∧ t.counts.snapOverrun = false ∧ t.counts.snapSaturated = false ∧ t.counts.saturated = false
    ∧ (∀ row c, t.rate row c = 0)
    ∧ t.arbiter.burst = 0 ∧ t.arbiter.burstLimit = 6 ∧ t.arbiter.expiries = []
    ∧ t.sweep = { walk := none, retention := 7, deadline := 21600, floor := 256 }
    ∧ t.pending = s.pending ∧ t.pins = s.pins ∧ t.orderIndex = s.orderIndex

/-- The reset line becoming active makes a warm reset, and so does a RESTART that the office port can take, which is the SEND, whole or
in pieces, of a frame of kind 48 and length 0, whatever bytes follow; a line that is active already makes no further reset, and when
it becomes inactive nothing but the line changes (R188). A warm reset leaves queues dropped and flags clear but RESTARTED, lanes CLOSED with their profiles
kept, lifts STOPPED with full pace buckets, running and snapshot counters 0, each open hold counted released in the day set
alone, and a walk restarted (R93, R102, R126, R141, R168, R173, R188, R195). A transaction in progress is ended: a SEND takes no frame
any more, and the rest of a FETCH shifts out the bytes of the empty frame, from its first (R188; log entry 11). Every entry with an open
hold is as it was before its grant, with its chain, and every other entry and chain stays; the granules that the rolled-back grants
allocated return to the head of the free queue, in the order in which they were allocated, and HISTORY_FULL becomes false when one
does (R31, R36, R88, R93). The model's choices: the sequence of stamps goes on (log entry 5), the counter of free orders is kept (log entry 3), and of the SEND that carries a RESTART
only the status byte is recorded as shifted out (log entry 10). -/
def Obligations.WarmResetByLineAndRestart : Prop :=
  (∀ (s : State) (tag : Byte),
    (s.pins.resetActive = false → exec .resetLine s = .next (s.withPins { s.pins with resetActive := true }).warmReset)
    ∧ (s.pins.resetActive = true → exec .resetLine s = .next s)
    ∧ exec .resetLineInactive s = .next (s.withPins { s.pins with resetActive := false })
    ∧ exec (.restart tag) s = exec (.send .office (.whole [48, tag, 0])) s
    ∧ (s.canTake .office →
        exec (.restart tag) s = .next (s.setPort .office { s.office with
          transaction := none, dataOut := [s.statusByte .office] }).warmReset)
    ∧ ∀ (bytes : Piece (List Byte)) (extra : List Byte), s.canTake .office →
        s.shiftedIn .office bytes = some ([48, tag, 0] ++ extra) →
        exec (.send .office bytes) s = .next (s.setPort .office { s.office with
          transaction := if bytes.ends then none else some .over, dataOut := s.dataSoFar .office bytes.begins }).warmReset)
  ∧ (∀ s : State,
    (∀ p, (s.warmReset.port p).requests = [] ∧ (s.warmReset.port p).responses = [] ∧ (s.warmReset.port p).restarted = true
      ∧ (s.warmReset.port p).masks = (s.port p).masks ∧ (s.warmReset.port p).edges = (s.port p).edges
      ∧ (s.warmReset.port p).dataOut = (s.port p).dataOut
      ∧ (s.warmReset.port p).transaction = (match (s.port p).transaction with
          | none => none
          | some (.fetching _ _) => some (.fetching [0, 0, 0] false)
          | some (.sending _) | some .over => some .over)
      ∧ ∀ e, (s.warmReset.port p).flagged e = true ↔ p = .office ∧ e = .device .restarted)
    ∧ (∀ l, s.warmReset.lane l = { state := .work .closed, profile := (s.lane l).profile, dwell := none, unreadRun := 0,
                                   hold := none, late := none })
    ∧ (∀ f, s.warmReset.lift f = { established := .stopped, previous := none, rate := (s.lift f).rate, burst := (s.lift f).burst,
                                   level := 60 * (s.lift f).burst })
    ∧ (∀ c ∈ [s.warmReset.counts.running, s.warmReset.counts.snapshot], (∀ l k, c.lane l k = 0) ∧ ∀ f k, c.lift f k = 0)
    ∧ (∀ l, s.warmReset.dayCount l .released
        = if (s.lane l).hold.isSome then bump Config.dayTop (s.dayCount l .released) else s.dayCount l .released)
    ∧ (∀ l k, k ≠ .released → s.warmReset.dayCount l k = s.dayCount l k)
    ∧ (∀ f k, s.warmReset.counts.day.lift f k = s.counts.day.lift f k)
    ∧ s.warmReset.counts.round = 0 ∧ s.warmReset.counts.snapRound = 0 ∧ s.warmReset.counts.snapUnread = false
    ∧ s.warmReset.counts.snapOverrun = false ∧ s.warmReset.counts.snapSaturated = false ∧ s.warmReset.counts.saturated = false
    ∧ s.warmReset.counts.period = s.counts.period
    ∧ s.warmReset.counts.mode = (match s.counts.mode with | .manual => .manual | .auto _ => .auto (60 * s.counts.period))
    ∧ s.warmReset.arbiter = { s.arbiter with expiries := [], burst := 0 }
    ∧ s.warmReset.sweep = { s.sweep with
        walk := s.sweep.walk.map fun _ => { cursor := 0, urgency := if s.freeSlots < s.sweep.floor then .must 0 else .may } }
    ∧ onlyChanges [.gates, .office, .slots, .history, .lanes, .lifts, .counts, .arbiter, .sweep] s s.warmReset)
  ∧ (∀ s : State, s.StoreOk → s.HoldsOk → s.HistoryOk →
    let t := s.warmReset
    (∀ l h e, (s.lane l).hold = some h → s.entryAt h.slot = some e →
      let u := s.history.undo h.facts h.lift e.chain
      t.entryAt h.slot = some { e with
        used := if h.facts.debitMade then e.used - 1 else e.used, lost := if h.facts.debitLost then e.lost - 1 else e.lost
        state := .live h.prevState, lastUse := h.prevLastUse, lastAdmit := h.prevLastAdmit, chain := u.1, marker := none }
      ∧ t.history.records u.1 = u.2.records u.1)
    ∧ (∀ n, (∀ l h, (s.lane l).hold = some h → h.slot ≠ n) → t.entryAt n = s.entryAt n
        ∧ ∀ e, s.entryAt n = some e → t.history.records e.chain = s.history.records e.chain
            ∧ ∀ g ∈ s.history.chainGranules e.chain, t.history.granule g = s.history.granule g)
    ∧ ∃ holds : List (Lane × Hold), holds.Pairwise (fun x y => x.2.order < y.2.order)
        ∧ (∀ l h, (l, h) ∈ holds ↔ (s.lane l).hold = some h)
        ∧ let freed := holds.filterMap fun x =>
            if x.2.facts.recordWritten && x.2.facts.granuleAllocated then
              (s.entryAt x.2.slot).bind fun e => e.chain.map Chain.tail
            else none
          t.history.free = freed ++ s.history.free ∧ t.history.full = (s.history.full && freed.isEmpty))


/-! ### Events -/

/-- Which flags an event sets (R189, R190): a pulse sets its flag at every port that it reaches; a change of a level condition
handed over sets it at each of those ports under the port's edge mode, RISE for false to true alone and ANY for every change; no
other flag and nothing else at a port changes. The ports reached are the last column of R189. The attention line of a port is active
exactly while one of its flags is set whose kind's mask is off, the kinds numbered from 0 in the order of the table (R191, R198). -/
def Obligations.EventsSetFlagsAtThePortsTheyReach : Prop :=
  (∀ (s : State) (e x : Event) (p : Port) (before after : Bool),
    ((s.raise e).port p).flagged x = ((s.port p).flagged x || (x == e && (s.reached e).contains p))
    ∧ ((s.handLevel e before after).port p).flagged x
        = ((s.port p).flagged x || (x == e && (s.reached e).contains p
            && (match ((s.port p).edges.of e) with
              | .rise => !before && after
              | .any => true)))
    ∧ (∀ t ∈ [s.raise e, s.handLevel e before after],
        (t.port p).requests = (s.port p).requests ∧ (t.port p).responses = (s.port p).responses
        ∧ (t.port p).masks = (s.port p).masks ∧ (t.port p).edges = (s.port p).edges
        ∧ (t.port p).restarted = (s.port p).restarted ∧ (t.port p).transaction = (s.port p).transaction
        ∧ (t.port p).dataOut = (s.port p).dataOut))
  ∧ (∀ (r : PortRec) (kind : Event → Nat),
    (∀ l, kind (.laneState l) = 0 ∧ kind (.readerSuspect l) = 1 ∧ kind (.holdExpired l) = 2 ∧ kind (.tailgate l) = 3) →
    (∀ f, kind (.liftState f) = 4) → kind (.device .roundReady) = 5 → kind (.device .roundOverrun) = 6 →
    kind (.device .countSaturated) = 7 → kind (.device .historyFull) = 8 → kind (.device .tableLow) = 9 →
    kind (.device .sweepDone) = 10 → kind (.device .sweepLate) = 11 → kind (.device .dayRollover) = 12 →
    kind (.device .clockStall) = 13 → kind (.device .restarted) = 14 →
    (r.attention = true ↔ ∃ e, r.flagged e = true ∧ r.masks.getLsbD (kind e) = false))
  ∧ (∀ (s : State) (p : Port),
    (∀ l : Lane, ∀ e ∈ [Event.laneState l, .readerSuspect l, .holdExpired l, .tailgate l],
      p ∈ s.reached e ↔ p = .office ∨ ∃ k : Fin 4, p = .gate k ∧ (l.val = 2 * k.val ∨ l.val = 2 * k.val + 1))
    ∧ (∀ f : Lift, p ∈ s.reached (.liftState f)
        ↔ p = .office ∨ ∃ k : Fin 4, p = .gate k ∧ ∃ l : Lane, (l.val = 2 * k.val ∨ l.val = 2 * k.val + 1) ∧ s.liftOf l = f)
    ∧ ∀ d : DeviceEvent, p ∈ s.reached (.device d) ↔ p = .office)

/-- READ_EVENTS at a gate port (R192) and, with a lane selector 0–7 or 8 for NONE, at the office (R193): the response carries OK,
the flags that it returns, the conditions, the restarted mark and, at the office, the lane summary, as they stand, a selected
lane's flags and conditions as 0 when the selector is NONE (R201); within the event the flags carried are cleared and the mark becomes no, and every other flag stays. A selector above 8 is refused
BAD_VALUE, and nothing changes but the queues. -/
def Obligations.ReadEventsReturnsAndClears : Prop :=
  (∀ (s : State) (k : Fin 4) (i : Nat) (f : Frame), s.serves (.gate k) .readEvents i f →
    ∃ t reply, exec (.readEvents (.gate k)) s = .next t ∧ s.Answers t (.gate k) i f reply ∧ reply.length = 4
      ∧ byteAt 0 reply = 0
      ∧ (∀ j : Fin 4, (byteAt 1 reply).testBit j.val
          = (s.port (.gate k)).flagged ((laneEvents (evenLane k)).getD j.val (.liftState 0)))
      ∧ (∀ j : Fin 4, (byteAt 1 reply).testBit (4 + j.val)
          = (s.port (.gate k)).flagged ((laneEvents (oddLane k)).getD j.val (.liftState 0)))
      ∧ (∀ n : Lift, (byteAt 2 reply).testBit n.val = (s.port (.gate k)).flagged (.liftState n))
      ∧ (byteAt 2 reply).testBit 7 = (s.port (.gate k)).restarted
      ∧ (byteAt 3 reply).testBit 0 = (s.lane (evenLane k)).stateCondition
      ∧ (byteAt 3 reply).testBit 1 = (s.lane (oddLane k)).stateCondition
      ∧ (byteAt 3 reply).testBit 2 = (s.lane (evenLane k)).suspect
      ∧ (byteAt 3 reply).testBit 3 = (s.lane (oddLane k)).suspect
      ∧ (∀ n : Lift, (byteAt 3 reply).testBit (4 + n.val) = (s.lift n).stateCondition)
      ∧ (t.port (.gate k)).restarted = false
      ∧ (∀ e, (t.port (.gate k)).flagged e
          = ((s.port (.gate k)).flagged e
              && !(laneEvents (evenLane k) ++ laneEvents (oddLane k) ++ allLifts.map Event.liftState).contains e))
      ∧ (t.port (.gate k)).masks = (s.port (.gate k)).masks ∧ (t.port (.gate k)).edges = (s.port (.gate k)).edges
      ∧ (∀ q, q ≠ .gate k → t.port q = s.port q) ∧ onlyChanges [.gates] s t)
  ∧ ((∀ (s : State) (i : Nat) (f : Frame), s.serves .office .readEvents i f → byteAt 0 f.payload ≤ 8 →
    ∃ t reply, exec (.readEvents .office) s = .next t ∧ s.Answers t .office i f reply ∧ reply.length = 6
      ∧ byteAt 0 reply = 0
      ∧ (∀ d : DeviceEvent, (fieldAt 1 2 reply).testBit d.index = s.office.flagged (.device d))
      ∧ (∀ n : Lift, (fieldAt 1 2 reply).testBit (10 + n.val) = s.office.flagged (.liftState n))
      ∧ (fieldAt 1 2 reply).testBit 15 = s.office.restarted
      ∧ (∀ l : Lane, (byteAt 3 reply).testBit l.val = (laneEvents l).any s.office.flagged)
      ∧ byteAt 4 reply / 16 = byteAt 0 f.payload
      ∧ (∀ l : Lane, byteAt 0 f.payload = l.val →
          (∀ j : Fin 4, (byteAt 4 reply).testBit j.val = s.office.flagged ((laneEvents l).getD j.val (.liftState 0)))
          ∧ (byteAt 5 reply).testBit 6 = (s.lane l).stateCondition ∧ (byteAt 5 reply).testBit 7 = (s.lane l).suspect)
      ∧ (byteAt 0 f.payload = 8 → (∀ j : Fin 4, (byteAt 4 reply).testBit j.val = false)
          ∧ (byteAt 5 reply).testBit 6 = false ∧ (byteAt 5 reply).testBit 7 = false)
      ∧ (byteAt 5 reply).testBit 0 = s.history.full ∧ (byteAt 5 reply).testBit 1 = s.tableLow
      ∧ (∀ n : Lift, (byteAt 5 reply).testBit (2 + n.val) = (s.lift n).stateCondition)
      ∧ t.office.restarted = false
      ∧ (∀ d : DeviceEvent, t.office.flagged (.device d) = false) ∧ (∀ n : Lift, t.office.flagged (.liftState n) = false)
      ∧ (∀ l : Lane, ∀ e ∈ laneEvents l, t.office.flagged e = (s.office.flagged e && byteAt 0 f.payload != l.val))
      ∧ t.office.masks = s.office.masks ∧ t.office.edges = s.office.edges ∧ onlyChanges [.office] s t)
  ∧ (∀ (s : State) (i : Nat) (f : Frame), s.serves .office .readEvents i f → 8 < byteAt 0 f.payload →
    exec (.readEvents .office) s = .next (s.setPort .office { s.office with
      requests := s.office.requests.eraseIdx i
      responses := s.office.responses ++ [{ kind := f.kind, tag := f.tag, payload := [4] }] })))

/-- SET_EVENTS (R194; bit 15 of the mask field, which names no kind, is carried back as 0: log entry 8): a target code above 4 or an edge mode code above 1 refuses it with BAD_VALUE; otherwise the masks and edge
modes of the target port are written, its flags stay, and the response repeats them. -/
def Obligations.SetEventsWritesMasksAndEdges : Prop :=
  ∀ (s : State) (i : Nat) (f : Frame), s.serves .office .setEvents i f →
    ((4 < byteAt 0 f.payload ∨ ∃ n ∈ [3, 4, 5, 6, 7], 1 < byteAt n f.payload) →
      ∃ t, exec .setEvents s = .next t ∧ s.Answers t .office i f [4] ∧ (∀ p, (t.port p).flags = (s.port p).flags)
        ∧ s.SamePorts t ∧ onlyChanges [.office] s t)
    ∧ (∀ target, portArg (byteAt 0 f.payload) = some target → (∀ n ∈ [3, 4, 5, 6, 7], byteAt n f.payload ≤ 1) →
      let code (n : Nat) : Edge := if byteAt n f.payload = 0 then .rise else .any
      ∃ t, exec .setEvents s = .next t
        ∧ s.Answers t .office i f ([0, byteOf (byteAt 0 f.payload)] ++ bytesOf 2 (fieldAt 1 2 f.payload % 32768)
            ++ [byteOf (byteAt 3 f.payload), byteOf (byteAt 4 f.payload), byteOf (byteAt 5 f.payload),
                byteOf (byteAt 6 f.payload), byteOf (byteAt 7 f.payload)])
        ∧ (t.port target).masks.toNat = fieldAt 1 2 f.payload % 32768
        ∧ (t.port target).edges = { laneState := code 3, readerSuspect := code 4, liftState := code 5, historyFull := code 6,
                                    tableLow := code 7 }
        ∧ (∀ q, q ≠ target → (t.port q).masks = (s.port q).masks ∧ (t.port q).edges = (s.port q).edges)
        ∧ (∀ q, (t.port q).flags = (s.port q).flags ∧ (t.port q).restarted = (s.port q).restarted
            ∧ (t.port q).transaction = (s.port q).transaction ∧ (t.port q).dataOut = (s.port q).dataOut)
        ∧ onlyChanges [.gates, .office] s t)

/-! ### The store arbiter -/

/-- What the arbiter grants (R164, R165, R166, R167, R174): a request, when it is eligible, no older eligible request of its class
precedes it, class A requests and expiries go first by their stamps, and no batch is due; an expiry, when it is the oldest class
A requester; a batch, when it is due (MUST with a grant count of 4), or when nothing is eligible and the sweep is ACTIVE;
nothing, only when nothing is eligible and the sweep is IDLE. While no batch is due, the one oldest class A requester is granted. The
requests of one pass are granted in the order of their stamps,
whatever their ports (R163, R165), and REISSUE, SUSPEND, RESUME, ADD_USE and REFUND only while no hold is open on the pass they
name (R166). A request is eligible exactly when its port has a free response place, no older waiting request names the pass that it
names, and, for those five kinds, no hold is open on it; the classes are those of R161 and the pass named is that of R163. -/
def Obligations.SelectionOfTheNextGrant : Prop :=
  (∀ (s : State) (r : StoreReq), s.select = some (.request r) →
    r ∈ s.storeReqs ∧ s.eligible r = true ∧ s.batchDue = false
    ∧ (∀ q ∈ s.storeReqs, s.eligible q = true → q.storeClass = r.storeClass → r.stamp ≤ q.stamp)
    ∧ (r.storeClass = some .a → ∀ x ∈ s.arbiter.expiries, r.stamp ≤ x.stamp)
    ∧ (r.storeClass ≠ some .a → s.arbiter.expiries = [] ∧ ∀ q ∈ s.storeReqs, s.eligible q = true → q.storeClass ≠ some .a)
    ∧ (s.port r.port).responses.length < Config.queuePlaces
    ∧ ∃ w, (s.port r.port).requests[r.index]? = some w ∧ w.frame = r.frame ∧ w.role = .store r.stamp)
  ∧ (∀ s : State,
    (∀ x, s.select = some (.expiry x) →
      x ∈ s.arbiter.expiries ∧ s.batchDue = false ∧ (∀ y ∈ s.arbiter.expiries, x.stamp ≤ y.stamp)
      ∧ ∀ q ∈ s.storeReqs, s.eligible q = true → q.storeClass = some .a → x.stamp ≤ q.stamp)
    ∧ (s.batchDue = true ↔ ∃ w n, s.sweep.walk = some w ∧ w.urgency = .must n ∧ 4 ≤ n)
    ∧ (s.select = some .batch ↔ s.batchDue = true
        ∨ (s.sweep.walk.isSome = true ∧ s.arbiter.expiries = [] ∧ ∀ q ∈ s.storeReqs, s.eligible q = true → q.storeClass = none))
    ∧ (s.select = none ↔ s.sweep.walk = none ∧ s.arbiter.expiries = []
        ∧ ∀ q ∈ s.storeReqs, s.eligible q = true → q.storeClass = none)
    ∧ (∀ r ∈ s.storeReqs, s.batchDue = false → s.eligible r = true → r.storeClass = some .a →
        (∀ q ∈ s.storeReqs, s.eligible q = true → q.storeClass = some .a → q ≠ r → r.stamp < q.stamp) →
        (∀ x ∈ s.arbiter.expiries, r.stamp < x.stamp) → s.select = some (.request r))
    ∧ (∀ x ∈ s.arbiter.expiries, s.batchDue = false →
        (∀ y ∈ s.arbiter.expiries, y ≠ x → x.stamp < y.stamp) →
        (∀ q ∈ s.storeReqs, s.eligible q = true → q.storeClass = some .a → x.stamp < q.stamp) →
        s.select = some (.expiry x)))
  ∧ (∀ (s : State) (r : StoreReq) (pass : Nat), s.select = some (.request r) → r.pass? = some pass →
    (∀ q ∈ s.storeReqs, q.pass? = some pass → r.stamp ≤ q.stamp)
    ∧ (r.kind? ∈ [some .reissue, some .suspend, some .resume, some .addUse, some .refund] →
        ∀ l h, (s.lane l).hold = some h → h.pass ≠ pass))
  ∧ (∀ (s : State) (r : StoreReq),
    (r ∈ s.storeReqs ↔ ∃ w, (s.port r.port).requests[r.index]? = some w ∧ w.frame = r.frame ∧ w.role = .store r.stamp)
    ∧ (s.eligible r = true ↔ (s.port r.port).responses.length < 8 ∧ ∀ pass, r.pass? = some pass →
        (∀ q ∈ s.storeReqs, q.pass? = some pass → r.stamp ≤ q.stamp)
        ∧ (r.kind? ∈ [some .reissue, some .suspend, some .resume, some .addUse, some .refund] →
            ∀ l h, (s.lane l).hold = some h → h.pass ≠ pass)))
  ∧ (∀ (r : StoreReq) (k : ReqKind), ReqKind.ofCode r.frame.kind = some k →
    (r.storeClass = match k with
      | .passed | .release | .laneReport | .setLane => some .a
      | .present => some .b
      | .issue | .reissue | .suspend | .resume | .restore | .addUse | .inquire | .refund => some .c
      | _ => none)
    ∧ (r.pass? = match k with
      | .present => (match readImage (r.frame.payload.drop 1) with | .card c => some c.pass | .bad _ => none)
      | .issue | .reissue | .suspend | .resume | .restore | .addUse | .inquire | .refund => some (fieldAt 0 4 r.frame.payload)
      | _ => none))

/-- The lane burst counter (R168): with no class A requester eligible and no batch due, and `b` and `c` the oldest eligible requests
of classes B and C, the table gives the grant and the counter after it; a grant to any other requester leaves the counter. The
grant count (R174): at MUST a requester's grant raises it by 1, up to 4, and a batch returns it to 0; at MAY and in IDLE there
is none. Every grant gets the next number (R83). Every granted command leaves these counters so, an EXPIRY less the expiry that is
granted, and leaves the sweep otherwise as it was, but that ISSUE and RESTORE may raise a walk at MAY to MUST (R172), by which the
grant count is 0 after the grant (log entry 17); what a SWEEP_BATCH does to the walk is a statement of its own. -/
def Obligations.LaneBurstAndGrantCountTables : Prop :=
  (∀ s : State,
    (s.batchDue = false → s.oldestA = none →
      (∀ b c, oldest StoreReq.stamp (s.eligibleOf .b) = some b → oldest StoreReq.stamp (s.eligibleOf .c) = some c →
        s.arbiter.burst < s.arbiter.burstLimit →
        s.select = some (.request b) ∧ (s.charge (.request b)).arbiter.burst = s.arbiter.burst + 1)
      ∧ (∀ b c, oldest StoreReq.stamp (s.eligibleOf .b) = some b → oldest StoreReq.stamp (s.eligibleOf .c) = some c →
        s.arbiter.burstLimit ≤ s.arbiter.burst →
        s.select = some (.request c) ∧ (s.charge (.request c)).arbiter.burst = 0)
      ∧ (∀ b, oldest StoreReq.stamp (s.eligibleOf .b) = some b → s.eligibleOf .c = [] →
        s.select = some (.request b) ∧ (s.charge (.request b)).arbiter.burst = 0)
      ∧ (∀ c, s.eligibleOf .b = [] → oldest StoreReq.stamp (s.eligibleOf .c) = some c →
        s.select = some (.request c) ∧ (s.charge (.request c)).arbiter.burst = 0))
    ∧ (∀ r, r.storeClass = some .a → (s.charge (.request r)).arbiter.burst = s.arbiter.burst)
    ∧ (∀ x, (s.charge (.expiry x)).arbiter.burst = s.arbiter.burst) ∧ (s.charge .batch).arbiter.burst = s.arbiter.burst)
  ∧ (∀ (s : State) (g : Grant),
    (s.charge g).arbiter.nextGrant = s.arbiter.nextGrant + 1
    ∧ (s.sweep.walk = none → (s.charge g).sweep.walk = none)
    ∧ (∀ c, s.sweep.walk = some { cursor := c, urgency := .may } →
        (s.charge g).sweep.walk = some { cursor := c, urgency := .may })
    ∧ (∀ c n, s.sweep.walk = some { cursor := c, urgency := .must n } →
        (s.charge g).sweep.walk = some { cursor := c, urgency := .must (if g = .batch then 0 else min 4 (n + 1)) })
    ∧ onlyChanges [.arbiter, .sweep] s (s.charge g))
  ∧ (∀ (s : State) (c : Instr) (sel : Frame → Bool) (r : StoreReq), (c, sel) ∈ grantedCommands → s.grantable sel = some r →
    ∃ t, exec c s = .next t ∧ t.arbiter = (s.charge (.request r)).arbiter
      ∧ (t.sweep = (s.charge (.request r)).sweep
        ∨ ((c = .issue ∨ c = .restore)
            ∧ t.sweep = { s.sweep with walk := mustWalk (s.charge (.request r)).sweep.walk })))
  ∧ (∀ (s : State) (x : Expiry), s.select = some (.expiry x) →
    ∃ t, exec .expiry s = .next t ∧ t.sweep = (s.charge (.expiry x)).sweep
      ∧ t.arbiter = { (s.charge (.expiry x)).arbiter with expiries := s.arbiter.expiries.erase x })
  ∧ (∀ s : State, s.select = some .batch → ∃ t, exec .sweepBatch s = .next t ∧ t.arbiter = (s.charge .batch).arbiter)


/-! ### Passes and the pass store -/

/-- A pass number is looked up in its bucket and finds its one entry or none (R4), in every pass store that is well formed. -/
def Obligations.LookupFindsTheOneEntry : Prop :=
  ∀ (s : State) (pass n : Nat) (e : Entry), s.StoreOk →
    (s.findPass pass = some (n, e) ↔ s.entryAt n = some e ∧ e.pass = pass)
    ∧ (s.findPass pass = none ↔ ∀ m x, s.entryAt m = some x → x.pass ≠ pass)

/-- ISSUE with valid fields, a defined product, no entry of the pass and a free slot in its bucket (R13, R14): the entry is placed
in the lowest-numbered free slot, the free-slot count falls by 1 and TABLE_LOW is judged again, and the response carries OK, the
pass number and the valid-to day. The refusals in the order of R13: BAD_VALUE, PRODUCT_VOID, EXISTS, BUCKET_FULL; nothing but
the queues and the counters of the arbiter and the sweep changes, and BUCKET_FULL raises a walk at MAY to MUST (R172). A grant that
itself raises the urgency leaves a grant count of 0 (the model's reading: log entry 17). -/
def Obligations.IssuePlacesAnEntry : Prop :=
  (∀ (s : State) (r : StoreReq) (n : Nat), s.grants .issue r →
    let f := issueFields r.frame.payload
    f.Valid → (s.product (Fin.ofNat 64 f.product)).defined = true → s.findPass f.pass = none → s.LowestFree f.pass n →
    ∃ t, exec .issue s = .next t
      ∧ t.entryAt n = some {
          pass := f.pass, seq := f.seq, product := Fin.ofNat 64 f.product, validFrom := f.validFrom,
          validTo := f.validFrom + f.window - 1, bought := f.bought, used := 0, lost := 0, state := .live .issued,
          price := f.price, lastUse := none, lastAdmit := none, chain := none, marker := none }
      ∧ s.SameSlotsBut t n ∧ t.freeSlots = s.freeSlots - 1
      ∧ s.Answers t r.port r.index r.frame ([0] ++ bytesOf 4 f.pass ++ bytesOf 2 (f.validFrom + f.window - 1))
      ∧ t.arbiter = (s.charge (.request r)).arbiter
      ∧ t.sweep = { s.sweep with
          walk := if t.freeSlots < s.sweep.floor then mustWalk (s.charge (.request r)).sweep.walk
            else (s.charge (.request r)).sweep.walk }
      ∧ (s.tableLow = false → t.tableLow = true → t.office.flagged (.device .tableLow) = true)
      ∧ s.SamePorts t ∧ onlyChanges [.slots, .freeSlots, .gates, .office, .arbiter, .sweep] s t)
  ∧ (∀ (s : State) (r : StoreReq), s.grants .issue r →
    let f := issueFields r.frame.payload
    let answer (u : State) (c : Byte) : State := u.complete r.port r.index r.frame [c]
    let g := s.charge (.request r)
    (¬f.Valid → exec .issue s = .next (answer g 4))
    ∧ (f.Valid → (s.product (Fin.ofNat 64 f.product)).defined = false → exec .issue s = .next (answer g 8))
    ∧ (f.Valid → (s.product (Fin.ofNat 64 f.product)).defined = true → s.findPass f.pass ≠ none →
        exec .issue s = .next (answer g 6))
    ∧ (f.Valid → (s.product (Fin.ofNat 64 f.product)).defined = true → s.findPass f.pass = none → s.BucketFull f.pass →
        exec .issue s = .next (answer (g.setWalk (mustWalk g.sweep.walk)) 7)))

/-- REISSUE (R15): UNKNOWN without an entry, SEQUENCE_EXHAUSTED at sequence 15; otherwise the sequence rises by 1, in any state of
the entry. SUSPEND (R16): UNKNOWN without an entry; NOT_ALLOWED in REFUNDED, EXPIRED or SUSPENDED; otherwise the suspended-from
state takes the present state and the state becomes SUSPENDED. RESUME (R17): UNKNOWN without an entry; NOT_ALLOWED in any state
but SUSPENDED; otherwise the state becomes the suspended-from state, which is removed. The responses carry OK and the new
sequence or the state byte, whose bits without a field are 0 (the model's choice: log entry 19). -/
def Obligations.ReissueSuspendAndResume : Prop :=
  (∀ (s : State) (r : StoreReq), s.grants .reissue r →
    let g := s.charge (.request r)
    (s.findPass (passArg r.frame.payload) = none → exec .reissue s = .next (g.complete r.port r.index r.frame [5]))
    ∧ ∀ n e, s.findPass (passArg r.frame.payload) = some (n, e) →
      (e.seq = 15 → exec .reissue s = .next (g.complete r.port r.index r.frame [9]))
      ∧ (e.seq ≠ 15 → exec .reissue s
          = .next ((g.putEntry n { e with seq := e.seq + 1 }).complete r.port r.index r.frame [0, byteOf (e.seq + 1)])))
  ∧ (∀ (s : State) (r : StoreReq), s.grants .suspend r →
    let g := s.charge (.request r)
    (s.findPass (passArg r.frame.payload) = none → exec .suspend s = .next (g.complete r.port r.index r.frame [5]))
    ∧ ∀ n e, s.findPass (passArg r.frame.payload) = some (n, e) →
      ((∀ q, e.state ≠ .live q) → exec .suspend s = .next (g.complete r.port r.index r.frame [10]))
      ∧ ∀ q, e.state = .live q → exec .suspend s
          = .next ((g.putEntry n { e with state := .suspended q }).complete r.port r.index r.frame [0, byteOf (3 + 8 * q.code)]))
  ∧ (∀ (s : State) (r : StoreReq), s.grants .resume r →
    let g := s.charge (.request r)
    (s.findPass (passArg r.frame.payload) = none → exec .resume s = .next (g.complete r.port r.index r.frame [5]))
    ∧ ∀ n e, s.findPass (passArg r.frame.payload) = some (n, e) →
      ((∀ q, e.state ≠ .suspended q) → exec .resume s = .next (g.complete r.port r.index r.frame [10]))
      ∧ ∀ q, e.state = .suspended q → exec .resume s
          = .next ((g.putEntry n { e with state := .live q }).complete r.port r.index r.frame [0, byteOf q.code]))

/-- A RESTORE that passes every check (R19, R39): the entry is placed in the lowest-numbered free slot with its days used, lost days
and state; records go into one granule from the head of the free queue, which is the whole chain; the response carries OK, the
state and days used. TABLE_LOW is judged again, and a walk at MAY becomes MUST when it is true (R172, R178). The nine checks in the
order of R18, with the outcome of the first that fails; BUCKET_FULL raises a walk at MAY to MUST (R172). A grant that itself raises the
urgency leaves a grant count of 0 (the model's reading: log entry 17). -/
def Obligations.RestoreRebuildsAnEntry : Prop :=
  (∀ (s : State) (r : StoreReq) (n : Nat), s.grants .restore r →
    let p := r.frame.payload
    let f := issueFields p
    let product := s.product (Fin.ofNat 64 f.product)
    let rs := (restoreRecords p).map RawRecord.record
    let counted := restoreCount p + restoreLost p
    let q : LiveState := if counted = 0 then .issued else if counted = f.bought then .exhausted else .active
    s.clock.state = .running → f.Valid → restoreLost p ≤ 30 → restoreCount p ≤ 5 → RecordsValid (restoreRecords p) →
    DaysValid f.validFrom f.validTo s.clock.day (restoreRecords p) → counted ≤ f.bought → product.defined = true →
    (product.kind = .rider ∨ counted = 0) → s.findPass f.pass = none → s.LowestFree f.pass n →
    (restoreCount p = 0 ∨ s.history.free ≠ []) →
    ∃ t c, exec .restore s = .next t
      ∧ t.entryAt n = some {
          pass := f.pass, seq := f.seq, product := Fin.ofNat 64 f.product, validFrom := f.validFrom,
          validTo := f.validFrom + f.window - 1, bought := f.bought, used := counted, lost := restoreLost p, state := .live q,
          price := f.price, lastUse := rs.getLast?.map UseRecord.day, lastAdmit := none, chain := c, marker := none }
      ∧ (restoreCount p = 0 → c = none ∧ t.history = s.history)
      ∧ (1 ≤ restoreCount p → ∃ g rest, s.history.free = g :: rest
          ∧ c = some { head := g, tail := g, fill := restoreCount p } ∧ t.history.free = rest
          ∧ t.history.granule g = some { link := .last (restoreCount p), records := rs }
          ∧ (∀ h, h ≠ g → t.history.granule h = s.history.granule h) ∧ t.history.full = s.history.full)
      ∧ s.SameSlotsBut t n ∧ t.freeSlots = s.freeSlots - 1
      ∧ s.Answers t r.port r.index r.frame [0, byteOf q.code, byteOf counted]
      ∧ t.arbiter = (s.charge (.request r)).arbiter
      ∧ t.sweep = { s.sweep with
          walk := if t.freeSlots < s.sweep.floor then mustWalk (s.charge (.request r)).sweep.walk
            else (s.charge (.request r)).sweep.walk }
      ∧ (s.tableLow = false → t.tableLow = true → t.office.flagged (.device .tableLow) = true)
      ∧ s.SamePorts t ∧ onlyChanges [.slots, .freeSlots, .history, .gates, .office, .arbiter, .sweep] s t)
  ∧ (∀ (s : State) (r : StoreReq), s.grants .restore r →
    let p := r.frame.payload
    let f := issueFields p
    let product := s.product (Fin.ofNat 64 f.product)
    let counted := restoreCount p + restoreLost p
    let refused (u : State) (c : Byte) : Prop := exec .restore s = .next (u.complete r.port r.index r.frame [c])
    let g := s.charge (.request r)
    (s.clock.state = .unset → refused g 11)
    ∧ (s.clock.state = .running →
      (¬(f.Valid ∧ restoreLost p ≤ 30 ∧ restoreCount p ≤ 5) → refused g 4)
      ∧ (f.Valid → restoreLost p ≤ 30 → restoreCount p ≤ 5 →
        (¬(RecordsValid (restoreRecords p) ∧ DaysValid f.validFrom f.validTo s.clock.day (restoreRecords p)) → refused g 4)
        ∧ (RecordsValid (restoreRecords p) → DaysValid f.validFrom f.validTo s.clock.day (restoreRecords p) →
          (f.bought < counted → refused g 4)
          ∧ (counted ≤ f.bought →
            (product.defined = false → refused g 8)
            ∧ (product.defined = true →
              (product.kind = .control → 1 ≤ counted → refused g 4)
              ∧ ((product.kind = .rider ∨ counted = 0) →
                (s.findPass f.pass ≠ none → refused g 6)
                ∧ (s.findPass f.pass = none →
                  (s.BucketFull f.pass → refused (g.setWalk (mustWalk g.sweep.walk)) 7)
                  ∧ (¬s.BucketFull f.pass → 1 ≤ restoreCount p → s.history.free = [] → refused g 12)))))))))

/-- An ADD_USE that passes every check (R21): its records are appended, days used rises by their number, the last-use day becomes
the day of the last record, and the state, or the suspended-from state of a SUSPENDED entry, moves on. The nine checks in the
order of R20, with the outcome of the first that fails; a refusal changes nothing but the queues and the counters of the arbiter
and the sweep. Bits of the response without a field are 0 (the model's choice: log entry 19). -/
def Obligations.AddUseAppendsRecords : Prop :=
  (∀ (s : State) (r : StoreReq) (n : Nat) (e : Entry) (q : LiveState) (a : Appended), s.grants .addUse r →
    let p := r.frame.payload
    let rs := addRecords p
    let used := e.used + addCount p
    let moved : LiveState := if used = e.bought then .exhausted else if q = .issued then .active else q
    s.clock.state = .running → 1 ≤ addCount p → addCount p ≤ 5 → RecordsValid rs → s.findPass (passArg p) = some (n, e) →
    (s.product e.product).defined = true → (s.product e.product).kind = .rider →
    DaysValid e.validFrom e.validTo s.clock.day rs → (∀ d x, e.lastUse = some d → rs.head? = some x → d < x.day) →
    used ≤ e.bought → s.history.append e.chain (rs.map RawRecord.record) = some a →
    (e.state = .live q → exec .addUse s = .next ((((s.charge (.request r)).withHistory a.history).putEntry n
        { e with chain := some a.chain, used := used, state := .live moved, lastUse := (rs.getLast?).map RawRecord.day }).complete
          r.port r.index r.frame [0, 0, byteOf moved.code, byteOf used]))
    ∧ (e.state = .suspended q → exec .addUse s = .next ((((s.charge (.request r)).withHistory a.history).putEntry n
        { e with chain := some a.chain, used := used, state := .suspended moved, lastUse := (rs.getLast?).map RawRecord.day }).complete
          r.port r.index r.frame [0, 1, byteOf (3 + 8 * moved.code), byteOf used])))
  ∧ (∀ (s : State) (r : StoreReq), s.grants .addUse r →
    let p := r.frame.payload
    let rs := addRecords p
    let refused (c : Byte) : Prop :=
      exec .addUse s = .next ((s.charge (.request r)).complete r.port r.index r.frame [c])
    (s.clock.state = .unset → refused 11)
    ∧ (s.clock.state = .running →
      (¬(1 ≤ addCount p ∧ addCount p ≤ 5 ∧ RecordsValid rs) → refused 4)
      ∧ (1 ≤ addCount p → addCount p ≤ 5 → RecordsValid rs →
        (s.findPass (passArg p) = none → refused 5)
        ∧ ∀ n e, s.findPass (passArg p) = some (n, e) →
          ((∀ q, e.state ≠ .live q ∧ e.state ≠ .suspended q) → refused 10)
          ∧ ∀ q, e.state = .live q ∨ e.state = .suspended q →
            ((s.product e.product).defined = false → refused 8)
            ∧ ((s.product e.product).defined = true →
              ((s.product e.product).kind = .control → refused 10)
              ∧ ((s.product e.product).kind = .rider →
                (¬(DaysValid e.validFrom e.validTo s.clock.day rs ∧ (∀ d x, e.lastUse = some d → rs.head? = some x → d < x.day)
                    ∧ e.used + addCount p ≤ e.bought) → refused 4)
                ∧ (DaysValid e.validFrom e.validTo s.clock.day rs →
                  (∀ d x, e.lastUse = some d → rs.head? = some x → d < x.day) → e.used + addCount p ≤ e.bought →
                  s.history.append e.chain (rs.map RawRecord.record) = none → refused 12))))))

/-- INQUIRE changes nothing but the queues and the arbiter's and sweep's counters (R22): UNKNOWN without an entry, else OK with every
field of the entry where R200 puts it, the record count of the chain, up to 5 records from the start index on, and MORE when the chain
holds a record after them (R23). The two bits without a field are 0 (the model's choice: log entry 19). -/
def Obligations.InquireReportsTheEntry : Prop :=
  ∀ (s : State) (r : StoreReq), s.grants .inquire r →
    let g := s.charge (.request r)
    (s.findPass (passArg r.frame.payload) = none → exec .inquire s = .next (g.complete r.port r.index r.frame [5]))
    ∧ ∀ n e, s.findPass (passArg r.frame.payload) = some (n, e) → e.Ok s.clock.day → s.clock.day ≤ Config.lastDay →
      (s.history.records e.chain).length ≤ 30 →
      (∀ c, e.chain = some c → c.head < 16384 ∧ c.tail < 16384 ∧ c.fill ≤ 6) →
      let start := byteAt 4 r.frame.payload
      let rs := s.history.records e.chain
      let shown := (rs.drop start).take 5
      ∃ reply, exec .inquire s = .next (g.complete r.port r.index r.frame reply)
        ∧ reply.length = 34 + 6 * shown.length ∧ byteAt 0 reply = 0
        ∧ fieldAt 2 4 reply = e.pass ∧ byteAt 6 reply % 8 = e.state.code ∧ byteAt 6 reply / 8 % 4 = e.state.priorCode
        ∧ byteAt 6 reply / 32 = (e.chain.map Chain.fill).getD 0
        ∧ byteAt 7 reply / 16 = e.seq ∧ byteAt 7 reply % 16 = (e.marker.map Fin.val).getD 0 ∧ byteAt 8 reply = e.product.val
        ∧ fieldAt 9 2 reply = e.validFrom ∧ byteAt 11 reply = e.validTo - e.validFrom
        ∧ fieldAt 12 2 reply / 1024 = e.bought ∧ fieldAt 12 2 reply / 32 % 32 = e.used ∧ fieldAt 12 2 reply % 32 = e.lost
        ∧ fieldAt 14 3 reply = e.price ∧ fieldAt 17 2 reply = e.lastUse.getD 0
        ∧ fieldAt 19 2 reply = (e.lastAdmit.map LastAdmit.day).getD 0
        ∧ fieldAt 21 3 reply / 2097152 = (e.lastAdmit.map fun a => a.lift.val).getD 0
        ∧ fieldAt 21 3 reply / 262144 % 8 = (e.lastAdmit.map fun a => a.lane.val).getD 0
        ∧ fieldAt 21 3 reply % 262144 = (e.lastAdmit.map LastAdmit.sec).getD 0
        ∧ fieldAt 24 2 reply = (e.chain.map Chain.head).getD 0 ∧ fieldAt 26 2 reply = (e.chain.map Chain.tail).getD 0
        ∧ fieldAt 28 2 reply = (e.state.refund?.map Prod.fst).getD 0 ∧ fieldAt 30 3 reply = (e.state.refund?.map Prod.snd).getD 0
        ∧ byteAt 33 reply / 32 = shown.length ∧ byteAt 33 reply % 32 = rs.length
        ∧ (byteAt 1 reply).testBit 0 = e.state.prior?.isSome ∧ (byteAt 1 reply).testBit 1 = e.lastUse.isSome
        ∧ (byteAt 1 reply).testBit 2 = e.lastAdmit.isSome ∧ (byteAt 1 reply).testBit 3 = e.chain.isSome
        ∧ (byteAt 1 reply).testBit 4 = e.state.refund?.isSome ∧ (byteAt 1 reply).testBit 5 = e.marker.isSome
        ∧ (byteAt 1 reply).testBit 7 = false
        ∧ ((byteAt 1 reply).testBit 6 = true ↔ start + 5 < rs.length)
        ∧ reply.drop 34 = shown.flatMap UseRecord.bytes

/-- The bytes of a use record and of a card image carry every field (R10, R11, R198): what is written is what is read, for every value
that the fields can take, and an image with a valid check is read as the card that it was written from. An image that is not 15 bytes
long fails with LENGTH; of any other, the marker, the format, the payload length and the check are examined in this order, and the
first that fails gives the reason; an image that passes is read field by field (R11). -/
def Obligations.RecordAndCardBytesRoundTrip : Prop :=
  (∀ x : UseRecord, x.day < 65536 → x.first < 131072 → x.admits < 256 →
    (rawRecord x.bytes).record = x ∧ (rawRecord x.bytes).cls = x.cls.val ∧ x.bytes.length = 6)
  ∧ (∀ c : Card, c.pass < 4294967296 → c.seq < 256 → c.product < 256 → c.validFrom < 65536 → c.resort < 65536 →
    readImage c.bytes = .card c ∧ c.bytes.length = 15)
  ∧ ∀ b : List Byte,
    (b.length ≠ 15 → readImage b = .bad .length)
    ∧ (b.length = 15 →
      (byteAt 0 b ≠ 198 → readImage b = .bad .marker)
      ∧ (byteAt 0 b = 198 → byteAt 1 b ≠ 1 → readImage b = .bad .format)
      ∧ (byteAt 0 b = 198 → byteAt 1 b = 1 → byteAt 2 b ≠ 10 → readImage b = .bad .length)
      ∧ (byteAt 0 b = 198 → byteAt 1 b = 1 → byteAt 2 b = 10 →
        let sum := ((List.range 13).map fun i => byteAt i b).sum + fieldAt 13 2 b
        (sum ≠ 65535 → readImage b = .bad .check)
        ∧ (sum = 65535 → readImage b = .card {
            pass := fieldAt 3 4 b, seq := byteAt 7 b, product := byteAt 8 b, validFrom := fieldAt 9 2 b, resort := fieldAt 11 2 b })))

/-! ### Use history -/

/-- Records appended to the chain of an entry are read back behind its older records, oldest first, and no other pass's chain reads
differently (R25, R38), in every well-formed use history. Nothing is appended exactly when a granule is needed, since the entry has no
chain or its tail granule has too few free places, and the free queue is empty (R20, R28, R30). Where the records go (R28, R29): into
the tail granule, which becomes LAST of the new fill; or the tail granule is filled and becomes NEXT of the granule at the head of the
free queue, which leaves the queue and becomes the tail with LAST of the records that remain; or, without a chain, that granule
becomes head and tail. No other granule changes. -/
def Obligations.AppendedRecordsReadBack : Prop :=
  (∀ (s : State) (n : Nat) (e : Entry) (rs : List UseRecord) (a : Appended), s.StoreOk → s.HistoryOk →
    s.entryAt n = some e → 1 ≤ rs.length → rs.length ≤ 6 → s.history.append e.chain rs = some a →
    a.history.records (some a.chain) = s.history.records e.chain ++ rs
    ∧ a.history.ChainOk (some a.chain)
    ∧ ∀ m x, m ≠ n → s.entryAt m = some x → a.history.records x.chain = s.history.records x.chain ∧ a.history.ChainOk x.chain)
  ∧ ∀ (h : History) (rs : List UseRecord), 1 ≤ rs.length → rs.length ≤ 6 →
    (∀ c, h.append c rs = none ↔ (∀ x, c = some x → 6 < x.fill + rs.length) ∧ h.free = [])
    ∧ (∀ g rest, h.free = g :: rest → ∃ a, h.append none rs = some a ∧ a.allocated = true
        ∧ a.chain = { head := g, tail := g, fill := rs.length } ∧ a.history.free = rest ∧ a.history.full = h.full
        ∧ a.history.granule g = some { link := .last rs.length, records := rs }
        ∧ ∀ j, j ≠ g → a.history.granule j = h.granule j)
    ∧ ∀ (x : Chain) (tail : Granule), h.granule x.tail = some tail →
      (x.fill + rs.length ≤ 6 → ∃ a, h.append (some x) rs = some a ∧ a.allocated = false
        ∧ a.chain = { x with fill := x.fill + rs.length } ∧ a.history.free = h.free ∧ a.history.full = h.full
        ∧ a.history.granule x.tail = some { link := .last (x.fill + rs.length), records := tail.records ++ rs }
        ∧ ∀ j, j ≠ x.tail → a.history.granule j = h.granule j)
      ∧ ∀ g rest, 6 < x.fill + rs.length → h.free = g :: rest → g ≠ x.tail →
        let here := 6 - x.fill
        ∃ a, h.append (some x) rs = some a ∧ a.allocated = true
          ∧ a.chain = { x with tail := g, fill := rs.length - here } ∧ a.history.free = rest ∧ a.history.full = h.full
          ∧ a.history.granule x.tail = some { link := .next g, records := tail.records ++ rs.take here }
          ∧ a.history.granule g = some { link := .last (rs.length - here), records := rs.drop here }
          ∧ ∀ j, j ≠ x.tail → j ≠ g → a.history.granule j = h.granule j

/-- A debit (R29, R30, R33): days used rises by 1 and the last-use day becomes today in every case; the record is appended, or, when
it needs a granule and there is none, the lost-days count rises by 1 and HISTORY_FULL is true, with the chain and the store as
they were. A grant that debits no day (R32, R33): when the tail record is today's, its admit count rises by 1, up to 255, and
the lift joins its mask; otherwise nothing changes and every fact is false. -/
def Obligations.DebitAndUpdateTables : Prop :=
  (∀ (h : History) (e : Entry) (r : UseRecord),
    (∀ a, h.append e.chain [r] = some a →
      h.debit e r = { history := a.history
                      entry := { e with used := e.used + 1, lastUse := some r.day, chain := some a.chain }
                      facts := { debitMade := true, recordWritten := true, granuleAllocated := a.allocated, debitLost := false,
                                 countRaised := false, liftNewlySet := true } })
    ∧ (h.append e.chain [r] = none →
      h.debit e r = { history := { h with full := true }
                      entry := { e with used := e.used + 1, lastUse := some r.day, lost := e.lost + 1 }
                      facts := { debitMade := true, recordWritten := false, granuleAllocated := false, debitLost := true,
                                 countRaised := false, liftNewlySet := false } }))
  ∧ ((∀ (h : History) (e : Entry) (today : Nat) (f : Lift), e.chain = none →
    h.update e today f = { history := h, entry := e, facts := .none })
  ∧ ∀ (h : History) (e : Entry) (c : Chain) (g : Granule) (older : List UseRecord) (x : UseRecord) (today : Nat) (f : Lift),
    e.chain = some c → h.granule c.tail = some g → g.records = older ++ [x] →
    (x.day = today → ∃ h', h.update e today f = { history := h', entry := e, facts := {
          debitMade := false, recordWritten := false, granuleAllocated := false, debitLost := false
          countRaised := decide (x.admits < 255), liftNewlySet := !inMask x.lifts f } }
      ∧ h'.granule c.tail = some { g with records := older ++ [{ x with
          admits := if x.admits < 255 then x.admits + 1 else x.admits, lifts := x.lifts ||| liftBit f }] }
      ∧ (∀ j, j ≠ c.tail → h'.granule j = h.granule j) ∧ h'.free = h.free ∧ h'.full = h.full)
    ∧ (x.day ≠ today → h.update e today f = { history := h, entry := e, facts := .none }))

/-- A rollback undoes a grant whole (R34, R35, R36, R88): after the grant of an admission at a lane and its rollback, the entry, every
granule and the free queue are as they were before the grant, whatever the grant did, and the lane holds no hold. -/
def Obligations.RollbackUndoesTheGrant : Prop :=
  ∀ (s : State) (l : Lane) (n : Nat) (e : Entry) (q : LiveState), s.StoreOk → s.HistoryOk → s.entryAt n = some e →
    e.state = .live q → e.marker = none →
    ∃ h, ((s.grant l n e q).lane l).hold = some h
      ∧ ((s.grant l n e q).undoGrant l h).entryAt n = some e
      ∧ s.SameSlotsBut ((s.grant l n e q).undoGrant l h) n
      ∧ (∀ g, ((s.grant l n e q).undoGrant l h).history.granule g = s.history.granule g)
      ∧ ((s.grant l n e q).undoGrant l h).history.free = s.history.free
      ∧ (((s.grant l n e q).undoGrant l h).lane l).hold = none
      ∧ s.SameLanesBut ((s.grant l n e q).undoGrant l h) l


/-! ### The tick, the clock and the calendar -/

/-- What a tick does to the clock (R40, R42, R43, R44): the tick counter rises and wraps; a running clock advances by one second, rolls
the day after second 86,399 with DAY_ROLLOVER, and stalls on day 65,534 with CLOCK_STALL. DAY_ROLLOVER and CLOCK_STALL are that
tick, where the state makes the tick one that rolls or stalls (log entry 2). -/
def Obligations.TickAdvancesTheClock : Prop :=
  ∀ (s : State) (lines : LiftLines) (c : Instr),
    let running := s.clock.state = .running ∧ s.clock.stalled = false
    (c = .tick lines ∨ (c = .dayRollover lines ∧ running ∧ s.clock.sec = 86399 ∧ s.clock.day < 65534)
      ∨ (c = .clockStall lines ∧ running ∧ s.clock.sec = 86399 ∧ s.clock.day = 65534)) →
    ∃ t, exec c s = .next t ∧ t.clock.ticks = (s.clock.ticks + 1) % 4294967296 ∧ t.clock.state = s.clock.state
      ∧ t.pins = { s.pins with lines := lines }
      ∧ (¬running → t.clock.day = s.clock.day ∧ t.clock.sec = s.clock.sec ∧ t.clock.stalled = s.clock.stalled)
      ∧ (running → s.clock.sec < 86399 →
          t.clock.day = s.clock.day ∧ t.clock.sec = s.clock.sec + 1 ∧ t.clock.stalled = false)
      ∧ (running → s.clock.sec = 86399 → s.clock.day < 65534 →
          t.clock.day = s.clock.day + 1 ∧ t.clock.sec = 0 ∧ t.clock.stalled = false
          ∧ t.office.flagged (.device .dayRollover) = true)
      ∧ (running → s.clock.sec = 86399 → s.clock.day = 65534 →
          t.clock.day = 65534 ∧ t.clock.sec = 86399 ∧ t.clock.stalled = true ∧ t.office.flagged (.device .clockStall) = true)
      ∧ onlyChanges tickParts s t

/-- What a tick does to a lift (R111, R112, R113, R115, R116): the lines indicate a state, which is established at the second
consecutive tick that sees it, with LIFT_STATE handed to the event unit; the pace bucket gains the rate, or half of it and at
least 1 unit while SLOWED, up to its capacity, and nothing while STOPPED. -/
def Obligations.TickFiltersAndRefillsLifts : Prop :=
  ∀ (s : State) (lines : LiftLines) (f : Lift),
    let seen : LiftState := if lines[f].run = false then .stopped else if lines[f].slow then .slowed else .running
    let before := (s.lift f).established
    let after := if seen ≠ before ∧ (s.lift f).previous = some seen then seen else before
    ∃ t, exec (.tick lines) s = .next t
      ∧ t.lift f = { s.lift f with
          established := after, previous := some seen
          level := match after with
            | .stopped => (s.lift f).level
            | .running => min ((s.lift f).level + (s.lift f).rate) (60 * (s.lift f).burst)
            | .slowed => min ((s.lift f).level + max ((s.lift f).rate / 2) 1) (60 * (s.lift f).burst) }
      ∧ ∀ p, (t.port p).flagged (.liftState f)
          = ((s.port p).flagged (.liftState f)
              || (after != before && (s.reached (.liftState f)).contains p
                  && (match (s.port p).edges.liftState with
                    | .rise => before == .running
                    | .any => true)))

/-- What a tick does to the open holds (R94, R162): after the clock has moved, every open hold whose deadline is at or before now
and whose expiry is not pending becomes due, and its expiry waits with a fresh stamp, each due lane once; the order of the
stamps of several lanes is free (log entry 3). HOLD_DUE is that tick, where it makes a hold due (log entry 2). The instant some
seconds after another (R48, R84) rolls into the next day, and is the last instant that the clock can hold when that day would be
65,535. -/
def Obligations.DeadlinesAndDueHolds : Prop :=
  (∀ (s : State) (lines : LiftLines) (c : Instr),
    let now : Instant := { day := s.clock.ticked.day, sec := s.clock.ticked.sec }
    let due (l : Lane) : Bool := (s.lane l).hold.any fun h => !h.pendingExpiry && h.deadline.le now
    (c = .tick lines ∨ (c = .holdDue lines ∧ ∃ l, due l = true)) →
    ∃ t new, exec c s = .next t ∧ t.now = now
      ∧ (∀ l, t.lane l = { s.lane l with
          hold := (s.lane l).hold.map fun h => { h with pendingExpiry := h.pendingExpiry || h.deadline.le now } })
      ∧ t.arbiter = { s.arbiter with
          nextStamp := s.arbiter.nextStamp + new.length, expiries := s.arbiter.expiries ++ new }
      ∧ (new.map Expiry.lane).Perm (allLanes.filter due)
      ∧ new.map Expiry.stamp = (List.range new.length).map (s.arbiter.nextStamp + ·))
  ∧ (∀ (a : Instant) (n : Nat), a.sec ≤ 86399 → n ≤ 86399 → a.day ≤ 65534 →
    (a.sec + n ≤ 86399 → a.after n = { day := a.day, sec := a.sec + n })
    ∧ (86399 < a.sec + n → a.day < 65534 → a.after n = { day := a.day + 1, sec := a.sec + n - 86400 })
    ∧ (86399 < a.sec + n → a.day = 65534 → a.after n = { day := 65534, sec := 86399 })
    ∧ a.le (a.after n) = true)

/-- What a tick does to the count unit (R133, R134, R135, R140): at a rollover the day set becomes 0 but for a granted 1 at a lane with an
open hold; in AUTO the timer falls by 1, and from 1 it makes a transfer and starts again at the period. AUTO_TRANSFER is that
tick, where the timer reaches 0 (log entry 2). -/
def Obligations.TickRunsTheReportTimer : Prop :=
  ∀ (s : State) (lines : LiftLines) (c : Instr),
    (c = .tick lines ∨ (c = .autoTransfer lines ∧ ∃ n, s.counts.mode = .auto n ∧ n ≤ 1)) →
    ∃ t, exec c s = .next t
      ∧ (s.clock.rolls = false → t.counts.day = s.counts.day)
      ∧ (s.clock.rolls = true → (∀ l k, t.counts.day.lane l k = if k = .granted ∧ (s.lane l).hold.isSome then 1 else 0)
          ∧ ∀ f k, t.counts.day.lift f k = 0)
      ∧ (s.counts.mode = .manual → t.counts = { s.counts with day := t.counts.day })
      ∧ (∀ n, s.counts.mode = .auto n → 2 ≤ n → t.counts = { s.counts with day := t.counts.day, mode := .auto (n - 1) })
      ∧ (∀ n, s.counts.mode = .auto n → n ≤ 1 →
          t.counts = { running := .zero, snapshot := s.counts.running, day := t.counts.day, mode := .auto (60 * s.counts.period)
                       period := s.counts.period, round := if s.counts.round = 65535 then 0 else s.counts.round + 1
                       snapRound := s.counts.round, snapUnread := true, snapOverrun := s.counts.snapUnread
                       snapSaturated := s.counts.saturated, saturated := false }
          ∧ t.office.flagged (.device .roundReady) = true
          ∧ (s.counts.snapUnread = true → t.office.flagged (.device .roundOverrun) = true))

/-- What a tick does to the sweep (R43, R170, R171, R172): a rollover starts an IDLE sweep at cursor 0 and MAY and restarts an ACTIVE one
at cursor 0, with SWEEP_LATE; a walk at MAY becomes MUST at or after its deadline, with SWEEP_LATE, and at a rollover while
TABLE_LOW is true, without it. Where both hold at a rollover the deadline is tested first, with SWEEP_LATE (the model's reading: log
entry 13). SWEEP_DEADLINE_REACHED is that tick, where the deadline raises the urgency (log entry 2). -/
def Obligations.TickStartsAndHurriesTheSweep : Prop :=
  ∀ (s : State) (lines : LiftLines) (c : Instr),
    let sec := s.clock.ticked.sec
    let started : Option Walk :=
      if s.clock.rolls then
        some { cursor := 0, urgency := match s.sweep.walk.map Walk.urgency with
          | some (.must _) => .must 0
          | _ => .may }
      else s.sweep.walk
    let late : Prop := s.sweep.deadline ≤ sec ∧ started.map Walk.urgency = some .may
    (c = .tick lines ∨ (c = .sweepDeadlineReached lines ∧ late)) →
    ∃ t, exec c s = .next t ∧ t.clock.sec = sec
      ∧ (late → t.sweep = { s.sweep with walk := mustWalk started } ∧ t.office.flagged (.device .sweepLate) = true)
      ∧ (¬late → t.sweep = { s.sweep with
          walk := if s.clock.rolls ∧ s.freeSlots < s.sweep.floor then mustWalk started else started })
      ∧ (s.clock.rolls = true → s.sweep.walk.isSome = true → t.office.flagged (.device .sweepLate) = true)
      ∧ (¬late → (s.clock.rolls = false ∨ s.sweep.walk = none) →
          t.office.flagged (.device .sweepLate) = s.office.flagged (.device .sweepLate))

/-- SET_CLOCK (R45, R46, R47): in UNSET a valid target sets the clock running; in RUNNING a target on the same day within 120 seconds
trims it, ends a stall when it lies before second 86,399, and hands the sweep the new second, a trim of 0 s too (the model's reading:
log entry 20); every other target is refused with BAD_VALUE or CLOCK_STEP, and the response carries the clock as it stands. -/
def Obligations.SetClockSetsOrTrims : Prop :=
  ∀ (s : State) (i : Nat) (f : Frame), s.serves .office .setClock i f →
    let day := fieldAt 0 2 f.payload
    let sec := fieldAt 2 3 f.payload
    let reply (c st : Byte) (d x : Nat) : List Byte := [c, st] ++ bytesOf 2 d ++ bytesOf 3 x
    ((65534 < day ∨ 86399 < sec) → exec .setClock s = .next (s.complete .office i f
        (reply 4 (if s.clock.state = .unset then 0 else 1) s.clock.day s.clock.sec)))
    ∧ (day ≤ 65534 → sec ≤ 86399 → s.clock.state = .unset → exec .setClock s
        = .next ((s.withClock { s.clock with state := .running, day := day, sec := sec, stalled := false }).complete .office i f
            (reply 0 1 day sec)))
    ∧ (day ≤ 65534 → sec ≤ 86399 → s.clock.state = .running →
        (day ≠ s.clock.day ∨ s.clock.sec + 120 < sec ∨ sec + 120 < s.clock.sec) →
        exec .setClock s = .next (s.complete .office i f (reply 13 1 s.clock.day s.clock.sec)))
    ∧ (day ≤ 65534 → sec ≤ 86399 → s.clock.state = .running → day = s.clock.day → sec ≤ s.clock.sec + 120 →
        s.clock.sec ≤ sec + 120 →
        ∃ t, exec .setClock s = .next t ∧ s.Answers t .office i f (reply 0 1 day sec)
          ∧ t.clock = { s.clock with sec := sec, stalled := if sec < 86399 then false else s.clock.stalled }
          ∧ (s.sweep.deadline ≤ sec → s.sweep.walk.map Walk.urgency = some .may →
              t.sweep = { s.sweep with walk := mustWalk s.sweep.walk } ∧ t.office.flagged (.device .sweepLate) = true)
          ∧ ((sec < s.sweep.deadline ∨ s.sweep.walk.map Walk.urgency ≠ some .may) → t.sweep = s.sweep
              ∧ ∀ e, t.office.flagged e = s.office.flagged e)
          ∧ onlyChanges [.clock, .sweep, .office] s t)

/-- The reads that change nothing but the queues (R49, R107, R125, R138, R139, R181): READ_CLOCK, READ_LANES, READ_STORE, LANE_REPORT
QUERY and READ_COUNTS of the day set, and what the first four answer. READ_LANES carries the scheme, then five bytes of every lane
and five of every lift, and READ_STORE the sweep, the store and the arbiter, each field in the byte and bits that R201 gives it. Bits
without a field are 0 (the model's choice: log entry 19). -/
def Obligations.ReadsChangeNothing : Prop :=
  (∀ (s : State),
    (∀ i f, s.serves .office .readClock i f → exec .readClock s = .next (s.complete .office i f
        ([0, byteOf ((if s.clock.state = .unset then 0 else 1) + (if s.clock.stalled then 2 else 0)
            + 4 * (s.calendar.classOf s.clock.day).val)]
          ++ bytesOf 2 s.clock.day ++ bytesOf 3 s.clock.sec ++ bytesOf 4 s.clock.ticks)))
    ∧ (∀ i f, s.serves .office .readLanes i f → exec .readLanes s = .next (s.complete .office i f s.readLanesReply))
    ∧ (∀ i f, s.serves .office .readStore i f → exec .readStore s = .next (s.complete .office i f s.readStoreReply))
    ∧ (∀ r, s.grantable (isReport 2) = some r → exec .laneReportQuery s = .next ((s.charge (.request r)).complete r.port r.index
        r.frame [0, byteOf (laneArg r.frame.payload).val, byteOf (s.lane (laneArg r.frame.payload)).state.laneByte]))
    ∧ (∀ i f, s.serves .office .readCounts i f → byteAt 0 f.payload = 1 → byteAt 1 f.payload ≤ 8 →
        exec .readCounts s = .next (s.complete .office i f
          ([0, 1, byteOf (byteAt 1 f.payload)] ++ bytesOf 2 (if s.clock.state = .unset then 0 else s.clock.day)
            ++ s.counts.day.part (byteAt 1 f.payload) 4))))
  ∧ (∀ (s : State), s.InRange →
    let reply := s.readLanesReply
    reply.length = 62 ∧ byteAt 0 reply = 0 ∧ byteAt 1 reply = (match s.scheme with | .s0 => 0 | .s1 => 1 | .s2 => 2 | .s3 => 3)
    ∧ (∀ l : Lane,
      let r := s.lane l
      let code (w : WorkState) : Nat := match w with | .closed => 0 | .normal => 1 | .opened => 2
      let b (n : Nat) : Nat := byteAt (2 + 5 * l.val + n) reply
      b 0 % 4 = (match r.state with | .work w => code w | .fault _ => 3)
      ∧ b 0 / 4 % 4 = (match r.state with | .work _ => 0 | .fault w => code w)
      ∧ ((b 0).testBit 4 = true ↔ ∃ w, r.state = .fault w)
      ∧ ((b 0).testBit 5 = true ↔ r.profile.threshold ≤ r.unreadRun)
      ∧ (b 0).testBit 6 = r.hold.isSome ∧ (b 0).testBit 7 = r.dwell.isSome
      ∧ b 1 % 32 = r.profile.holdTime ∧ (b 1).testBit 5 = r.profile.toggle
      ∧ ((b 1).testBit 6 = true ↔ ∃ d, r.dwell = some d ∧ d.spent = true) ∧ (b 1).testBit 7 = false
      ∧ b 2 = r.profile.lateWindow ∧ b 3 = r.profile.threshold ∧ b 4 = r.unreadRun)
    ∧ ∀ g : Lift,
      let r := s.lift g
      byteAt (42 + 5 * g.val) reply = (match r.established with | .stopped => 0 | .running => 1 | .slowed => 2)
      ∧ byteAt (43 + 5 * g.val) reply = r.rate ∧ byteAt (44 + 5 * g.val) reply = r.burst
      ∧ fieldAt (45 + 5 * g.val) 2 reply = r.level)
  ∧ (∀ (s : State), s.InRange → s.freeSlots ≤ 16384 → s.history.free.length ≤ 16384 →
    let reply := s.readStoreReply
    reply.length = 17 ∧ byteAt 0 reply = 0
    ∧ byteAt 1 reply = (match s.sweep.walk.map Walk.urgency with | none => 0 | some .may => 1 | some (.must _) => 3)
    ∧ ((byteAt 2 reply).testBit 0 = true ↔ s.sweep.walk.isSome = true)
    ∧ ((byteAt 2 reply).testBit 1 = true ↔ ∃ w n, s.sweep.walk = some w ∧ w.urgency = .must n)
    ∧ (∀ w n, s.sweep.walk = some w → w.urgency = .must n → byteAt 2 reply / 4 % 8 = n)
    ∧ ((∀ w n, s.sweep.walk = some w → w.urgency ≠ .must n) → byteAt 2 reply / 4 % 8 = 0)
    ∧ ((byteAt 2 reply).testBit 5 = true ↔ s.freeSlots < s.sweep.floor)
    ∧ (byteAt 2 reply).testBit 6 = s.history.full ∧ (byteAt 2 reply).testBit 7 = false
    ∧ (∀ w, s.sweep.walk = some w → fieldAt 3 2 reply = w.cursor) ∧ (s.sweep.walk = none → fieldAt 3 2 reply = 0)
    ∧ fieldAt 5 2 reply = s.freeSlots ∧ fieldAt 7 2 reply = s.history.free.length
    ∧ byteAt 9 reply = s.arbiter.burst ∧ byteAt 10 reply = s.sweep.retention ∧ fieldAt 11 3 reply = s.sweep.deadline
    ∧ fieldAt 14 2 reply = s.sweep.floor ∧ byteAt 16 reply = s.arbiter.burstLimit)

/-- LOAD_CALENDAR (R51, R52): BASE writes the base day, clamped; RUNS writes the class of every entry that a run covers, a later run
over an earlier one, entries above 511 ignored, and answers the number of entries written; a form that is neither (served by
either row: log entry 6) and a run count that is not 1–8 are refused BAD_VALUE with nothing changed. A run count field above 512 follows the formula of R52 like any other, the entries
above 511 ignored (the model's reading: log entry 12); bits of the response without a field are 0 (log entry 19). The class of a day (R50) is
the entry of its place after the base day, and 1, regular, for a day outside the 512 days. -/
def Obligations.CalendarAndItsRequests : Prop :=
  (∀ (s : State) (i : Nat) (f : Frame),
    let p := f.payload
    let start (j : Nat) := fieldAt (2 + 5 * j) 2 p
    let count (j : Nat) := fieldAt (4 + 5 * j) 2 p
    (s.servable .office (isCalendarForm 1) = some (i, f) → byteAt 0 p = 0 →
      exec .loadCalendarBase s = .next ((s.withCalendar { s.calendar with base := min (fieldAt 1 2 p) 65534 }).complete .office i f
        ([0, 0] ++ bytesOf 2 (min (fieldAt 1 2 p) 65534) ++ [0, 0])))
    ∧ (s.servable .office (isCalendarForm 0) = some (i, f) → byteAt 0 p = 1 → 1 ≤ byteAt 1 p → byteAt 1 p ≤ 8 →
      ∃ c written, exec .loadCalendarRuns s = .next ((s.withCalendar c).complete .office i f
          ([0, 1] ++ bytesOf 2 s.calendar.base ++ bytesOf 2 written))
        ∧ c.base = s.calendar.base
        ∧ written = ((List.range (byteAt 1 p)).map fun j => min (start j + count j) 512 - start j).sum
        ∧ (∀ x : Fin 512, (∀ j, j < byteAt 1 p → ¬(start j ≤ x.val ∧ x.val < start j + count j)) →
            c.classes[x] = s.calendar.classes[x])
        ∧ ∀ (x : Fin 512) (j : Nat), j < byteAt 1 p → start j ≤ x.val → x.val < start j + count j →
            (∀ j', j < j' → j' < byteAt 1 p → ¬(start j' ≤ x.val ∧ x.val < start j' + count j')) →
            (c.classes[x]).val = min (byteAt (6 + 5 * j) p) 3)
    ∧ (s.servable .office (isCalendarForm 0) = some (i, f) → byteAt 0 p = 1 → (byteAt 1 p = 0 ∨ 8 < byteAt 1 p) →
      exec .loadCalendarRuns s = .next (s.complete .office i f [4]))
    ∧ (1 < byteAt 0 p →
      (s.servable .office (isCalendarForm 1) = some (i, f) → exec .loadCalendarBase s = .next (s.complete .office i f [4]))
      ∧ (s.servable .office (isCalendarForm 0) = some (i, f) → exec .loadCalendarRuns s = .next (s.complete .office i f [4]))))
  ∧ (∀ (c : Calendar) (day : Nat),
    (∀ i : Fin 512, day = c.base + i.val → c.classOf day = c.classes[i])
    ∧ ((day < c.base ∨ c.base + 512 ≤ day) → c.classOf day = 1))


/-! ### Validation -/

/-- What a granted PRESENT answers (R55 to R74, R79, R80, R81, R199): the verdict of the first of the checks of R55 that applies, ADMIT
when none does, and TOGGLED in place of ADMIT, HELD or CONTROL when the tracked presentation toggles the lane; the lane; the reason
of an unreadable image; and, from step 6 on, the state and days remaining of the entry as they stand at the end, with the debited
flag of ADMIT. The days remaining of a CONTROL pass are 0 at every such verdict, and a product that is not defined counts as RIDER
(the model's reading: log entry 14); bits without a field are 0 (log entry 19). -/
def Obligations.PresentAnswersTheFirstVerdict : Prop :=
  ∀ (s : State) (r : StoreReq), s.grants .present r →
    let l := laneArg r.frame.payload
    let image := imageArg r.frame.payload
    let v := s.verdict l image
    let early := v ∈ [Code.clockUnset, .laneClosed, .laneFault, .unreadable, .foreign, .unknown]
    ∃ t reply, exec .present s = .next t ∧ s.Answers t r.port r.index r.frame reply
      ∧ (early → reply = [v.byte, byteOf l.val, (match image with | .bad x => if v = .unreadable then byteOf x.code else 0 | .card _ => 0),
          0, 0, 0])
      ∧ ∀ n e, s.presented image = some (n, e) → ¬early →
          let toggled := s.tracked v e && s.toggling l e.pass
          let control := (s.product e.product).kind == .control
          ∃ e', t.entryAt n = some e'
            ∧ reply = [if toggled then Code.toggled.byte else v.byte, byteOf l.val, 0,
                if v = .admitted ∧ control = false ∧ e.lastUse ≠ some s.clock.day then 3 else 1, byteOf e'.state.code,
                if control then 0 else byteOf (e'.bought - e'.used)]

/-- What a PRESENT that is neither admitted nor toggled changes (R56 to R73, R78, R82, R122): the counters that its verdict raises, the
dwell and the run count of its lane, and nothing of the pass, the use history, a hold or a pace level. -/
def Obligations.RefusedPresentTouchesOnlyItsLane : Prop :=
  ∀ (s : State) (r : StoreReq), s.grants .present r →
    let l := laneArg r.frame.payload
    let image := imageArg r.frame.payload
    let v := s.verdict l image
    let ended (pass : Nat) : Option Dwell := if v = .laneBusy then none else (s.lane l).dwell.filter fun d => d.pass == pass
    v ≠ .admitted → (∀ n e, s.presented image = some (n, e) → (s.tracked v e && s.toggling l e.pass) = false) →
    ∃ t, exec .present s = .next t
      ∧ s.Counts t
          (match v with
            | .unreadable => [(l, .refused), (l, .unreadable)]
            | .pace => [(l, .pace)]
            | .held | .free | .control => []
            | _ => [(l, .refused)])
          (if v = .pace then [(s.liftOf l, .pace)] else [])
      ∧ s.SameLanesBut t l ∧ t.slots = s.slots ∧ t.history = s.history ∧ t.lifts = s.lifts
      ∧ (v ∈ [Code.clockUnset, .laneClosed, .laneFault] → t.lane l = s.lane l)
      ∧ (v = .unreadable → t.lane l = { s.lane l with unreadRun := bump 255 (s.lane l).unreadRun })
      ∧ (∀ c, image = .card c → v ∉ [Code.clockUnset, .laneClosed, .laneFault] →
          (∀ n e, s.presented image = some (n, e) → s.tracked v e = false) →
          t.lane l = { s.lane l with unreadRun := 0, dwell := ended c.pass })
      ∧ (∀ n e, s.presented image = some (n, e) → s.tracked v e = true →
          t.lane l = { s.lane l with unreadRun := 0, dwell := some (trackedDwell (s.lane l).dwell e.pass s.now) })
      ∧ s.SamePorts t

/-- The admission of a RIDER pass (R74, R75, R76, R77, R83, R84): the entry takes the marker of the lane and the last admit; a day
is debited unless the last-use day is today, when the record of today is updated instead; the lane opens a hold with everything
that a rollback needs; the lift pays 60 pace units; the granted counter of the lane rises by 1. A CONTROL pass whose dwell does
not toggle the lane (R33, R78, R119) is admitted alike, but no day is debited, no history work is done, and the presentation is
tracked. -/
def Obligations.AdmissionOpensAHold : Prop :=
  (∀ (s : State) (r : StoreReq) (n : Nat) (e : Entry), s.grants .present r →
    let l := laneArg r.frame.payload
    let lift := s.liftOf l
    let today := s.clock.day
    let d : Debited :=
      if e.lastUse = some today then s.history.update e today lift
      else s.history.debit e
        { day := today, cls := s.calendar.classOf today, first := s.clock.sec, admits := 1, lifts := liftBit lift }
    s.verdict l (imageArg r.frame.payload) = .admitted → s.presented (imageArg r.frame.payload) = some (n, e) →
    (s.product e.product).kind = .rider →
    ∃ t q, exec .present s = .next t ∧ e.state = .live q
      ∧ t.entryAt n = some { d.entry with
          state := .live (if e.lastUse = some today then q else if e.used + 1 = e.bought then .exhausted else .active)
          lastAdmit := some { lift := lift, lane := l, day := today, sec := s.clock.sec }, marker := some l }
      ∧ t.history = d.history
      ∧ t.lane l = { s.lane l with
          unreadRun := 0, dwell := (s.lane l).dwell.filter fun x => x.pass == e.pass
          hold := some {
            slot := n, pass := e.pass, kind := .rider, deadline := s.now.after (s.lane l).profile.holdTime, lift := lift
            order := s.arbiter.nextGrant + 1, facts := d.facts, prevState := q, prevLastUse := e.lastUse
            prevLastAdmit := e.lastAdmit, pendingExpiry := false } }
      ∧ t.lift lift = { s.lift lift with level := (s.lift lift).level - 60 } ∧ s.SameLiftsBut t lift
      ∧ s.Counts t [(l, .granted)] [] ∧ s.SameLanesBut t l ∧ s.SameSlotsBut t n ∧ s.SamePorts t
      ∧ (s.history.full = false → d.history.full = true → t.office.flagged (.device .historyFull) = true))
  ∧ (∀ (s : State) (r : StoreReq) (n : Nat) (e : Entry), s.grants .present r →
    let l := laneArg r.frame.payload
    let lift := s.liftOf l
    s.verdict l (imageArg r.frame.payload) = .admitted → s.presented (imageArg r.frame.payload) = some (n, e) →
    (s.product e.product).kind = .control → s.toggling l e.pass = false →
    ∃ t q, exec .present s = .next t ∧ e.state = .live q
      ∧ t.entryAt n = some { e with
          lastAdmit := some { lift := lift, lane := l, day := s.clock.day, sec := s.clock.sec }, marker := some l }
      ∧ t.history = s.history
      ∧ t.lane l = { s.lane l with
          unreadRun := 0, dwell := some (trackedDwell (s.lane l).dwell e.pass s.now)
          hold := some {
            slot := n, pass := e.pass, kind := .control, deadline := s.now.after (s.lane l).profile.holdTime, lift := lift
            order := s.arbiter.nextGrant + 1, facts := .none, prevState := q, prevLastUse := e.lastUse
            prevLastAdmit := e.lastAdmit, pendingExpiry := false } }
      ∧ t.lift lift = { s.lift lift with level := (s.lift lift).level - 60 } ∧ s.SameLiftsBut t lift
      ∧ s.Counts t [(l, .granted)] [] ∧ s.SameLanesBut t l ∧ s.SameSlotsBut t n ∧ s.SamePorts t)

/-- A tracked presentation that toggles the lane (R79, R104, R120): NORMAL becomes OPEN and OPEN becomes NORMAL, the dwell stays,
spent; leaving NORMAL releases the hold of the card that is tracked, so after an ADMIT the entry is as it was before its grant
and both granted and released are counted, and after a HELD the hold is rolled back: the entry has its last admit of before and no
marker, 60 pace units return, up to the capacity, and a CONTROL hold, whose undo facts are all false, leaves the chain untouched;
LANE_STATE is handed over. Dwell tracking and its test (R118, R119, R120): the dwell
of the same pass goes on while no more than 1 s has passed since its last tracked presentation, and otherwise a new one starts;
the lane toggles when the dwell is not spent, started at least 3 s ago and the profile enables it; times are signed. -/
def Obligations.DwellsAndToggles : Prop :=
  (∀ (s : State) (r : StoreReq) (n : Nat) (e : Entry), s.grants .present r →
    let l := laneArg r.frame.payload
    let v := s.verdict l (imageArg r.frame.payload)
    let lift := s.liftOf l
    s.presented (imageArg r.frame.payload) = some (n, e) → s.tracked v e = true → s.toggling l e.pass = true →
    ∃ t, exec .present s = .next t
      ∧ (t.lane l).dwell = some { trackedDwell (s.lane l).dwell e.pass s.now with spent := true }
      ∧ (t.lane l).state = (if v = .control then .work .normal else .work .opened)
      ∧ (v = .control → t.slots = s.slots ∧ t.history = s.history ∧ t.lifts = s.lifts ∧ (t.lane l).hold = (s.lane l).hold
          ∧ s.Counts t [] [])
      ∧ (v = .admitted → (∀ m, t.entryAt m = s.entryAt m) ∧ t.history = s.history ∧ (t.lane l).hold = none
          ∧ t.lift lift = { s.lift lift with level := min ((s.lift lift).level - 60 + 60) (60 * (s.lift lift).burst) }
          ∧ s.SameLiftsBut t lift ∧ s.Counts t [(l, .granted), (l, .released)] [])
      ∧ (v = .held → (t.lane l).hold = none ∧ ∀ h, (s.lane l).hold = some h → s.Counts t [(l, .released)] []
          ∧ t.lift h.lift = { s.lift h.lift with level := min ((s.lift h.lift).level + 60) (60 * (s.lift h.lift).burst) }
          ∧ s.SameLiftsBut t h.lift
          ∧ ∀ x, s.entryAt h.slot = some x →
            t.entryAt h.slot = some { x with
              used := if h.facts.debitMade then x.used - 1 else x.used, lost := if h.facts.debitLost then x.lost - 1 else x.lost
              state := .live h.prevState, lastUse := h.prevLastUse, lastAdmit := h.prevLastAdmit
              chain := (s.history.undo h.facts h.lift x.chain).1, marker := none }
            ∧ s.SameSlotsBut t h.slot ∧ t.history = (s.history.undo h.facts h.lift x.chain).2
            ∧ (h.facts = .none → (s.history.undo h.facts h.lift x.chain).1 = x.chain ∧ t.history = s.history))
      ∧ s.SameLanesBut t l ∧ (t.lane l).profile = (s.lane l).profile ∧ (t.lane l).unreadRun = 0 ∧ (t.lane l).late = (s.lane l).late
      ∧ s.SamePorts t
      ∧ (∀ p, p = .office ∨ p = gateOf l → (v ≠ .control ∨ (s.port p).edges.laneState = .any) →
          (t.port p).flagged (.laneState l) = true))
  ∧ (∀ (d : Option Dwell) (pass : Nat) (now : Instant) (x : Dwell) (p : Profile),
    let elapsed (a : Instant) : Int := (now.sec : Int) - a.sec + 86400 * (if a.day < now.day then (now.day : Int) - a.day else 0)
    (d = some x → x.pass = pass → elapsed x.last ≤ 1 → trackedDwell d pass now = { x with last := now })
    ∧ ((d = none ∨ (d = some x ∧ (x.pass ≠ pass ∨ 1 < elapsed x.last))) →
        trackedDwell d pass now = { pass := pass, start := now, last := now, spent := false })
    ∧ (toggles x now p = true ↔ x.spent = false ∧ 3 ≤ elapsed x.start ∧ p.toggle = true))

/-! ### Holds -/

/-- PASSED with an open hold (R85, R86, R87): the hold commits. The marker is removed and every other effect of the grant stays, the
hold and late records are empty, and committed, staff for a CONTROL pass, boarded and distinct for a newly set lift are counted.
Without a hold (R97, R98, R99, R100): LATE within the late window of the last expiry, UNPAIRED otherwise, when it is free in an
OPEN lane and a tailgate in any other; either way one rider is counted boarded on the lift of the lane, 60 pace units are taken,
to 0 at least, and the late record is empty. Bits of the response without a field are 0 (the model's choice: log entry 19). -/
def Obligations.PassedCommitsOrIsLateOrUnpaired : Prop :=
  (∀ (s : State) (r : StoreReq) (h : Hold), s.grants .passed r →
    let l := laneArg r.frame.payload
    (s.lane l).hold = some h →
    ∃ t, exec .passed s = .next t ∧ s.Answers t r.port r.index r.frame ([20, byteOf l.val, 1] ++ bytesOf 4 h.pass)
      ∧ (∀ n, t.entryAt n = if n = h.slot then (s.entryAt n).map fun e => { e with marker := none } else s.entryAt n)
      ∧ t.lane l = { s.lane l with hold := none, late := none } ∧ s.SameLanesBut t l
      ∧ s.Counts t ((l, .committed) :: if h.kind = .control then [(l, .staff)] else [])
          ((h.lift, .boarded) :: if h.facts.liftNewlySet then [(h.lift, .distinct)] else [])
      ∧ t.lifts = s.lifts ∧ s.SamePorts t)
  ∧ (∀ (s : State) (r : StoreReq), s.grants .passed r →
    let l := laneArg r.frame.payload
    let lift := s.liftOf l
    let elapsed (a : Instant) : Int :=
      (s.clock.sec : Int) - a.sec + 86400 * (if a.day < s.clock.day then (s.clock.day : Int) - a.day else 0)
    let late := ∃ x, (s.lane l).late = some x ∧ elapsed x.expired ≤ (s.lane l).profile.lateWindow
    (s.lane l).hold = none →
    ∃ t, exec .passed s = .next t
      ∧ (∀ x, (s.lane l).late = some x → late →
          s.Answers t r.port r.index r.frame ([21, byteOf l.val, 1] ++ bytesOf 4 x.pass) ∧ s.Counts t [(l, .late)] [(lift, .boarded)])
      ∧ (¬late → s.Answers t r.port r.index r.frame [22, byteOf l.val, 0, 0, 0, 0, 0]
          ∧ s.Counts t [(l, if (s.lane l).state = .work .opened then .free else .tailgate)] [(lift, .boarded)]
          ∧ ((s.lane l).state ≠ .work .opened → (t.port (gateOf l)).flagged (.tailgate l) = true
              ∧ t.office.flagged (.tailgate l) = true))
      ∧ t.lane l = { s.lane l with late := none } ∧ s.SameLanesBut t l
      ∧ t.lift lift = { s.lift lift with level := (s.lift lift).level - 60 } ∧ s.SameLiftsBut t lift
      ∧ t.slots = s.slots ∧ s.SamePorts t)

/-- RELEASE (R88, R89, R90, R91): the open hold is rolled back. Days used, lost days, state, last-use day, last admit and chain
return, the marker is removed, 60 pace units return to the lift of the hold, up to its capacity, and released is counted;
without a hold the answer is NO_HOLD and nothing changes but the queues and the counters of the arbiter and the sweep. EXPIRY,
granted (R95, R96): a hold whose expiry is pending is rolled back likewise, counted expired, noted in the late record of the
lane with the instant of the grant, and reported with HOLD_EXPIRED; an expiry that finds its hold ended changes nothing but the
counters of the arbiter and the sweep (R174). Bits of the response without a field are 0 (the model's choice: log entry 19). -/
def Obligations.ReleaseAndExpiryRollTheHoldBack : Prop :=
  (∀ (s : State) (r : StoreReq), s.grants .release r →
    let l := laneArg r.frame.payload
    ((s.lane l).hold = none → exec .release s
        = .next ((s.charge (.request r)).complete r.port r.index r.frame [24, byteOf l.val, 0, 0, 0, 0, 0]))
    ∧ ∀ h e, (s.lane l).hold = some h → s.entryAt h.slot = some e →
      ∃ t, exec .release s = .next t ∧ s.Answers t r.port r.index r.frame ([23, byteOf l.val, 1] ++ bytesOf 4 h.pass)
        ∧ t.entryAt h.slot = some { e with
            used := if h.facts.debitMade then e.used - 1 else e.used, lost := if h.facts.debitLost then e.lost - 1 else e.lost
            state := .live h.prevState, lastUse := h.prevLastUse, lastAdmit := h.prevLastAdmit
            chain := (s.history.undo h.facts h.lift e.chain).1, marker := none }
        ∧ s.SameSlotsBut t h.slot ∧ t.history = (s.history.undo h.facts h.lift e.chain).2
        ∧ t.lane l = { s.lane l with hold := none } ∧ s.SameLanesBut t l
        ∧ t.lift h.lift = { s.lift h.lift with level := min ((s.lift h.lift).level + 60) (60 * (s.lift h.lift).burst) }
        ∧ s.SameLiftsBut t h.lift ∧ s.Counts t [(l, .released)] [] ∧ s.SamePorts t)
  ∧ (∀ (s : State) (x : Expiry), s.select = some (.expiry x) →
    (∀ h e, (s.lane x.lane).hold = some h → h.pendingExpiry = true → s.entryAt h.slot = some e →
      ∃ t, exec .expiry s = .next t
        ∧ t.entryAt h.slot = some { e with
            used := if h.facts.debitMade then e.used - 1 else e.used, lost := if h.facts.debitLost then e.lost - 1 else e.lost
            state := .live h.prevState, lastUse := h.prevLastUse, lastAdmit := h.prevLastAdmit
            chain := (s.history.undo h.facts h.lift e.chain).1, marker := none }
        ∧ s.SameSlotsBut t h.slot ∧ t.history = (s.history.undo h.facts h.lift e.chain).2
        ∧ t.lane x.lane = { s.lane x.lane with hold := none, late := some { pass := h.pass, expired := s.now } }
        ∧ s.SameLanesBut t x.lane
        ∧ t.lift h.lift = { s.lift h.lift with level := min ((s.lift h.lift).level + 60) (60 * (s.lift h.lift).burst) }
        ∧ s.SameLiftsBut t h.lift ∧ s.Counts t [(x.lane, .expired)] []
        ∧ (t.port (gateOf x.lane)).flagged (.holdExpired x.lane) = true ∧ t.office.flagged (.holdExpired x.lane) = true
        ∧ t.arbiter.expiries = s.arbiter.expiries.erase x ∧ s.SamePorts t)
    ∧ ((∀ h, (s.lane x.lane).hold = some h → h.pendingExpiry = false) →
      exec .expiry s = .next ((s.charge (.expiry x)).withArbiter
        { (s.charge (.expiry x)).arbiter with expiries := s.arbiter.expiries.erase x })))


/-! ### Lanes, lifts and pacing -/

/-- SET_LANE, granted (R92, R104, R105, R106, R108): every targeted lane takes the state named, or as its remembered state in FAULT, and
the profile of the request, clamped; a change of state empties the dwell and is handed over as LANE_STATE; a lane that leaves NORMAL
loses its hold by a rollback, counted released at the lane: its entry and chain are as they were before the grant (R88, R34), 60 pace
units return to the hold's lift (R89), the granules that the grants allocated return to the head of the free queue, and HISTORY_FULL
becomes false when one does (R31). Lanes not targeted and the other entries stay. The order in which several holds are rolled back is
free (log entry 3); bits of the response without a field are 0 (log entry 19). -/
def Obligations.SetLaneActsOnEveryTarget : Prop :=
  ∀ (s : State) (r : StoreReq), s.grants .setLane r → s.StoreOk → s.HoldsOk → s.HistoryOk → (∀ f, (s.lift f).ok) →
    let p := r.frame.payload
    let targeted (l : Lane) : Bool := match byteAt 0 p with
      | 0 => l.val == byteAt 1 p % 8
      | 1 => (s.liftOf l).val == byteAt 1 p
      | _ => true
    let code : Option WorkState := match byteAt 2 p with
      | 0 => some .closed | 1 => some .normal | 2 => some .opened | _ => none
    let profile : Profile := {
      holdTime := max 3 (min (byteAt 3 p) 20), lateWindow := min (byteAt 4 p) 30, threshold := max 1 (min (byteAt 5 p) 15)
      toggle := byteAt 6 p != 0 }
    let state (l : Lane) : LaneState := match code, (s.lane l).state with
      | none, x => x
      | some w, .fault _ => .fault w
      | some w, .work _ => .work w
    let moves (l : Lane) : Bool := targeted l && (match (s.lane l).state with
      | .fault _ => false
      | .work w => code.any (· != w))
    let loses (l : Lane) : Bool := moves l && (s.lane l).state == .work .normal && (s.lane l).hold.isSome
    let returned (f : Lift) : Nat := (allLanes.filter fun l => loses l && (s.lane l).hold.any fun h => h.lift == f).length
    let ls := allLanes.filter targeted
    ∃ t, exec .setLane s = .next t
      ∧ (∀ l, targeted l = true → t.lane l = { s.lane l with
          state := state l, profile := profile, dwell := if moves l then none else (s.lane l).dwell
          hold := if loses l then none else (s.lane l).hold })
      ∧ (∀ l, targeted l = false → t.lane l = s.lane l)
      ∧ s.Answers t r.port r.index r.frame
          ([0, byteOf ls.length, byteOf profile.holdTime, byteOf profile.lateWindow, byteOf profile.threshold,
              if profile.toggle then 1 else 0] ++ ls.flatMap fun l => [byteOf l.val, byteOf (state l).laneByte])
      ∧ s.Counts t ((allLanes.filter loses).map fun l => (l, .released)) []
      ∧ (∀ l h e, loses l = true → (s.lane l).hold = some h → s.entryAt h.slot = some e →
          let u := s.history.undo h.facts h.lift e.chain
          t.entryAt h.slot = some { e with
            used := if h.facts.debitMade then e.used - 1 else e.used, lost := if h.facts.debitLost then e.lost - 1 else e.lost
            state := .live h.prevState, lastUse := h.prevLastUse, lastAdmit := h.prevLastAdmit, chain := u.1, marker := none }
          ∧ t.history.records u.1 = u.2.records u.1)
      ∧ (∃ freed : List Nat, freed.Perm (allLanes.filterMap fun l =>
            if loses l then (s.lane l).hold.bind fun h =>
              if h.facts.recordWritten && h.facts.granuleAllocated then
                (s.entryAt h.slot).bind fun e => e.chain.map Chain.tail
              else none
            else none)
          ∧ t.history.free = freed ++ s.history.free ∧ t.history.full = (s.history.full && freed.isEmpty))
      ∧ (∀ n, (∀ l h, loses l = true → (s.lane l).hold = some h → h.slot ≠ n) → t.entryAt n = s.entryAt n
          ∧ ∀ e, s.entryAt n = some e → t.history.records e.chain = s.history.records e.chain)
      ∧ (∀ f, t.lift f = { s.lift f with level := min ((s.lift f).level + 60 * returned f) (60 * (s.lift f).burst) })
      ∧ (∀ l p, moves l = true → (p = .office ∨ p = gateOf l) →
          ((s.lane l).state = .work .normal ∨ (s.port p).edges.laneState = .any) → (t.port p).flagged (.laneState l) = true)
      ∧ s.SamePorts t

/-- LANE_REPORT JAM and CLEAR, granted (R104, R107): JAM takes a NORMAL or OPEN lane to FAULT, which remembers the state found; CLEAR
returns it; each is a change of lane state that empties the dwell and hands LANE_STATE over, and a jam in NORMAL releases the hold by
a rollback of its entry, its chain and its 60 pace units (R88, R89, R92). A jam in NORMAL sets the LANE_STATE flag at the lane's gate
port and at the office; a jam in OPEN and a CLEAR set it there under ANY alone, and at no other port (R190). In every other lane state the answer is NO_CHANGE and the
lane stays. Bits of the lane byte without a field are 0 (the model's choice: log entry 19). -/
def Obligations.LaneReportJamAndClear : Prop :=
  ∀ (s : State) (r : StoreReq),
    let l := laneArg r.frame.payload
    let same (c : Byte) : State :=
      (s.charge (.request r)).complete r.port r.index r.frame [c, byteOf l.val, byteOf (s.lane l).state.laneByte]
    (s.grantable (isReport 0) = some r →
      (((s.lane l).state = .work .closed ∨ ∃ w, (s.lane l).state = .fault w) → exec .laneReportJam s = .next (same 16))
      ∧ ((s.lane l).state = .work .normal → ∃ t, exec .laneReportJam s = .next t
          ∧ t.lane l = { s.lane l with state := .fault .normal, dwell := none, hold := none } ∧ s.SameLanesBut t l
          ∧ s.Answers t r.port r.index r.frame [0, byteOf l.val, 23]
          ∧ s.Counts t (if (s.lane l).hold.isSome then [(l, .released)] else []) []
          ∧ ((s.lane l).hold = none → t.slots = s.slots ∧ t.history = s.history ∧ t.lifts = s.lifts)
          ∧ (∀ h e, (s.lane l).hold = some h → s.entryAt h.slot = some e →
              t.entryAt h.slot = some { e with
                used := if h.facts.debitMade then e.used - 1 else e.used, lost := if h.facts.debitLost then e.lost - 1 else e.lost
                state := .live h.prevState, lastUse := h.prevLastUse, lastAdmit := h.prevLastAdmit
                chain := (s.history.undo h.facts h.lift e.chain).1, marker := none }
              ∧ s.SameSlotsBut t h.slot ∧ t.history = (s.history.undo h.facts h.lift e.chain).2
              ∧ t.lift h.lift = { s.lift h.lift with level := min ((s.lift h.lift).level + 60) (60 * (s.lift h.lift).burst) }
              ∧ s.SameLiftsBut t h.lift)
          ∧ (t.port (gateOf l)).flagged (.laneState l) = true ∧ t.office.flagged (.laneState l) = true ∧ s.SamePorts t)
      ∧ ((s.lane l).state = .work .opened → ∃ t, exec .laneReportJam s = .next t
          ∧ t.lane l = { s.lane l with state := .fault .opened, dwell := none } ∧ s.SameLanesBut t l
          ∧ s.Answers t r.port r.index r.frame [0, byteOf l.val, 27] ∧ t.slots = s.slots ∧ t.history = s.history ∧ t.lifts = s.lifts
          ∧ t.counts = s.counts ∧ s.SamePorts t
          ∧ ∀ p, (t.port p).flagged (.laneState l) = ((s.port p).flagged (.laneState l)
              || ((p == .office || p == gateOf l) && (s.port p).edges.laneState == .any))))
    ∧ (s.grantable (isReport 1) = some r →
      ((∃ w, (s.lane l).state = .work w) → exec .laneReportClear s = .next (same 16))
      ∧ ∀ w, (s.lane l).state = .fault w → ∃ t, exec .laneReportClear s = .next t
          ∧ t.lane l = { s.lane l with state := .work w, dwell := none } ∧ s.SameLanesBut t l
          ∧ s.Answers t r.port r.index r.frame [0, byteOf l.val, byteOf w.code] ∧ s.SamePorts t
          ∧ t.slots = s.slots ∧ t.history = s.history ∧ t.lifts = s.lifts ∧ t.counts = s.counts
          ∧ ∀ p, (t.port p).flagged (.laneState l) = ((s.port p).flagged (.laneState l)
              || ((p == .office || p == gateOf l) && (s.port p).edges.laneState == .any)))

/-- READER_SUSPECT (R122, R123): an unreadable image raises a lane's run count by 1, up to 255, a parsed image sets it to 0, and after
either, and after a write of the profile, the condition is judged again; a rise sets the lane's flag at its gate port and at the office,
a fall under ANY alone, and no change of the condition sets none. -/
def Obligations.ReaderMonitor : Prop :=
  ∀ (s : State) (l : Lane) (profile : Profile) (p : Port) (t : State) (r : LaneRec),
    ((t = s.raiseRun l ∧ r = { s.lane l with unreadRun := if (s.lane l).unreadRun < 255 then (s.lane l).unreadRun + 1
        else (s.lane l).unreadRun })
      ∨ (t = s.clearRun l ∧ r = { s.lane l with unreadRun := 0 })
      ∨ (t = s.writeProfile l profile ∧ r = { s.lane l with profile := profile })) →
    t.lane l = r ∧ s.SameLanesBut t l
    ∧ (r.suspect = true ↔ r.profile.threshold ≤ r.unreadRun)
    ∧ (t.port p).flagged (.readerSuspect l)
        = ((s.port p).flagged (.readerSuspect l)
            || ((p == .office || p == gateOf l) && (s.lane l).suspect != r.suspect
                && (r.suspect || (s.port p).edges.readerSuspect == .any)))
    ∧ onlyChanges [.lanes, .gates, .office] s t

/-- SET_SCHEME (R110) and SET_LIFT (R117): a scheme code above 3 is refused BAD_VALUE, and any scheme while a lane is not CLOSED
NOT_CLOSED, with the scheme in force in the response; otherwise the scheme is in force. A lift number above 3 is refused
BAD_VALUE; otherwise rate and burst are written, clamped, and the level becomes the new capacity. -/
def Obligations.SetSchemeAndSetLift : Prop :=
  (∀ (s : State) (i : Nat) (f : Frame),
    (s.serves .office .setScheme i f →
      (3 < byteAt 0 f.payload → exec .setScheme s = .next (s.complete .office i f [4, byteOf s.scheme.code]))
      ∧ (byteAt 0 f.payload ≤ 3 → (∃ l, (s.lane l).state ≠ .work .closed) →
          exec .setScheme s = .next (s.complete .office i f [14, byteOf s.scheme.code]))
      ∧ ∀ x : Scheme, byteAt 0 f.payload = x.code → (∀ l, (s.lane l).state = .work .closed) →
          exec .setScheme s = .next ((s.withScheme x).complete .office i f [0, byteOf x.code]))
    ∧ (s.serves .office .setLift i f →
      (3 < byteAt 0 f.payload → exec .setLift s = .next (s.complete .office i f [4]))
      ∧ ∀ g : Lift, byteAt 0 f.payload = g.val →
          let rate := max 1 (min (byteAt 1 f.payload) 120)
          let burst := max 1 (min (byteAt 2 f.payload) 32)
          exec .setLift s = .next ((s.setLift g { s.lift g with rate := rate, burst := burst, level := 60 * burst }).complete
            .office i f ([0, byteOf g.val, byteOf rate, byteOf burst] ++ bytesOf 2 (60 * burst)))))

/-- The scheme in force (R109): the lift of each lane is the one of its row of the table; the scheme is S0 after power-on reset and is
kept through a warm reset. -/
def Obligations.SchemeGivesTheLiftOfEachLane : Prop :=
  (∀ (s : State) (l : Lane), (s.liftOf l).val = match s.scheme with
    | .s0 => 0
    | .s1 => if l.val < 4 then 0 else 1
    | .s2 => l.val / 2
    | .s3 => if l.val < 4 then 0 else if l.val < 6 then 1 else if l.val = 6 then 2 else 3)
  ∧ ∀ s : State, s.powerOn.scheme = .s0 ∧ s.warmReset.scheme = s.scheme

/-! ### Products, tariff, counts and store policy -/

/-- LOAD_PRODUCT, SET_RESORT and LOAD_TARIFF (R6, R7, R9, R143): the codes that the rules refuse are refused BAD_VALUE with nothing
changed; otherwise the product is written with each value clamped, or with its power-on values when the defined flag is no, the resort
code as carried, and the four rates of the row, clamped to 200,000. The response repeats what is stored, a yes as 1 (the model's
reading: log entry 7) and the bits of the mask byte that stand for no lift as 0 (the model's choice: log entry 19). -/
def Obligations.LoadProductResortAndTariff : Prop :=
  ∀ (s : State) (i : Nat) (f : Frame),
    let p := f.payload
    let yes (b : Bool) : Byte := if b then 1 else 0
    (s.serves .office .loadProduct i f →
      ((63 < byteAt 0 p ∨ 1 < byteAt 2 p) → exec .loadProduct s = .next (s.complete .office i f [4]))
      ∧ ∀ (c : Fin 64) (x : Product), byteAt 0 p = c.val → byteAt 2 p ≤ 1 →
          (x = if byteAt 1 p = 0 then { defined := false, kind := .rider, mask := 0, passback := 0, refundable := false, row := 0, fee := 0,
                                        unit := 1, minPayout := 0 }
            else { defined := true, kind := if byteAt 2 p = 0 then .rider else .control, mask := BitVec.ofNat 4 (byteAt 3 p)
                   passback := min (fieldAt 4 2 p) 3600, refundable := byteAt 6 p != 0, row := Fin.ofNat 8 (min (byteAt 7 p) 7)
                   fee := min (fieldAt 8 4 p) 100000, unit := max 1 (min (fieldAt 12 2 p) 10000)
                   minPayout := min (fieldAt 14 4 p) 100000 }) →
          ∃ t, exec .loadProduct s = .next t ∧ t.product c = x ∧ (∀ d, d ≠ c → t.product d = s.product d)
            ∧ s.Answers t .office i f ([0, byteOf c.val, yes x.defined, if x.kind = .rider then 0 else 1, byteOf x.mask.toNat]
                ++ bytesOf 2 x.passback ++ [yes x.refundable, byteOf x.row.val] ++ bytesOf 4 x.fee ++ bytesOf 2 x.unit
                ++ bytesOf 4 x.minPayout)
            ∧ onlyChanges [.products, .office] s t)
    ∧ (s.serves .office .setResort i f → exec .setResort s
        = .next ((s.withResort (fieldAt 0 2 p)).complete .office i f ([0] ++ bytesOf 2 (fieldAt 0 2 p))))
    ∧ (s.serves .office .loadTariff i f →
      (7 < byteAt 0 p → exec .loadTariff s = .next (s.complete .office i f [4]))
      ∧ ∀ row : Fin 8, byteAt 0 p = row.val →
          let rate (c : Nat) : Nat := min 200000 (fieldAt (1 + 3 * c) 3 p)
          ∃ t, exec .loadTariff s = .next t ∧ (∀ c : DayClass, t.rate row c = rate c.val)
            ∧ (∀ x : Fin 8, x ≠ row → ∀ c, t.rate x c = s.rate x c)
            ∧ s.Answers t .office i f ([0, byteOf row.val] ++ bytesOf 3 (rate 0) ++ bytesOf 3 (rate 1) ++ bytesOf 3 (rate 2)
                ++ bytesOf 3 (rate 3))
            ∧ onlyChanges [.tariff, .office] s t)

/-- One counting event (R130, R131): the counter rises by 1 in the running set and in the day set, each staying at the top of its range,
and no other counter changes; an addition that finds the running counter at 65,535 makes the round's mark yes, and raises
COUNT_SATURATED for the office when the mark was no. -/
def Obligations.CountingAndSaturation : Prop :=
  ∀ (s t : State) (old : Nat),
    (∃ l k, t = s.countLane l k ∧ old = s.counts.running.lane l k) ∨ (∃ f k, t = s.countLift f k ∧ old = s.counts.running.lift f k) →
    ((∃ l k, t = s.countLane l k ∧ s.Counts t [(l, k)] []) ∨ (∃ f k, t = s.countLift f k ∧ s.Counts t [] [(f, k)]))
    ∧ t.counts.saturated = (s.counts.saturated || decide (65535 ≤ old))
    ∧ t.office.flagged (.device .countSaturated)
        = (s.office.flagged (.device .countSaturated) || (decide (65535 ≤ old) && !s.counts.saturated))
    ∧ t.counts.snapshot = s.counts.snapshot ∧ t.counts.round = s.counts.round ∧ t.counts.mode = s.counts.mode
    ∧ onlyChanges [.counts, .office] s t

/-- TAKE_SNAPSHOT (R133, R134, R137): refused WRONG_MODE in AUTO with nothing changed; in MANUAL a transfer moves the running
counters and the saturation mark into the snapshot with the round number, which rises and wraps, and raises ROUND_READY, and
ROUND_OVERRUN with the overrun mark when the last snapshot was unread; the day set is not touched. SET_REPORT (R132, R136): a
mode code above 1 is refused BAD_VALUE; otherwise the period is written, clamped to 1–60, and AUTO loads period × 60 ticks.
READ_COUNTS (R138): a set code above 1 or a part code above 8 is refused BAD_VALUE; a read of the snapshot carries the round,
the marks, mode and timer as they stand and the counters of the part, and then, for the LIFTS part alone, makes the unread mark
no. Bits of the responses without a field are 0 (the model's choice: log entry 19). -/
def Obligations.CountRequests : Prop :=
  ((∀ (s : State) (i : Nat) (f : Frame), s.serves .office .takeSnapshot i f →
    (∀ n, s.counts.mode = .auto n → exec .takeSnapshot s = .next (s.complete .office i f [15]))
    ∧ (s.counts.mode = .manual → ∃ t, exec .takeSnapshot s = .next t
        ∧ t.counts = { running := .zero, snapshot := s.counts.running, day := s.counts.day, mode := .manual, period := s.counts.period
                       round := if s.counts.round = 65535 then 0 else s.counts.round + 1, snapRound := s.counts.round
                       snapUnread := true, snapOverrun := s.counts.snapUnread, snapSaturated := s.counts.saturated
                       saturated := false }
        ∧ s.Answers t .office i f ([0] ++ bytesOf 2 s.counts.round
            ++ [byteOf ((if s.counts.snapUnread then 2 else 0) + if s.counts.saturated then 4 else 0)])
        ∧ (∀ e, t.office.flagged e = (s.office.flagged e || e == .device .roundReady
            || (e == .device .roundOverrun && s.counts.snapUnread)))
        ∧ onlyChanges [.counts, .office] s t))
  ∧ (∀ (s : State) (i : Nat) (f : Frame), s.serves .office .setReport i f →
    let period := max 1 (min (byteAt 1 f.payload) 60)
    (1 < byteAt 0 f.payload → exec .setReport s = .next (s.complete .office i f [4]))
    ∧ (byteAt 0 f.payload = 0 → exec .setReport s
        = .next ((s.withCounts { s.counts with period := period, mode := .manual }).complete .office i f
            ([0, 0, 0, byteOf period] ++ bytesOf 2 s.counts.round ++ [0, 0])))
    ∧ (byteAt 0 f.payload = 1 → exec .setReport s
        = .next ((s.withCounts { s.counts with period := period, mode := .auto (60 * period) }).complete .office i f
            ([0, 1, 1, byteOf period] ++ bytesOf 2 s.counts.round ++ bytesOf 2 (60 * period))))))
  ∧ (∀ (s : State) (i : Nat) (f : Frame), s.serves .office .readCounts i f →
    let part := byteAt 1 f.payload
    let c := s.counts
    let timer : Option Nat := match c.mode with | .manual => none | .auto n => some n
    let mark (b : Bool) (n : Nat) : Nat := if b then n else 0
    ((1 < byteAt 0 f.payload ∨ 8 < part) → exec .readCounts s = .next (s.complete .office i f [4]))
    ∧ (byteAt 0 f.payload = 0 → part ≤ 8 → ∃ counters, exec .readCounts s
        = .next ((s.withCounts { c with snapUnread := c.snapUnread && part != 8 }).complete .office i f
            ([0, 0, byteOf part] ++ bytesOf 2 c.snapRound
              ++ [byteOf (mark c.snapUnread 1 + mark c.snapOverrun 2 + mark c.snapSaturated 4 + mark timer.isSome 24)]
              ++ bytesOf 2 (timer.getD 0) ++ counters))
        ∧ (∀ (l : Lane) (k : LaneCounter), part = l.val →
            counters.length = 22 ∧ fieldAt (2 * k.index.val) 2 counters = c.snapshot.lane l k % 65536)
        ∧ (part = 8 → counters.length = 24 ∧ ∀ (g : Lift) (k : LiftCounter),
            fieldAt (6 * g.val + 2 * k.index.val) 2 counters = c.snapshot.lift g k % 65536)))

/-- SET_STORE_POLICY (R171, R172, R178, R180): the four values are written, clamped, within one event; TABLE_LOW is judged against the new
floor, and a walk at MAY becomes MUST when TABLE_LOW is true or the second of day has reached the new deadline, with SWEEP_LATE for
the deadline alone when TABLE_LOW has not raised it first. The response carries the four values as written. -/
def Obligations.SetStorePolicyWritesAndTests : Prop :=
  ∀ (s : State) (i : Nat) (f : Frame), s.serves .office .setStorePolicy i f →
    let retention := min (byteAt 0 f.payload) 60
    let deadline := min (fieldAt 1 3 f.payload) 86399
    let floor := min (fieldAt 4 2 f.payload) 16384
    let limit := max 1 (min (byteAt 6 f.payload) 15)
    let may := s.sweep.walk.map Walk.urgency = some .may
    ∃ t, exec .setStorePolicy s = .next t
      ∧ t.sweep = { walk := if s.freeSlots < floor ∨ deadline ≤ s.clock.sec then mustWalk s.sweep.walk else s.sweep.walk
                    retention := retention, deadline := deadline, floor := floor }
      ∧ t.arbiter = { s.arbiter with burstLimit := limit }
      ∧ s.Answers t .office i f ([0, byteOf retention] ++ bytesOf 3 deadline ++ bytesOf 2 floor ++ [byteOf limit])
      ∧ (t.office.flagged (.device .sweepLate) = true
          ↔ s.office.flagged (.device .sweepLate) = true ∨ (may ∧ ¬s.freeSlots < floor ∧ deadline ≤ s.clock.sec))
      ∧ (t.office.flagged (.device .tableLow) = true ↔ s.office.flagged (.device .tableLow) = true
          ∨ (¬s.freeSlots < s.sweep.floor ∧ s.freeSlots < floor)
          ∨ (s.freeSlots < s.sweep.floor ∧ ¬s.freeSlots < floor ∧ s.office.edges.tableLow = .any))
      ∧ onlyChanges [.sweep, .arbiter, .office] s t

/-! ### Refunds -/

/-- Stage 1 of a valuation (R148): the used value is the sum of the rate of the class of every record of the chain, in the product's
row, and of the highest rate of the row for every lost day; with at most 30 used days at rates of at most 200,000 it is at most
6,000,000. Stages 3 and 4 (R150): the first refundable day f is tomorrow when the last-use day is today, today otherwise, and no
earlier than valid-from; D counts the days of the window from f to valid-to. Stage 5 (R151): E is the smaller of the days bought
that have not been used and D. D lies in 0–60 for an entry with a window of at most 60 days, and E in 0–30 for one with at most 30
days bought. -/
def Obligations.UsedValueAndRefundableDays : Prop :=
  (∀ (s : State) (e : Entry) (row : Fin 8),
    (∀ c : DayClass, s.rate row c ≤ s.highestRate row) ∧ (∃ c : DayClass, s.highestRate row = s.rate row c)
    ∧ s.usedValue e row = ((s.history.records e.chain).map fun x => s.rate row x.cls).sum + e.lost * s.highestRate row
    ∧ ((∀ c : DayClass, s.rate row c ≤ 200000) → (s.history.records e.chain).length + e.lost ≤ 30 →
        s.usedValue e row ≤ 6000000))
  ∧ (∀ (e : Entry) (today : Nat),
    let f := e.firstRefundable today
    (e.validFrom ≤ f ∧ (e.lastUse = some today → today + 1 ≤ f) ∧ (e.lastUse ≠ some today → today ≤ f)
      ∧ (f = e.validFrom ∨ f = if e.lastUse = some today then today + 1 else today))
    ∧ e.windowDays today = ((List.range (e.validTo + 1)).filter fun day => f ≤ day).length
    ∧ (e.validTo < f → e.windowDays today = 0) ∧ (f ≤ e.validTo → e.windowDays today = e.validTo - f + 1)
    ∧ e.refundableDays today ≤ e.bought - e.used ∧ e.refundableDays today ≤ e.windowDays today
    ∧ (e.refundableDays today = e.bought - e.used ∨ e.refundableDays today = e.windowDays today)
    ∧ (e.validTo ≤ e.validFrom + 59 → e.windowDays today ≤ 60) ∧ (e.bought ≤ 30 → e.refundableDays today ≤ 30))

/-- Stage 6 of a valuation (R152): the cap K is floor(P × E / B); it is at most P, and 0 when E is 0. Stages 7 and 8 (R153): the smaller of
credit and cap, less the fee, or 0 when the fee is larger. Stages 9 and 10 (R154): the amount is the largest multiple of the refund
unit that does not exceed what is left, and 0 when that lies below the minimum payout; it is at most K, and never above P. -/
def Obligations.RefundCapAndAmount : Prop :=
  (∀ (e : Entry) (today : Nat), 1 ≤ e.bought →
    e.refundCap today * e.bought ≤ e.price * e.refundableDays today
    ∧ e.price * e.refundableDays today < (e.refundCap today + 1) * e.bought
    ∧ (e.bought ≤ 30 → e.price ≤ 4000000 → e.price * e.refundableDays today ≤ 120000000)
    ∧ e.refundCap today ≤ e.price ∧ (e.refundableDays today = 0 → e.refundCap today = 0))
  ∧ (∀ (s : State) (e : Entry) (p : Product), 1 ≤ e.bought → 1 ≤ p.unit →
    let v := s.valuation e p
    let credit := e.price - s.usedValue e p.row
    let c1 := min credit (e.refundCap s.clock.day)
    let c2 := if p.fee ≤ c1 then c1 - p.fee else 0
    v.cap = e.refundCap s.clock.day
    ∧ (∃ a, p.unit ∣ a ∧ a ≤ c2 ∧ c2 < a + p.unit ∧ v.amount = if a < p.minPayout then 0 else a)
    ∧ v.amount ≤ v.cap ∧ v.amount ≤ e.price)

/-- REFUND, granted (R145, R146, R147, R149, R155, R156, R157, R160): the four checks in order; a quote and an amount of 0 without FORCE
change nothing; otherwise the pass is closed as REFUNDED with today and the amount, every other field kept. The response carries the
valuation, the state and the refund fields as R200 lays them out; bits of the presence byte without a field are 0 (the model's choice:
log entry 19). -/
def Obligations.RefundValuesAndCloses : Prop :=
  ∀ (s : State) (r : StoreReq), s.grants .refund r →
    let p := r.frame.payload
    let answer (u : State) (b : List Byte) : State := (u.complete r.port r.index r.frame b)
    let g := s.charge (.request r)
    let quote := byteAt 4 p % 2 = 1
    let force := byteAt 4 p / 2 % 2 = 1
    (s.clock.state = .unset → exec .refund s = .next (answer g ([11, 0] ++ bytesOf 4 (passArg p))))
    ∧ (s.clock.state = .running → s.findPass (passArg p) = none →
        exec .refund s = .next (answer g ([5, 0] ++ bytesOf 4 (passArg p))))
    ∧ ∀ n e, s.clock.state = .running → s.findPass (passArg p) = some (n, e) →
      let product := s.product e.product
      let v := s.usedValue e product.row
      let credit := if v < e.price then e.price - v else 0
      let days := e.refundableDays s.clock.day
      let cap := e.refundCap s.clock.day
      let amount := product.amountOf credit cap
      let values := bytesOf 3 amount ++ bytesOf 3 v ++ [byteOf days] ++ bytesOf 3 cap
      let refundable := product.defined = true ∧ product.kind = .rider ∧ product.refundable = true
      (∀ d a, e.state = .refunded d a → exec .refund s = .next (answer g ([18, 25] ++ bytesOf 4 e.pass ++ [4]
          ++ [0, 0, 0, 0, 0, 0, 0, 0, 0, 0] ++ bytesOf 2 d ++ bytesOf 3 a)))
      ∧ ((∀ d a, e.state ≠ .refunded d a) →
        (¬refundable → exec .refund s = .next (answer g ([19, 0] ++ bytesOf 4 e.pass)))
        ∧ (refundable → quote → exec .refund s = .next (answer g ([0, 7] ++ bytesOf 4 e.pass ++ [byteOf e.state.code] ++ values
            ++ [0, 0, 0, 0, 0])))
        ∧ (refundable → ¬quote → ¬force → amount = 0 → exec .refund s = .next (answer g ([17, 3] ++ bytesOf 4 e.pass
            ++ [byteOf e.state.code] ++ values ++ [0, 0, 0, 0, 0])))
        ∧ (refundable → ¬quote → (force ∨ 0 < amount) → exec .refund s
            = .next (answer (g.putEntry n { e with state := .refunded s.clock.day amount }) ([0, 11] ++ bytesOf 4 e.pass ++ [4] ++ values
              ++ bytesOf 2 s.clock.day ++ [0, 0, 0]))))

/-! ### The day-close sweep -/

/-- One visit of a sweep batch (R175, R176): a free slot and an entry with a hold marker are passed over; an ISSUED, ACTIVE or
EXHAUSTED entry after its valid-to day becomes EXPIRED and nothing else of it changes; an EXPIRED entry more than the retention
after its valid-to day, or a REFUNDED one more than that after the later of valid-to and refund day, is retired; every other
entry stays. A retirement (R37, R177): the granules of the chain of the entry join the tail of the free queue, the head granule
first, and are FREE; HISTORY_FULL becomes false when at least one does; the slot is free and the free-slot count rises by 1. -/
def Obligations.SweepVisitAndRetirement : Prop :=
  (∀ (s : State) (n : Nat),
    let today := s.clock.day
    let keep := s.sweep.retention
    (s.entryAt n = none → s.visitSlot n = s)
    ∧ ∀ e, s.entryAt n = some e →
      (e.marker.isSome = true → s.visitSlot n = s)
      ∧ (e.marker = none →
        (∀ q, e.state = .live q →
          (today ≤ e.validTo → s.visitSlot n = s)
          ∧ (e.validTo < today → today ≤ e.validTo + keep → s.visitSlot n = s.putEntry n { e with state := .expired })
          ∧ (e.validTo + keep < today → s.visitSlot n = s.retire n { e with state := .expired }))
        ∧ (∀ q, e.state = .suspended q → s.visitSlot n = s)
        ∧ (e.state = .expired →
          (today ≤ e.validTo + keep → s.visitSlot n = s) ∧ (e.validTo + keep < today → s.visitSlot n = s.retire n e))
        ∧ ∀ d a, e.state = .refunded d a →
          (today ≤ max e.validTo d + keep → s.visitSlot n = s) ∧ (max e.validTo d + keep < today → s.visitSlot n = s.retire n e)))
  ∧ (∀ (s : State) (n : Nat) (e : Entry), s.StoreOk → s.entryAt n = some e →
    (s.retire n e).entryAt n = none ∧ s.SameSlotsBut (s.retire n e) n ∧ (s.retire n e).freeSlots = s.freeSlots + 1
    ∧ (s.retire n e).history.free = s.history.free ++ s.history.chainGranules e.chain
    ∧ (∀ g ∈ s.history.chainGranules e.chain, (s.retire n e).history.granule g = none)
    ∧ (∀ g, g ∉ s.history.chainGranules e.chain → (s.retire n e).history.granule g = s.history.granule g)
    ∧ (s.retire n e).history.full = (s.history.full && (s.history.chainGranules e.chain).isEmpty)
    ∧ onlyChanges [.slots, .freeSlots, .history, .office, .sweep] s (s.retire n e))

/-- SWEEP_BATCH, granted (R174, R175, R177, R179): the 64 slots from the cursor on are dealt with, and no other; an entry of the batch
is gone exactly when its visit retires it, and expired exactly as its visit leaves it; then the cursor rises by 64, or after the last
slots the sweep is IDLE with SWEEP_DONE raised; the free-slot count rises by the number of retired entries. -/
def Obligations.SweepBatchVisitsItsSlots : Prop :=
  ∀ (s : State) (w : Walk), s.select = some .batch → s.sweep.walk = some w →
    let today := s.clock.day
    let expires (e : Entry) : Bool := e.marker.isNone && e.validTo < today && (match e.state with | .live _ => true | _ => false)
    let retires (e : Entry) : Bool := e.marker.isNone && (match e.state with
      | .live _ | .expired => e.validTo + s.sweep.retention < today
      | .refunded d _ => max e.validTo d + s.sweep.retention < today
      | .suspended _ => false)
    ∃ t, exec .sweepBatch s = .next t
      ∧ (∀ n, (n < w.cursor ∨ w.cursor + 64 ≤ n) → t.entryAt n = s.entryAt n)
      ∧ (∀ n, w.cursor ≤ n → n < w.cursor + 64 → t.entryAt n = (s.entryAt n).bind fun e =>
          if retires e then none else some (if expires e then { e with state := .expired } else e))
      ∧ t.freeSlots = s.freeSlots + ((List.range 64).filter fun j => (s.entryAt (w.cursor + j)).any retires).length
      ∧ (16384 ≤ w.cursor + 64 → t.sweep.walk = none ∧ t.office.flagged (.device .sweepDone) = true)
      ∧ (w.cursor + 64 < 16384 → ∃ x, t.sweep.walk = some x ∧ x.cursor = w.cursor + 64
          ∧ (w.urgency = .may → x.urgency = .may ∨ x.urgency = .must 0) ∧ (w.urgency ≠ .may → x.urgency = .must 0))
      ∧ t.sweep.retention = s.sweep.retention ∧ t.sweep.deadline = s.sweep.deadline ∧ t.sweep.floor = s.sweep.floor
      ∧ onlyChanges [.slots, .freeSlots, .history, .arbiter, .sweep, .office] s t

/-! ### Invariants of every step -/

/-- Every state right after reset is well formed in every sense that the invariants below name. -/
def Obligations.ResetMeetsEveryInvariant : Prop :=
  State.reset.InRange ∧ State.reset.QueuesOk ∧ State.reset.StoreOk ∧ State.reset.HoldsOk ∧ State.reset.HistoryOk
    ∧ State.reset.EntriesOk ∧ ∀ l, State.reset.Balanced l

/-- Every step keeps every range that the manual gives for a quantity of the ports, clock, lanes, lifts, counts, sweep, arbiter,
products, tariff, resort code and calendar; the instants of late records and dwells lie no later than today and those of deadlines
within the clock's range; the sweep is ACTIVE only while the clock runs; and a FETCH in progress shifts out the rest of the oldest
response, which waits until then (R187), while a SEND in progress still waits for its frame (log entry 11). -/
def Obligations.StepsKeepRanges : Prop :=
  ∀ s t : State, s.InRange → step s = .next t → t.InRange

/-- Every step keeps the request queues as the ports fill them (R162, R184, R185): what waits has passed the checks of its port, a
requester of the store is of class A, B or C and carries a stamp of its own given before, and a RESTART never waits. -/
def Obligations.StepsKeepQueues : Prop :=
  ∀ s t : State, s.QueuesOk → step s = .next t → t.QueuesOk

/-- Every step keeps the pass store (R4, R5): each entry stands in the bucket of its pass number, no two entries hold one pass number, and
occupied slots and free slots make 16,384. -/
def Obligations.StepsKeepThePassStore : Prop :=
  ∀ s t : State, s.StoreOk → step s = .next t → t.StoreOk

/-- Every step keeps open holds and hold markers matched (R3, R83, R84): an open hold stands at a NORMAL lane and its entry carries the lane's
marker, and every marker names the lane whose hold is the entry's. -/
def Obligations.StepsKeepHoldsAndMarkersMatched : Prop :=
  ∀ s t : State, s.StoreOk → s.HoldsOk → step s = .next t → t.HoldsOk

/-- Every step keeps the day balance of every lane (R101, R140): day granted equals day committed plus day released plus day expired, plus 1 while
a hold is open, until the granted counter stands at the top of its range. -/
def Obligations.StepsKeepTheDayBalance : Prop :=
  ∀ s t : State, s.HoldsOk → (∀ l, s.Balanced l) → step s = .next t → ∀ l, t.Balanced l

/-- Every step keeps every entry within its ranges, its lost days within its used days and these within the days bought, EXHAUSTED
exactly with every day used, and no last-use day, last admit or refund day after today (R1, R2, R76); and the records of every chain
stand in strictly increasing order of day, so at most one a day, none after today or after the last-use day (R2, R25). -/
def Obligations.StepsKeepEntriesInRange : Prop :=
  ∀ s t : State, s.StoreOk → s.HoldsOk → s.HistoryOk → s.InRange → s.EntriesOk → step s = .next t → t.EntriesOk

/-- Every step keeps the use history (R2, R25, R26, R27, R31, R33): every chain is linked as its entry says and holds as many records as the
entry's recorded days, and every granule is either in the free queue or in one chain, once. -/
def Obligations.StepsKeepTheUseHistory : Prop :=
  ∀ s t : State, s.StoreOk → s.HoldsOk → s.HistoryOk → step s = .next t → t.HistoryOk
end

