-- ==== Sys2Proof/Laws/State.lean ====
section
/-! SUPPORT. The small lemmas of the state's updates: what each update of one field reads as, in that field and in every other,
and what the accessors of ports, lanes, lifts and entries read after a write. -/

namespace Sys2Proof.Machine

/-! ### One update, every field -/

@[simp] theorem State.withPending_fields (s : State) (x : List Instr) :
    (s.withPending x).pending = x ∧ (s.withPending x).pins = s.pins ∧ (s.withPending x).gates = s.gates
    ∧ (s.withPending x).office = s.office ∧ (s.withPending x).slots = s.slots
    ∧ (s.withPending x).freeSlots = s.freeSlots ∧ (s.withPending x).products = s.products
    ∧ (s.withPending x).resort = s.resort ∧ (s.withPending x).history = s.history ∧ (s.withPending x).clock = s.clock
    ∧ (s.withPending x).calendar = s.calendar ∧ (s.withPending x).lanes = s.lanes ∧ (s.withPending x).lifts = s.lifts
    ∧ (s.withPending x).scheme = s.scheme ∧ (s.withPending x).counts = s.counts ∧ (s.withPending x).tariff = s.tariff
    ∧ (s.withPending x).arbiter = s.arbiter ∧ (s.withPending x).sweep = s.sweep
    ∧ (s.withPending x).orderIndex = s.orderIndex :=
  ⟨rfl, rfl, rfl, rfl, rfl, rfl, rfl, rfl, rfl, rfl, rfl, rfl, rfl, rfl, rfl, rfl, rfl, rfl, rfl⟩

@[simp] theorem State.withPins_fields (s : State) (x : Pins) :
    (s.withPins x).pins = x ∧ (s.withPins x).pending = s.pending ∧ (s.withPins x).gates = s.gates
    ∧ (s.withPins x).office = s.office ∧ (s.withPins x).slots = s.slots ∧ (s.withPins x).freeSlots = s.freeSlots
    ∧ (s.withPins x).products = s.products ∧ (s.withPins x).resort = s.resort ∧ (s.withPins x).history = s.history
    ∧ (s.withPins x).clock = s.clock ∧ (s.withPins x).calendar = s.calendar ∧ (s.withPins x).lanes = s.lanes
    ∧ (s.withPins x).lifts = s.lifts ∧ (s.withPins x).scheme = s.scheme ∧ (s.withPins x).counts = s.counts
    ∧ (s.withPins x).tariff = s.tariff ∧ (s.withPins x).arbiter = s.arbiter ∧ (s.withPins x).sweep = s.sweep
    ∧ (s.withPins x).orderIndex = s.orderIndex :=
  ⟨rfl, rfl, rfl, rfl, rfl, rfl, rfl, rfl, rfl, rfl, rfl, rfl, rfl, rfl, rfl, rfl, rfl, rfl, rfl⟩

@[simp] theorem State.withGates_fields (s : State) (x : Vector PortRec 4) :
    (s.withGates x).gates = x ∧ (s.withGates x).pending = s.pending ∧ (s.withGates x).pins = s.pins
    ∧ (s.withGates x).office = s.office ∧ (s.withGates x).slots = s.slots ∧ (s.withGates x).freeSlots = s.freeSlots
    ∧ (s.withGates x).products = s.products ∧ (s.withGates x).resort = s.resort ∧ (s.withGates x).history = s.history
    ∧ (s.withGates x).clock = s.clock ∧ (s.withGates x).calendar = s.calendar ∧ (s.withGates x).lanes = s.lanes
    ∧ (s.withGates x).lifts = s.lifts ∧ (s.withGates x).scheme = s.scheme ∧ (s.withGates x).counts = s.counts
    ∧ (s.withGates x).tariff = s.tariff ∧ (s.withGates x).arbiter = s.arbiter ∧ (s.withGates x).sweep = s.sweep
    ∧ (s.withGates x).orderIndex = s.orderIndex :=
  ⟨rfl, rfl, rfl, rfl, rfl, rfl, rfl, rfl, rfl, rfl, rfl, rfl, rfl, rfl, rfl, rfl, rfl, rfl, rfl⟩

@[simp] theorem State.withOffice_fields (s : State) (x : PortRec) :
    (s.withOffice x).office = x ∧ (s.withOffice x).pending = s.pending ∧ (s.withOffice x).pins = s.pins
    ∧ (s.withOffice x).gates = s.gates ∧ (s.withOffice x).slots = s.slots ∧ (s.withOffice x).freeSlots = s.freeSlots
    ∧ (s.withOffice x).products = s.products ∧ (s.withOffice x).resort = s.resort
    ∧ (s.withOffice x).history = s.history ∧ (s.withOffice x).clock = s.clock ∧ (s.withOffice x).calendar = s.calendar
    ∧ (s.withOffice x).lanes = s.lanes ∧ (s.withOffice x).lifts = s.lifts ∧ (s.withOffice x).scheme = s.scheme
    ∧ (s.withOffice x).counts = s.counts ∧ (s.withOffice x).tariff = s.tariff ∧ (s.withOffice x).arbiter = s.arbiter
    ∧ (s.withOffice x).sweep = s.sweep ∧ (s.withOffice x).orderIndex = s.orderIndex :=
  ⟨rfl, rfl, rfl, rfl, rfl, rfl, rfl, rfl, rfl, rfl, rfl, rfl, rfl, rfl, rfl, rfl, rfl, rfl, rfl⟩

@[simp] theorem State.withSlots_fields (s : State) (x : List (Nat × Entry)) :
    (s.withSlots x).slots = x ∧ (s.withSlots x).pending = s.pending ∧ (s.withSlots x).pins = s.pins
    ∧ (s.withSlots x).gates = s.gates ∧ (s.withSlots x).office = s.office ∧ (s.withSlots x).freeSlots = s.freeSlots
    ∧ (s.withSlots x).products = s.products ∧ (s.withSlots x).resort = s.resort ∧ (s.withSlots x).history = s.history
    ∧ (s.withSlots x).clock = s.clock ∧ (s.withSlots x).calendar = s.calendar ∧ (s.withSlots x).lanes = s.lanes
    ∧ (s.withSlots x).lifts = s.lifts ∧ (s.withSlots x).scheme = s.scheme ∧ (s.withSlots x).counts = s.counts
    ∧ (s.withSlots x).tariff = s.tariff ∧ (s.withSlots x).arbiter = s.arbiter ∧ (s.withSlots x).sweep = s.sweep
    ∧ (s.withSlots x).orderIndex = s.orderIndex :=
  ⟨rfl, rfl, rfl, rfl, rfl, rfl, rfl, rfl, rfl, rfl, rfl, rfl, rfl, rfl, rfl, rfl, rfl, rfl, rfl⟩

@[simp] theorem State.withFreeSlots_fields (s : State) (x : Nat) :
    (s.withFreeSlots x).freeSlots = x ∧ (s.withFreeSlots x).pending = s.pending ∧ (s.withFreeSlots x).pins = s.pins
    ∧ (s.withFreeSlots x).gates = s.gates ∧ (s.withFreeSlots x).office = s.office
    ∧ (s.withFreeSlots x).slots = s.slots ∧ (s.withFreeSlots x).products = s.products
    ∧ (s.withFreeSlots x).resort = s.resort ∧ (s.withFreeSlots x).history = s.history
    ∧ (s.withFreeSlots x).clock = s.clock ∧ (s.withFreeSlots x).calendar = s.calendar
    ∧ (s.withFreeSlots x).lanes = s.lanes ∧ (s.withFreeSlots x).lifts = s.lifts
    ∧ (s.withFreeSlots x).scheme = s.scheme ∧ (s.withFreeSlots x).counts = s.counts
    ∧ (s.withFreeSlots x).tariff = s.tariff ∧ (s.withFreeSlots x).arbiter = s.arbiter
    ∧ (s.withFreeSlots x).sweep = s.sweep ∧ (s.withFreeSlots x).orderIndex = s.orderIndex :=
  ⟨rfl, rfl, rfl, rfl, rfl, rfl, rfl, rfl, rfl, rfl, rfl, rfl, rfl, rfl, rfl, rfl, rfl, rfl, rfl⟩

@[simp] theorem State.withProducts_fields (s : State) (x : Vector Product 64) :
    (s.withProducts x).products = x ∧ (s.withProducts x).pending = s.pending ∧ (s.withProducts x).pins = s.pins
    ∧ (s.withProducts x).gates = s.gates ∧ (s.withProducts x).office = s.office ∧ (s.withProducts x).slots = s.slots
    ∧ (s.withProducts x).freeSlots = s.freeSlots ∧ (s.withProducts x).resort = s.resort
    ∧ (s.withProducts x).history = s.history ∧ (s.withProducts x).clock = s.clock
    ∧ (s.withProducts x).calendar = s.calendar ∧ (s.withProducts x).lanes = s.lanes
    ∧ (s.withProducts x).lifts = s.lifts ∧ (s.withProducts x).scheme = s.scheme ∧ (s.withProducts x).counts = s.counts
    ∧ (s.withProducts x).tariff = s.tariff ∧ (s.withProducts x).arbiter = s.arbiter
    ∧ (s.withProducts x).sweep = s.sweep ∧ (s.withProducts x).orderIndex = s.orderIndex :=
  ⟨rfl, rfl, rfl, rfl, rfl, rfl, rfl, rfl, rfl, rfl, rfl, rfl, rfl, rfl, rfl, rfl, rfl, rfl, rfl⟩

@[simp] theorem State.withResort_fields (s : State) (x : Nat) :
    (s.withResort x).resort = x ∧ (s.withResort x).pending = s.pending ∧ (s.withResort x).pins = s.pins
    ∧ (s.withResort x).gates = s.gates ∧ (s.withResort x).office = s.office ∧ (s.withResort x).slots = s.slots
    ∧ (s.withResort x).freeSlots = s.freeSlots ∧ (s.withResort x).products = s.products
    ∧ (s.withResort x).history = s.history ∧ (s.withResort x).clock = s.clock ∧ (s.withResort x).calendar = s.calendar
    ∧ (s.withResort x).lanes = s.lanes ∧ (s.withResort x).lifts = s.lifts ∧ (s.withResort x).scheme = s.scheme
    ∧ (s.withResort x).counts = s.counts ∧ (s.withResort x).tariff = s.tariff ∧ (s.withResort x).arbiter = s.arbiter
    ∧ (s.withResort x).sweep = s.sweep ∧ (s.withResort x).orderIndex = s.orderIndex :=
  ⟨rfl, rfl, rfl, rfl, rfl, rfl, rfl, rfl, rfl, rfl, rfl, rfl, rfl, rfl, rfl, rfl, rfl, rfl, rfl⟩

@[simp] theorem State.withHistory_fields (s : State) (x : History) :
    (s.withHistory x).history = x ∧ (s.withHistory x).pending = s.pending ∧ (s.withHistory x).pins = s.pins
    ∧ (s.withHistory x).gates = s.gates ∧ (s.withHistory x).office = s.office ∧ (s.withHistory x).slots = s.slots
    ∧ (s.withHistory x).freeSlots = s.freeSlots ∧ (s.withHistory x).products = s.products
    ∧ (s.withHistory x).resort = s.resort ∧ (s.withHistory x).clock = s.clock
    ∧ (s.withHistory x).calendar = s.calendar ∧ (s.withHistory x).lanes = s.lanes ∧ (s.withHistory x).lifts = s.lifts
    ∧ (s.withHistory x).scheme = s.scheme ∧ (s.withHistory x).counts = s.counts ∧ (s.withHistory x).tariff = s.tariff
    ∧ (s.withHistory x).arbiter = s.arbiter ∧ (s.withHistory x).sweep = s.sweep
    ∧ (s.withHistory x).orderIndex = s.orderIndex :=
  ⟨rfl, rfl, rfl, rfl, rfl, rfl, rfl, rfl, rfl, rfl, rfl, rfl, rfl, rfl, rfl, rfl, rfl, rfl, rfl⟩

@[simp] theorem State.withClock_fields (s : State) (x : Clock) :
    (s.withClock x).clock = x ∧ (s.withClock x).pending = s.pending ∧ (s.withClock x).pins = s.pins
    ∧ (s.withClock x).gates = s.gates ∧ (s.withClock x).office = s.office ∧ (s.withClock x).slots = s.slots
    ∧ (s.withClock x).freeSlots = s.freeSlots ∧ (s.withClock x).products = s.products
    ∧ (s.withClock x).resort = s.resort ∧ (s.withClock x).history = s.history ∧ (s.withClock x).calendar = s.calendar
    ∧ (s.withClock x).lanes = s.lanes ∧ (s.withClock x).lifts = s.lifts ∧ (s.withClock x).scheme = s.scheme
    ∧ (s.withClock x).counts = s.counts ∧ (s.withClock x).tariff = s.tariff ∧ (s.withClock x).arbiter = s.arbiter
    ∧ (s.withClock x).sweep = s.sweep ∧ (s.withClock x).orderIndex = s.orderIndex :=
  ⟨rfl, rfl, rfl, rfl, rfl, rfl, rfl, rfl, rfl, rfl, rfl, rfl, rfl, rfl, rfl, rfl, rfl, rfl, rfl⟩

@[simp] theorem State.withCalendar_fields (s : State) (x : Calendar) :
    (s.withCalendar x).calendar = x ∧ (s.withCalendar x).pending = s.pending ∧ (s.withCalendar x).pins = s.pins
    ∧ (s.withCalendar x).gates = s.gates ∧ (s.withCalendar x).office = s.office ∧ (s.withCalendar x).slots = s.slots
    ∧ (s.withCalendar x).freeSlots = s.freeSlots ∧ (s.withCalendar x).products = s.products
    ∧ (s.withCalendar x).resort = s.resort ∧ (s.withCalendar x).history = s.history
    ∧ (s.withCalendar x).clock = s.clock ∧ (s.withCalendar x).lanes = s.lanes ∧ (s.withCalendar x).lifts = s.lifts
    ∧ (s.withCalendar x).scheme = s.scheme ∧ (s.withCalendar x).counts = s.counts
    ∧ (s.withCalendar x).tariff = s.tariff ∧ (s.withCalendar x).arbiter = s.arbiter
    ∧ (s.withCalendar x).sweep = s.sweep ∧ (s.withCalendar x).orderIndex = s.orderIndex :=
  ⟨rfl, rfl, rfl, rfl, rfl, rfl, rfl, rfl, rfl, rfl, rfl, rfl, rfl, rfl, rfl, rfl, rfl, rfl, rfl⟩

@[simp] theorem State.withLanes_fields (s : State) (x : Vector LaneRec 8) :
    (s.withLanes x).lanes = x ∧ (s.withLanes x).pending = s.pending ∧ (s.withLanes x).pins = s.pins
    ∧ (s.withLanes x).gates = s.gates ∧ (s.withLanes x).office = s.office ∧ (s.withLanes x).slots = s.slots
    ∧ (s.withLanes x).freeSlots = s.freeSlots ∧ (s.withLanes x).products = s.products
    ∧ (s.withLanes x).resort = s.resort ∧ (s.withLanes x).history = s.history ∧ (s.withLanes x).clock = s.clock
    ∧ (s.withLanes x).calendar = s.calendar ∧ (s.withLanes x).lifts = s.lifts ∧ (s.withLanes x).scheme = s.scheme
    ∧ (s.withLanes x).counts = s.counts ∧ (s.withLanes x).tariff = s.tariff ∧ (s.withLanes x).arbiter = s.arbiter
    ∧ (s.withLanes x).sweep = s.sweep ∧ (s.withLanes x).orderIndex = s.orderIndex :=
  ⟨rfl, rfl, rfl, rfl, rfl, rfl, rfl, rfl, rfl, rfl, rfl, rfl, rfl, rfl, rfl, rfl, rfl, rfl, rfl⟩

@[simp] theorem State.withLifts_fields (s : State) (x : Vector LiftRec 4) :
    (s.withLifts x).lifts = x ∧ (s.withLifts x).pending = s.pending ∧ (s.withLifts x).pins = s.pins
    ∧ (s.withLifts x).gates = s.gates ∧ (s.withLifts x).office = s.office ∧ (s.withLifts x).slots = s.slots
    ∧ (s.withLifts x).freeSlots = s.freeSlots ∧ (s.withLifts x).products = s.products
    ∧ (s.withLifts x).resort = s.resort ∧ (s.withLifts x).history = s.history ∧ (s.withLifts x).clock = s.clock
    ∧ (s.withLifts x).calendar = s.calendar ∧ (s.withLifts x).lanes = s.lanes ∧ (s.withLifts x).scheme = s.scheme
    ∧ (s.withLifts x).counts = s.counts ∧ (s.withLifts x).tariff = s.tariff ∧ (s.withLifts x).arbiter = s.arbiter
    ∧ (s.withLifts x).sweep = s.sweep ∧ (s.withLifts x).orderIndex = s.orderIndex :=
  ⟨rfl, rfl, rfl, rfl, rfl, rfl, rfl, rfl, rfl, rfl, rfl, rfl, rfl, rfl, rfl, rfl, rfl, rfl, rfl⟩

@[simp] theorem State.withScheme_fields (s : State) (x : Scheme) :
    (s.withScheme x).scheme = x ∧ (s.withScheme x).pending = s.pending ∧ (s.withScheme x).pins = s.pins
    ∧ (s.withScheme x).gates = s.gates ∧ (s.withScheme x).office = s.office ∧ (s.withScheme x).slots = s.slots
    ∧ (s.withScheme x).freeSlots = s.freeSlots ∧ (s.withScheme x).products = s.products
    ∧ (s.withScheme x).resort = s.resort ∧ (s.withScheme x).history = s.history ∧ (s.withScheme x).clock = s.clock
    ∧ (s.withScheme x).calendar = s.calendar ∧ (s.withScheme x).lanes = s.lanes ∧ (s.withScheme x).lifts = s.lifts
    ∧ (s.withScheme x).counts = s.counts ∧ (s.withScheme x).tariff = s.tariff ∧ (s.withScheme x).arbiter = s.arbiter
    ∧ (s.withScheme x).sweep = s.sweep ∧ (s.withScheme x).orderIndex = s.orderIndex :=
  ⟨rfl, rfl, rfl, rfl, rfl, rfl, rfl, rfl, rfl, rfl, rfl, rfl, rfl, rfl, rfl, rfl, rfl, rfl, rfl⟩

@[simp] theorem State.withCounts_fields (s : State) (x : CountUnit) :
    (s.withCounts x).counts = x ∧ (s.withCounts x).pending = s.pending ∧ (s.withCounts x).pins = s.pins
    ∧ (s.withCounts x).gates = s.gates ∧ (s.withCounts x).office = s.office ∧ (s.withCounts x).slots = s.slots
    ∧ (s.withCounts x).freeSlots = s.freeSlots ∧ (s.withCounts x).products = s.products
    ∧ (s.withCounts x).resort = s.resort ∧ (s.withCounts x).history = s.history ∧ (s.withCounts x).clock = s.clock
    ∧ (s.withCounts x).calendar = s.calendar ∧ (s.withCounts x).lanes = s.lanes ∧ (s.withCounts x).lifts = s.lifts
    ∧ (s.withCounts x).scheme = s.scheme ∧ (s.withCounts x).tariff = s.tariff ∧ (s.withCounts x).arbiter = s.arbiter
    ∧ (s.withCounts x).sweep = s.sweep ∧ (s.withCounts x).orderIndex = s.orderIndex :=
  ⟨rfl, rfl, rfl, rfl, rfl, rfl, rfl, rfl, rfl, rfl, rfl, rfl, rfl, rfl, rfl, rfl, rfl, rfl, rfl⟩

@[simp] theorem State.withTariff_fields (s : State) (x : Vector (Vector Nat 4) 8) :
    (s.withTariff x).tariff = x ∧ (s.withTariff x).pending = s.pending ∧ (s.withTariff x).pins = s.pins
    ∧ (s.withTariff x).gates = s.gates ∧ (s.withTariff x).office = s.office ∧ (s.withTariff x).slots = s.slots
    ∧ (s.withTariff x).freeSlots = s.freeSlots ∧ (s.withTariff x).products = s.products
    ∧ (s.withTariff x).resort = s.resort ∧ (s.withTariff x).history = s.history ∧ (s.withTariff x).clock = s.clock
    ∧ (s.withTariff x).calendar = s.calendar ∧ (s.withTariff x).lanes = s.lanes ∧ (s.withTariff x).lifts = s.lifts
    ∧ (s.withTariff x).scheme = s.scheme ∧ (s.withTariff x).counts = s.counts ∧ (s.withTariff x).arbiter = s.arbiter
    ∧ (s.withTariff x).sweep = s.sweep ∧ (s.withTariff x).orderIndex = s.orderIndex :=
  ⟨rfl, rfl, rfl, rfl, rfl, rfl, rfl, rfl, rfl, rfl, rfl, rfl, rfl, rfl, rfl, rfl, rfl, rfl, rfl⟩

@[simp] theorem State.withArbiter_fields (s : State) (x : Arbiter) :
    (s.withArbiter x).arbiter = x ∧ (s.withArbiter x).pending = s.pending ∧ (s.withArbiter x).pins = s.pins
    ∧ (s.withArbiter x).gates = s.gates ∧ (s.withArbiter x).office = s.office ∧ (s.withArbiter x).slots = s.slots
    ∧ (s.withArbiter x).freeSlots = s.freeSlots ∧ (s.withArbiter x).products = s.products
    ∧ (s.withArbiter x).resort = s.resort ∧ (s.withArbiter x).history = s.history ∧ (s.withArbiter x).clock = s.clock
    ∧ (s.withArbiter x).calendar = s.calendar ∧ (s.withArbiter x).lanes = s.lanes ∧ (s.withArbiter x).lifts = s.lifts
    ∧ (s.withArbiter x).scheme = s.scheme ∧ (s.withArbiter x).counts = s.counts ∧ (s.withArbiter x).tariff = s.tariff
    ∧ (s.withArbiter x).sweep = s.sweep ∧ (s.withArbiter x).orderIndex = s.orderIndex :=
  ⟨rfl, rfl, rfl, rfl, rfl, rfl, rfl, rfl, rfl, rfl, rfl, rfl, rfl, rfl, rfl, rfl, rfl, rfl, rfl⟩

@[simp] theorem State.withSweep_fields (s : State) (x : Sweep) :
    (s.withSweep x).sweep = x ∧ (s.withSweep x).pending = s.pending ∧ (s.withSweep x).pins = s.pins
    ∧ (s.withSweep x).gates = s.gates ∧ (s.withSweep x).office = s.office ∧ (s.withSweep x).slots = s.slots
    ∧ (s.withSweep x).freeSlots = s.freeSlots ∧ (s.withSweep x).products = s.products
    ∧ (s.withSweep x).resort = s.resort ∧ (s.withSweep x).history = s.history ∧ (s.withSweep x).clock = s.clock
    ∧ (s.withSweep x).calendar = s.calendar ∧ (s.withSweep x).lanes = s.lanes ∧ (s.withSweep x).lifts = s.lifts
    ∧ (s.withSweep x).scheme = s.scheme ∧ (s.withSweep x).counts = s.counts ∧ (s.withSweep x).tariff = s.tariff
    ∧ (s.withSweep x).arbiter = s.arbiter ∧ (s.withSweep x).orderIndex = s.orderIndex :=
  ⟨rfl, rfl, rfl, rfl, rfl, rfl, rfl, rfl, rfl, rfl, rfl, rfl, rfl, rfl, rfl, rfl, rfl, rfl, rfl⟩

@[simp] theorem State.withOrderIndex_fields (s : State) (x : Nat) :
    (s.withOrderIndex x).orderIndex = x ∧ (s.withOrderIndex x).pending = s.pending
    ∧ (s.withOrderIndex x).pins = s.pins ∧ (s.withOrderIndex x).gates = s.gates
    ∧ (s.withOrderIndex x).office = s.office ∧ (s.withOrderIndex x).slots = s.slots
    ∧ (s.withOrderIndex x).freeSlots = s.freeSlots ∧ (s.withOrderIndex x).products = s.products
    ∧ (s.withOrderIndex x).resort = s.resort ∧ (s.withOrderIndex x).history = s.history
    ∧ (s.withOrderIndex x).clock = s.clock ∧ (s.withOrderIndex x).calendar = s.calendar
    ∧ (s.withOrderIndex x).lanes = s.lanes ∧ (s.withOrderIndex x).lifts = s.lifts
    ∧ (s.withOrderIndex x).scheme = s.scheme ∧ (s.withOrderIndex x).counts = s.counts
    ∧ (s.withOrderIndex x).tariff = s.tariff ∧ (s.withOrderIndex x).arbiter = s.arbiter
    ∧ (s.withOrderIndex x).sweep = s.sweep :=
  ⟨rfl, rfl, rfl, rfl, rfl, rfl, rfl, rfl, rfl, rfl, rfl, rfl, rfl, rfl, rfl, rfl, rfl, rfl, rfl⟩

/-! ### Accessors after an update of their field -/

@[simp] theorem State.withLanes_lane (s : State) (x : Vector LaneRec 8) (l : Lane) : (s.withLanes x).lane l = x[l] := rfl
@[simp] theorem State.withLifts_lift (s : State) (x : Vector LiftRec 4) (f : Lift) : (s.withLifts x).lift f = x[f] := rfl
@[simp] theorem State.withSlots_entryAt (s : State) (x : List (Nat × Entry)) (n : Nat) :
    (s.withSlots x).entryAt n = Table.get x n := rfl
@[simp] theorem State.withProducts_product (s : State) (x : Vector Product 64) (c : Fin 64) :
    (s.withProducts x).product c = x[c] := rfl
@[simp] theorem State.withScheme_liftOf (s : State) (x : Scheme) (l : Lane) : (s.withScheme x).liftOf l = x.liftOf l := rfl
@[simp] theorem State.withGates_port (s : State) (x : Vector PortRec 4) (k : Fin 4) :
    (s.withGates x).port (.gate k) = x[k] := rfl
@[simp] theorem State.withGates_office_port (s : State) (x : Vector PortRec 4) :
    (s.withGates x).port .office = s.port .office := rfl
@[simp] theorem State.withOffice_port (s : State) (x : PortRec) : (s.withOffice x).port .office = x := rfl
@[simp] theorem State.withOffice_gate_port (s : State) (x : PortRec) (k : Fin 4) :
    (s.withOffice x).port (.gate k) = s.port (.gate k) := rfl

/-! ### Accessors after an update of another field -/

@[simp] theorem State.withPending_accessors (s : State) (x : List Instr) :
    (∀ l, (s.withPending x).lane l = s.lane l) ∧ (∀ f, (s.withPending x).lift f = s.lift f)
    ∧ (∀ p, (s.withPending x).port p = s.port p) ∧ (∀ n, (s.withPending x).entryAt n = s.entryAt n)
    ∧ (∀ c, (s.withPending x).product c = s.product c) ∧ (∀ l, (s.withPending x).liftOf l = s.liftOf l) :=
  ⟨fun _ => rfl, fun _ => rfl, fun p => by cases p <;> rfl, fun _ => rfl, fun _ => rfl, fun _ => rfl⟩

@[simp] theorem State.withPins_accessors (s : State) (x : Pins) :
    (∀ l, (s.withPins x).lane l = s.lane l) ∧ (∀ f, (s.withPins x).lift f = s.lift f)
    ∧ (∀ p, (s.withPins x).port p = s.port p) ∧ (∀ n, (s.withPins x).entryAt n = s.entryAt n)
    ∧ (∀ c, (s.withPins x).product c = s.product c) ∧ (∀ l, (s.withPins x).liftOf l = s.liftOf l) :=
  ⟨fun _ => rfl, fun _ => rfl, fun p => by cases p <;> rfl, fun _ => rfl, fun _ => rfl, fun _ => rfl⟩

@[simp] theorem State.withGates_accessors (s : State) (x : Vector PortRec 4) :
    (∀ l, (s.withGates x).lane l = s.lane l) ∧ (∀ f, (s.withGates x).lift f = s.lift f)
    ∧ (∀ n, (s.withGates x).entryAt n = s.entryAt n) ∧ (∀ c, (s.withGates x).product c = s.product c)
    ∧ (∀ l, (s.withGates x).liftOf l = s.liftOf l) :=
  ⟨fun _ => rfl, fun _ => rfl, fun _ => rfl, fun _ => rfl, fun _ => rfl⟩

@[simp] theorem State.withOffice_accessors (s : State) (x : PortRec) :
    (∀ l, (s.withOffice x).lane l = s.lane l) ∧ (∀ f, (s.withOffice x).lift f = s.lift f)
    ∧ (∀ n, (s.withOffice x).entryAt n = s.entryAt n) ∧ (∀ c, (s.withOffice x).product c = s.product c)
    ∧ (∀ l, (s.withOffice x).liftOf l = s.liftOf l) :=
  ⟨fun _ => rfl, fun _ => rfl, fun _ => rfl, fun _ => rfl, fun _ => rfl⟩

@[simp] theorem State.withSlots_accessors (s : State) (x : List (Nat × Entry)) :
    (∀ l, (s.withSlots x).lane l = s.lane l) ∧ (∀ f, (s.withSlots x).lift f = s.lift f)
    ∧ (∀ p, (s.withSlots x).port p = s.port p) ∧ (∀ c, (s.withSlots x).product c = s.product c)
    ∧ (∀ l, (s.withSlots x).liftOf l = s.liftOf l) :=
  ⟨fun _ => rfl, fun _ => rfl, fun p => by cases p <;> rfl, fun _ => rfl, fun _ => rfl⟩

@[simp] theorem State.withFreeSlots_accessors (s : State) (x : Nat) :
    (∀ l, (s.withFreeSlots x).lane l = s.lane l) ∧ (∀ f, (s.withFreeSlots x).lift f = s.lift f)
    ∧ (∀ p, (s.withFreeSlots x).port p = s.port p) ∧ (∀ n, (s.withFreeSlots x).entryAt n = s.entryAt n)
    ∧ (∀ c, (s.withFreeSlots x).product c = s.product c) ∧ (∀ l, (s.withFreeSlots x).liftOf l = s.liftOf l) :=
  ⟨fun _ => rfl, fun _ => rfl, fun p => by cases p <;> rfl, fun _ => rfl, fun _ => rfl, fun _ => rfl⟩

@[simp] theorem State.withProducts_accessors (s : State) (x : Vector Product 64) :
    (∀ l, (s.withProducts x).lane l = s.lane l) ∧ (∀ f, (s.withProducts x).lift f = s.lift f)
    ∧ (∀ p, (s.withProducts x).port p = s.port p) ∧ (∀ n, (s.withProducts x).entryAt n = s.entryAt n)
    ∧ (∀ l, (s.withProducts x).liftOf l = s.liftOf l) :=
  ⟨fun _ => rfl, fun _ => rfl, fun p => by cases p <;> rfl, fun _ => rfl, fun _ => rfl⟩

@[simp] theorem State.withResort_accessors (s : State) (x : Nat) :
    (∀ l, (s.withResort x).lane l = s.lane l) ∧ (∀ f, (s.withResort x).lift f = s.lift f)
    ∧ (∀ p, (s.withResort x).port p = s.port p) ∧ (∀ n, (s.withResort x).entryAt n = s.entryAt n)
    ∧ (∀ c, (s.withResort x).product c = s.product c) ∧ (∀ l, (s.withResort x).liftOf l = s.liftOf l) :=
  ⟨fun _ => rfl, fun _ => rfl, fun p => by cases p <;> rfl, fun _ => rfl, fun _ => rfl, fun _ => rfl⟩

@[simp] theorem State.withHistory_accessors (s : State) (x : History) :
    (∀ l, (s.withHistory x).lane l = s.lane l) ∧ (∀ f, (s.withHistory x).lift f = s.lift f)
    ∧ (∀ p, (s.withHistory x).port p = s.port p) ∧ (∀ n, (s.withHistory x).entryAt n = s.entryAt n)
    ∧ (∀ c, (s.withHistory x).product c = s.product c) ∧ (∀ l, (s.withHistory x).liftOf l = s.liftOf l) :=
  ⟨fun _ => rfl, fun _ => rfl, fun p => by cases p <;> rfl, fun _ => rfl, fun _ => rfl, fun _ => rfl⟩

@[simp] theorem State.withClock_accessors (s : State) (x : Clock) :
    (∀ l, (s.withClock x).lane l = s.lane l) ∧ (∀ f, (s.withClock x).lift f = s.lift f)
    ∧ (∀ p, (s.withClock x).port p = s.port p) ∧ (∀ n, (s.withClock x).entryAt n = s.entryAt n)
    ∧ (∀ c, (s.withClock x).product c = s.product c) ∧ (∀ l, (s.withClock x).liftOf l = s.liftOf l) :=
  ⟨fun _ => rfl, fun _ => rfl, fun p => by cases p <;> rfl, fun _ => rfl, fun _ => rfl, fun _ => rfl⟩

@[simp] theorem State.withCalendar_accessors (s : State) (x : Calendar) :
    (∀ l, (s.withCalendar x).lane l = s.lane l) ∧ (∀ f, (s.withCalendar x).lift f = s.lift f)
    ∧ (∀ p, (s.withCalendar x).port p = s.port p) ∧ (∀ n, (s.withCalendar x).entryAt n = s.entryAt n)
    ∧ (∀ c, (s.withCalendar x).product c = s.product c) ∧ (∀ l, (s.withCalendar x).liftOf l = s.liftOf l) :=
  ⟨fun _ => rfl, fun _ => rfl, fun p => by cases p <;> rfl, fun _ => rfl, fun _ => rfl, fun _ => rfl⟩

@[simp] theorem State.withLanes_accessors (s : State) (x : Vector LaneRec 8) :
    (∀ f, (s.withLanes x).lift f = s.lift f) ∧ (∀ p, (s.withLanes x).port p = s.port p)
    ∧ (∀ n, (s.withLanes x).entryAt n = s.entryAt n) ∧ (∀ c, (s.withLanes x).product c = s.product c)
    ∧ (∀ l, (s.withLanes x).liftOf l = s.liftOf l) :=
  ⟨fun _ => rfl, fun p => by cases p <;> rfl, fun _ => rfl, fun _ => rfl, fun _ => rfl⟩

@[simp] theorem State.withLifts_accessors (s : State) (x : Vector LiftRec 4) :
    (∀ l, (s.withLifts x).lane l = s.lane l) ∧ (∀ p, (s.withLifts x).port p = s.port p)
    ∧ (∀ n, (s.withLifts x).entryAt n = s.entryAt n) ∧ (∀ c, (s.withLifts x).product c = s.product c)
    ∧ (∀ l, (s.withLifts x).liftOf l = s.liftOf l) :=
  ⟨fun _ => rfl, fun p => by cases p <;> rfl, fun _ => rfl, fun _ => rfl, fun _ => rfl⟩

@[simp] theorem State.withScheme_accessors (s : State) (x : Scheme) :
    (∀ l, (s.withScheme x).lane l = s.lane l) ∧ (∀ f, (s.withScheme x).lift f = s.lift f)
    ∧ (∀ p, (s.withScheme x).port p = s.port p) ∧ (∀ n, (s.withScheme x).entryAt n = s.entryAt n)
    ∧ (∀ c, (s.withScheme x).product c = s.product c) :=
  ⟨fun _ => rfl, fun _ => rfl, fun p => by cases p <;> rfl, fun _ => rfl, fun _ => rfl⟩

@[simp] theorem State.withCounts_accessors (s : State) (x : CountUnit) :
    (∀ l, (s.withCounts x).lane l = s.lane l) ∧ (∀ f, (s.withCounts x).lift f = s.lift f)
    ∧ (∀ p, (s.withCounts x).port p = s.port p) ∧ (∀ n, (s.withCounts x).entryAt n = s.entryAt n)
    ∧ (∀ c, (s.withCounts x).product c = s.product c) ∧ (∀ l, (s.withCounts x).liftOf l = s.liftOf l) :=
  ⟨fun _ => rfl, fun _ => rfl, fun p => by cases p <;> rfl, fun _ => rfl, fun _ => rfl, fun _ => rfl⟩

@[simp] theorem State.withTariff_accessors (s : State) (x : Vector (Vector Nat 4) 8) :
    (∀ l, (s.withTariff x).lane l = s.lane l) ∧ (∀ f, (s.withTariff x).lift f = s.lift f)
    ∧ (∀ p, (s.withTariff x).port p = s.port p) ∧ (∀ n, (s.withTariff x).entryAt n = s.entryAt n)
    ∧ (∀ c, (s.withTariff x).product c = s.product c) ∧ (∀ l, (s.withTariff x).liftOf l = s.liftOf l) :=
  ⟨fun _ => rfl, fun _ => rfl, fun p => by cases p <;> rfl, fun _ => rfl, fun _ => rfl, fun _ => rfl⟩

@[simp] theorem State.withArbiter_accessors (s : State) (x : Arbiter) :
    (∀ l, (s.withArbiter x).lane l = s.lane l) ∧ (∀ f, (s.withArbiter x).lift f = s.lift f)
    ∧ (∀ p, (s.withArbiter x).port p = s.port p) ∧ (∀ n, (s.withArbiter x).entryAt n = s.entryAt n)
    ∧ (∀ c, (s.withArbiter x).product c = s.product c) ∧ (∀ l, (s.withArbiter x).liftOf l = s.liftOf l) :=
  ⟨fun _ => rfl, fun _ => rfl, fun p => by cases p <;> rfl, fun _ => rfl, fun _ => rfl, fun _ => rfl⟩

@[simp] theorem State.withSweep_accessors (s : State) (x : Sweep) :
    (∀ l, (s.withSweep x).lane l = s.lane l) ∧ (∀ f, (s.withSweep x).lift f = s.lift f)
    ∧ (∀ p, (s.withSweep x).port p = s.port p) ∧ (∀ n, (s.withSweep x).entryAt n = s.entryAt n)
    ∧ (∀ c, (s.withSweep x).product c = s.product c) ∧ (∀ l, (s.withSweep x).liftOf l = s.liftOf l) :=
  ⟨fun _ => rfl, fun _ => rfl, fun p => by cases p <;> rfl, fun _ => rfl, fun _ => rfl, fun _ => rfl⟩

@[simp] theorem State.withOrderIndex_accessors (s : State) (x : Nat) :
    (∀ l, (s.withOrderIndex x).lane l = s.lane l) ∧ (∀ f, (s.withOrderIndex x).lift f = s.lift f)
    ∧ (∀ p, (s.withOrderIndex x).port p = s.port p) ∧ (∀ n, (s.withOrderIndex x).entryAt n = s.entryAt n)
    ∧ (∀ c, (s.withOrderIndex x).product c = s.product c) ∧ (∀ l, (s.withOrderIndex x).liftOf l = s.liftOf l) :=
  ⟨fun _ => rfl, fun _ => rfl, fun p => by cases p <;> rfl, fun _ => rfl, fun _ => rfl, fun _ => rfl⟩

/-! ### Ports, lanes, lifts and entries -/

@[simp] theorem State.setLane_lane (s : State) (l m : Lane) (r : LaneRec) :
    (s.setLane l r).lane m = if m = l then r else s.lane m := by
  show (s.lanes.set l.val r)[m.val] = _
  simp only [Vector.getElem_set, State.lane, Fin.getElem_fin, Fin.ext_iff, eq_comm (a := m.val)]

@[simp] theorem State.setLift_lift (s : State) (f g : Lift) (r : LiftRec) :
    (s.setLift f r).lift g = if g = f then r else s.lift g := by
  show (s.lifts.set f.val r)[g.val] = _
  simp only [Vector.getElem_set, State.lift, Fin.getElem_fin, Fin.ext_iff, eq_comm (a := g.val)]

@[simp] theorem State.setPort_port (s : State) (p q : Port) (r : PortRec) :
    (s.setPort p r).port q = if q = p then r else s.port q := by
  rcases p with k | _ <;> rcases q with j | _
  · show (s.gates.set k.val r)[j.val] = _
    simp only [Vector.getElem_set, State.port, Fin.getElem_fin, Port.gate.injEq, Fin.ext_iff, eq_comm (a := j.val)]
  all_goals simp [State.setPort]

@[simp] theorem State.modLane_lane (s : State) (l m : Lane) (f : LaneRec → LaneRec) :
    (s.modLane l f).lane m = if m = l then f (s.lane l) else s.lane m := by simp [State.modLane]

@[simp] theorem State.modPort_port (s : State) (p q : Port) (f : PortRec → PortRec) :
    (s.modPort p f).port q = if q = p then f (s.port p) else s.port q := by simp [State.modPort]

end Sys2Proof.Machine
end

