-- ==== Sys2Proof/Laws/Frames.lean ====
section
/-! SUPPORT. The frame of every shared operation: the parts of the state that it leaves alone, with the accessors of those parts, as
one conjunction for each operation; `simp` uses each of its clauses. -/

namespace Sys2Proof.Machine

/-- What every step of a fold leaves alone, the fold leaves alone. -/
theorem foldl_keeps {α β γ : Type} (g : β → γ) (f : β → α → β) (h : ∀ b a, g (f b a) = g b) (l : List α) (b : β) :
    g (l.foldl f b) = g b := by
  induction l generalizing b with
  | nil => rfl
  | cons a l ih => rw [List.foldl_cons, ih, h]

/-! ### Writes of one port, lane, lift or entry -/

@[simp] theorem State.setLane_frame (s : State) (l : Lane) (r : LaneRec) :
    (s.setLane l r).pending = s.pending ∧ (s.setLane l r).pins = s.pins ∧ (s.setLane l r).gates = s.gates
    ∧ (s.setLane l r).office = s.office ∧ (s.setLane l r).slots = s.slots ∧ (s.setLane l r).freeSlots = s.freeSlots
    ∧ (s.setLane l r).products = s.products ∧ (s.setLane l r).resort = s.resort ∧ (s.setLane l r).history = s.history
    ∧ (s.setLane l r).clock = s.clock ∧ (s.setLane l r).calendar = s.calendar ∧ (s.setLane l r).lifts = s.lifts
    ∧ (s.setLane l r).scheme = s.scheme ∧ (s.setLane l r).counts = s.counts ∧ (s.setLane l r).tariff = s.tariff
    ∧ (s.setLane l r).arbiter = s.arbiter ∧ (s.setLane l r).sweep = s.sweep
    ∧ (s.setLane l r).orderIndex = s.orderIndex ∧ (∀ z, (s.setLane l r).lift z = s.lift z)
    ∧ (∀ z, (s.setLane l r).port z = s.port z) ∧ (∀ z, (s.setLane l r).entryAt z = s.entryAt z)
    ∧ (∀ z, (s.setLane l r).product z = s.product z) ∧ (∀ z, (s.setLane l r).liftOf z = s.liftOf z) := by
  simp [State.setLane]

@[simp] theorem State.modLane_frame (s : State) (l : Lane) (f : LaneRec → LaneRec) :
    (s.modLane l f).pending = s.pending ∧ (s.modLane l f).pins = s.pins ∧ (s.modLane l f).gates = s.gates
    ∧ (s.modLane l f).office = s.office ∧ (s.modLane l f).slots = s.slots ∧ (s.modLane l f).freeSlots = s.freeSlots
    ∧ (s.modLane l f).products = s.products ∧ (s.modLane l f).resort = s.resort ∧ (s.modLane l f).history = s.history
    ∧ (s.modLane l f).clock = s.clock ∧ (s.modLane l f).calendar = s.calendar ∧ (s.modLane l f).lifts = s.lifts
    ∧ (s.modLane l f).scheme = s.scheme ∧ (s.modLane l f).counts = s.counts ∧ (s.modLane l f).tariff = s.tariff
    ∧ (s.modLane l f).arbiter = s.arbiter ∧ (s.modLane l f).sweep = s.sweep
    ∧ (s.modLane l f).orderIndex = s.orderIndex ∧ (∀ z, (s.modLane l f).lift z = s.lift z)
    ∧ (∀ z, (s.modLane l f).port z = s.port z) ∧ (∀ z, (s.modLane l f).entryAt z = s.entryAt z)
    ∧ (∀ z, (s.modLane l f).product z = s.product z) ∧ (∀ z, (s.modLane l f).liftOf z = s.liftOf z) := by
  simp [State.modLane]

@[simp] theorem State.setLift_frame (s : State) (f : Lift) (r : LiftRec) :
    (s.setLift f r).pending = s.pending ∧ (s.setLift f r).pins = s.pins ∧ (s.setLift f r).gates = s.gates
    ∧ (s.setLift f r).office = s.office ∧ (s.setLift f r).slots = s.slots ∧ (s.setLift f r).freeSlots = s.freeSlots
    ∧ (s.setLift f r).products = s.products ∧ (s.setLift f r).resort = s.resort ∧ (s.setLift f r).history = s.history
    ∧ (s.setLift f r).clock = s.clock ∧ (s.setLift f r).calendar = s.calendar ∧ (s.setLift f r).lanes = s.lanes
    ∧ (s.setLift f r).scheme = s.scheme ∧ (s.setLift f r).counts = s.counts ∧ (s.setLift f r).tariff = s.tariff
    ∧ (s.setLift f r).arbiter = s.arbiter ∧ (s.setLift f r).sweep = s.sweep
    ∧ (s.setLift f r).orderIndex = s.orderIndex ∧ (∀ z, (s.setLift f r).lane z = s.lane z)
    ∧ (∀ z, (s.setLift f r).port z = s.port z) ∧ (∀ z, (s.setLift f r).entryAt z = s.entryAt z)
    ∧ (∀ z, (s.setLift f r).product z = s.product z) ∧ (∀ z, (s.setLift f r).liftOf z = s.liftOf z) := by
  simp [State.setLift]

@[simp] theorem State.setPort_frame (s : State) (p : Port) (r : PortRec) :
    (s.setPort p r).pending = s.pending ∧ (s.setPort p r).pins = s.pins ∧ (s.setPort p r).slots = s.slots
    ∧ (s.setPort p r).freeSlots = s.freeSlots ∧ (s.setPort p r).products = s.products
    ∧ (s.setPort p r).resort = s.resort ∧ (s.setPort p r).history = s.history ∧ (s.setPort p r).clock = s.clock
    ∧ (s.setPort p r).calendar = s.calendar ∧ (s.setPort p r).lanes = s.lanes ∧ (s.setPort p r).lifts = s.lifts
    ∧ (s.setPort p r).scheme = s.scheme ∧ (s.setPort p r).counts = s.counts ∧ (s.setPort p r).tariff = s.tariff
    ∧ (s.setPort p r).arbiter = s.arbiter ∧ (s.setPort p r).sweep = s.sweep
    ∧ (s.setPort p r).orderIndex = s.orderIndex ∧ (∀ z, (s.setPort p r).lane z = s.lane z)
    ∧ (∀ z, (s.setPort p r).lift z = s.lift z) ∧ (∀ z, (s.setPort p r).entryAt z = s.entryAt z)
    ∧ (∀ z, (s.setPort p r).product z = s.product z) ∧ (∀ z, (s.setPort p r).liftOf z = s.liftOf z) := by
  cases p <;> simp [State.setPort]

@[simp] theorem State.modPort_frame (s : State) (p : Port) (f : PortRec → PortRec) :
    (s.modPort p f).pending = s.pending ∧ (s.modPort p f).pins = s.pins ∧ (s.modPort p f).slots = s.slots
    ∧ (s.modPort p f).freeSlots = s.freeSlots ∧ (s.modPort p f).products = s.products
    ∧ (s.modPort p f).resort = s.resort ∧ (s.modPort p f).history = s.history ∧ (s.modPort p f).clock = s.clock
    ∧ (s.modPort p f).calendar = s.calendar ∧ (s.modPort p f).lanes = s.lanes ∧ (s.modPort p f).lifts = s.lifts
    ∧ (s.modPort p f).scheme = s.scheme ∧ (s.modPort p f).counts = s.counts ∧ (s.modPort p f).tariff = s.tariff
    ∧ (s.modPort p f).arbiter = s.arbiter ∧ (s.modPort p f).sweep = s.sweep
    ∧ (s.modPort p f).orderIndex = s.orderIndex ∧ (∀ z, (s.modPort p f).lane z = s.lane z)
    ∧ (∀ z, (s.modPort p f).lift z = s.lift z) ∧ (∀ z, (s.modPort p f).entryAt z = s.entryAt z)
    ∧ (∀ z, (s.modPort p f).product z = s.product z) ∧ (∀ z, (s.modPort p f).liftOf z = s.liftOf z) := by
  simp [State.modPort]

@[simp] theorem State.putEntry_frame (s : State) (n : Nat) (e : Entry) :
    (s.putEntry n e).pending = s.pending ∧ (s.putEntry n e).pins = s.pins ∧ (s.putEntry n e).gates = s.gates
    ∧ (s.putEntry n e).office = s.office ∧ (s.putEntry n e).freeSlots = s.freeSlots
    ∧ (s.putEntry n e).products = s.products ∧ (s.putEntry n e).resort = s.resort
    ∧ (s.putEntry n e).history = s.history ∧ (s.putEntry n e).clock = s.clock ∧ (s.putEntry n e).calendar = s.calendar
    ∧ (s.putEntry n e).lanes = s.lanes ∧ (s.putEntry n e).lifts = s.lifts ∧ (s.putEntry n e).scheme = s.scheme
    ∧ (s.putEntry n e).counts = s.counts ∧ (s.putEntry n e).tariff = s.tariff ∧ (s.putEntry n e).arbiter = s.arbiter
    ∧ (s.putEntry n e).sweep = s.sweep ∧ (s.putEntry n e).orderIndex = s.orderIndex
    ∧ (∀ z, (s.putEntry n e).lane z = s.lane z) ∧ (∀ z, (s.putEntry n e).lift z = s.lift z)
    ∧ (∀ z, (s.putEntry n e).port z = s.port z) ∧ (∀ z, (s.putEntry n e).product z = s.product z)
    ∧ (∀ z, (s.putEntry n e).liftOf z = s.liftOf z) := by
  simp [State.putEntry]

@[simp] theorem State.modEntry_frame (s : State) (n : Nat) (f : Entry → Entry) :
    (s.modEntry n f).pending = s.pending ∧ (s.modEntry n f).pins = s.pins ∧ (s.modEntry n f).gates = s.gates
    ∧ (s.modEntry n f).office = s.office ∧ (s.modEntry n f).freeSlots = s.freeSlots
    ∧ (s.modEntry n f).products = s.products ∧ (s.modEntry n f).resort = s.resort
    ∧ (s.modEntry n f).history = s.history ∧ (s.modEntry n f).clock = s.clock ∧ (s.modEntry n f).calendar = s.calendar
    ∧ (s.modEntry n f).lanes = s.lanes ∧ (s.modEntry n f).lifts = s.lifts ∧ (s.modEntry n f).scheme = s.scheme
    ∧ (s.modEntry n f).counts = s.counts ∧ (s.modEntry n f).tariff = s.tariff ∧ (s.modEntry n f).arbiter = s.arbiter
    ∧ (s.modEntry n f).sweep = s.sweep ∧ (s.modEntry n f).orderIndex = s.orderIndex
    ∧ (∀ z, (s.modEntry n f).lane z = s.lane z) ∧ (∀ z, (s.modEntry n f).lift z = s.lift z)
    ∧ (∀ z, (s.modEntry n f).port z = s.port z) ∧ (∀ z, (s.modEntry n f).product z = s.product z)
    ∧ (∀ z, (s.modEntry n f).liftOf z = s.liftOf z) := by
  simp only [State.modEntry]; split <;> simp

/-! ### Events -/

@[simp] theorem State.flagAt_frame (s : State) (p : Port) (e : Event) :
    (s.flagAt p e).pending = s.pending ∧ (s.flagAt p e).pins = s.pins ∧ (s.flagAt p e).slots = s.slots
    ∧ (s.flagAt p e).freeSlots = s.freeSlots ∧ (s.flagAt p e).products = s.products ∧ (s.flagAt p e).resort = s.resort
    ∧ (s.flagAt p e).history = s.history ∧ (s.flagAt p e).clock = s.clock ∧ (s.flagAt p e).calendar = s.calendar
    ∧ (s.flagAt p e).lanes = s.lanes ∧ (s.flagAt p e).lifts = s.lifts ∧ (s.flagAt p e).scheme = s.scheme
    ∧ (s.flagAt p e).counts = s.counts ∧ (s.flagAt p e).tariff = s.tariff ∧ (s.flagAt p e).arbiter = s.arbiter
    ∧ (s.flagAt p e).sweep = s.sweep ∧ (s.flagAt p e).orderIndex = s.orderIndex
    ∧ (∀ z, (s.flagAt p e).lane z = s.lane z) ∧ (∀ z, (s.flagAt p e).lift z = s.lift z)
    ∧ (∀ z, (s.flagAt p e).entryAt z = s.entryAt z) ∧ (∀ z, (s.flagAt p e).product z = s.product z)
    ∧ (∀ z, (s.flagAt p e).liftOf z = s.liftOf z) := by
  simp [State.flagAt]

@[simp] theorem State.raise_frame (s : State) (e : Event) :
    (s.raise e).pending = s.pending ∧ (s.raise e).pins = s.pins ∧ (s.raise e).slots = s.slots
    ∧ (s.raise e).freeSlots = s.freeSlots ∧ (s.raise e).products = s.products ∧ (s.raise e).resort = s.resort
    ∧ (s.raise e).history = s.history ∧ (s.raise e).clock = s.clock ∧ (s.raise e).calendar = s.calendar
    ∧ (s.raise e).lanes = s.lanes ∧ (s.raise e).lifts = s.lifts ∧ (s.raise e).scheme = s.scheme
    ∧ (s.raise e).counts = s.counts ∧ (s.raise e).tariff = s.tariff ∧ (s.raise e).arbiter = s.arbiter
    ∧ (s.raise e).sweep = s.sweep ∧ (s.raise e).orderIndex = s.orderIndex ∧ (∀ z, (s.raise e).lane z = s.lane z)
    ∧ (∀ z, (s.raise e).lift z = s.lift z) ∧ (∀ z, (s.raise e).entryAt z = s.entryAt z)
    ∧ (∀ z, (s.raise e).product z = s.product z) ∧ (∀ z, (s.raise e).liftOf z = s.liftOf z) := by
  have h := foldl_keeps
    (fun t : State => (t.pending, t.pins, t.slots, t.freeSlots, t.products, t.resort, t.history, t.clock,
     t.calendar, t.lanes, t.lifts, t.scheme, t.counts, t.tariff, t.arbiter, t.sweep, t.orderIndex))
    (fun t p => t.flagAt p e) (fun t p => by simp) (s.reached e) s
  simp_all [State.raise, State.lane, State.lift, State.entryAt, State.product, State.liftOf]

@[simp] theorem State.raiseDevice_frame (s : State) (d : DeviceEvent) :
    (s.raiseDevice d).pending = s.pending ∧ (s.raiseDevice d).pins = s.pins ∧ (s.raiseDevice d).slots = s.slots
    ∧ (s.raiseDevice d).freeSlots = s.freeSlots ∧ (s.raiseDevice d).products = s.products
    ∧ (s.raiseDevice d).resort = s.resort ∧ (s.raiseDevice d).history = s.history ∧ (s.raiseDevice d).clock = s.clock
    ∧ (s.raiseDevice d).calendar = s.calendar ∧ (s.raiseDevice d).lanes = s.lanes ∧ (s.raiseDevice d).lifts = s.lifts
    ∧ (s.raiseDevice d).scheme = s.scheme ∧ (s.raiseDevice d).counts = s.counts ∧ (s.raiseDevice d).tariff = s.tariff
    ∧ (s.raiseDevice d).arbiter = s.arbiter ∧ (s.raiseDevice d).sweep = s.sweep
    ∧ (s.raiseDevice d).orderIndex = s.orderIndex ∧ (∀ z, (s.raiseDevice d).lane z = s.lane z)
    ∧ (∀ z, (s.raiseDevice d).lift z = s.lift z) ∧ (∀ z, (s.raiseDevice d).entryAt z = s.entryAt z)
    ∧ (∀ z, (s.raiseDevice d).product z = s.product z) ∧ (∀ z, (s.raiseDevice d).liftOf z = s.liftOf z) := by
  simp [State.raiseDevice]

@[simp] theorem State.handLevel_frame (s : State) (e : Event) (before after : Bool) :
    (s.handLevel e before after).pending = s.pending ∧ (s.handLevel e before after).pins = s.pins
    ∧ (s.handLevel e before after).slots = s.slots ∧ (s.handLevel e before after).freeSlots = s.freeSlots
    ∧ (s.handLevel e before after).products = s.products ∧ (s.handLevel e before after).resort = s.resort
    ∧ (s.handLevel e before after).history = s.history ∧ (s.handLevel e before after).clock = s.clock
    ∧ (s.handLevel e before after).calendar = s.calendar ∧ (s.handLevel e before after).lanes = s.lanes
    ∧ (s.handLevel e before after).lifts = s.lifts ∧ (s.handLevel e before after).scheme = s.scheme
    ∧ (s.handLevel e before after).counts = s.counts ∧ (s.handLevel e before after).tariff = s.tariff
    ∧ (s.handLevel e before after).arbiter = s.arbiter ∧ (s.handLevel e before after).sweep = s.sweep
    ∧ (s.handLevel e before after).orderIndex = s.orderIndex ∧ (∀ z, (s.handLevel e before after).lane z = s.lane z)
    ∧ (∀ z, (s.handLevel e before after).lift z = s.lift z)
    ∧ (∀ z, (s.handLevel e before after).entryAt z = s.entryAt z)
    ∧ (∀ z, (s.handLevel e before after).product z = s.product z)
    ∧ (∀ z, (s.handLevel e before after).liftOf z = s.liftOf z) := by
  have h := foldl_keeps
    (fun t : State => (t.pending, t.pins, t.slots, t.freeSlots, t.products, t.resort, t.history, t.clock,
     t.calendar, t.lanes, t.lifts, t.scheme, t.counts, t.tariff, t.arbiter, t.sweep, t.orderIndex))
    (fun t p => if ((s.port p).edges.of e).takes before after then t.flagAt p e else t) (fun t p => by split <;> simp) (s.reached e) s
  simp_all [State.handLevel, State.lane, State.lift, State.entryAt, State.product, State.liftOf]

@[simp] theorem State.judgeLevel_frame (s : State) (e : Event) (before after : Bool) :
    (s.judgeLevel e before after).pending = s.pending ∧ (s.judgeLevel e before after).pins = s.pins
    ∧ (s.judgeLevel e before after).slots = s.slots ∧ (s.judgeLevel e before after).freeSlots = s.freeSlots
    ∧ (s.judgeLevel e before after).products = s.products ∧ (s.judgeLevel e before after).resort = s.resort
    ∧ (s.judgeLevel e before after).history = s.history ∧ (s.judgeLevel e before after).clock = s.clock
    ∧ (s.judgeLevel e before after).calendar = s.calendar ∧ (s.judgeLevel e before after).lanes = s.lanes
    ∧ (s.judgeLevel e before after).lifts = s.lifts ∧ (s.judgeLevel e before after).scheme = s.scheme
    ∧ (s.judgeLevel e before after).counts = s.counts ∧ (s.judgeLevel e before after).tariff = s.tariff
    ∧ (s.judgeLevel e before after).arbiter = s.arbiter ∧ (s.judgeLevel e before after).sweep = s.sweep
    ∧ (s.judgeLevel e before after).orderIndex = s.orderIndex ∧ (∀ z, (s.judgeLevel e before after).lane z = s.lane z)
    ∧ (∀ z, (s.judgeLevel e before after).lift z = s.lift z)
    ∧ (∀ z, (s.judgeLevel e before after).entryAt z = s.entryAt z)
    ∧ (∀ z, (s.judgeLevel e before after).product z = s.product z)
    ∧ (∀ z, (s.judgeLevel e before after).liftOf z = s.liftOf z) := by
  simp only [State.judgeLevel]; split <;> simp

@[simp] theorem State.writeHistory_frame (s : State) (h : History) :
    (s.writeHistory h).pending = s.pending ∧ (s.writeHistory h).pins = s.pins ∧ (s.writeHistory h).slots = s.slots
    ∧ (s.writeHistory h).freeSlots = s.freeSlots ∧ (s.writeHistory h).products = s.products
    ∧ (s.writeHistory h).resort = s.resort ∧ (s.writeHistory h).clock = s.clock
    ∧ (s.writeHistory h).calendar = s.calendar ∧ (s.writeHistory h).lanes = s.lanes
    ∧ (s.writeHistory h).lifts = s.lifts ∧ (s.writeHistory h).scheme = s.scheme ∧ (s.writeHistory h).counts = s.counts
    ∧ (s.writeHistory h).tariff = s.tariff ∧ (s.writeHistory h).arbiter = s.arbiter
    ∧ (s.writeHistory h).sweep = s.sweep ∧ (s.writeHistory h).orderIndex = s.orderIndex
    ∧ (∀ z, (s.writeHistory h).lane z = s.lane z) ∧ (∀ z, (s.writeHistory h).lift z = s.lift z)
    ∧ (∀ z, (s.writeHistory h).entryAt z = s.entryAt z) ∧ (∀ z, (s.writeHistory h).product z = s.product z)
    ∧ (∀ z, (s.writeHistory h).liftOf z = s.liftOf z) := by
  simp [State.writeHistory]

/-! ### Counts -/

@[simp] theorem State.noteSaturation_frame (s : State) (n : Nat) :
    (s.noteSaturation n).pending = s.pending ∧ (s.noteSaturation n).pins = s.pins
    ∧ (s.noteSaturation n).slots = s.slots ∧ (s.noteSaturation n).freeSlots = s.freeSlots
    ∧ (s.noteSaturation n).products = s.products ∧ (s.noteSaturation n).resort = s.resort
    ∧ (s.noteSaturation n).history = s.history ∧ (s.noteSaturation n).clock = s.clock
    ∧ (s.noteSaturation n).calendar = s.calendar ∧ (s.noteSaturation n).lanes = s.lanes
    ∧ (s.noteSaturation n).lifts = s.lifts ∧ (s.noteSaturation n).scheme = s.scheme
    ∧ (s.noteSaturation n).tariff = s.tariff ∧ (s.noteSaturation n).arbiter = s.arbiter
    ∧ (s.noteSaturation n).sweep = s.sweep ∧ (s.noteSaturation n).orderIndex = s.orderIndex
    ∧ (∀ z, (s.noteSaturation n).lane z = s.lane z) ∧ (∀ z, (s.noteSaturation n).lift z = s.lift z)
    ∧ (∀ z, (s.noteSaturation n).entryAt z = s.entryAt z) ∧ (∀ z, (s.noteSaturation n).product z = s.product z)
    ∧ (∀ z, (s.noteSaturation n).liftOf z = s.liftOf z) := by
  simp only [State.noteSaturation]; split <;> simp

@[simp] theorem State.countLane_frame (s : State) (l : Lane) (k : LaneCounter) :
    (s.countLane l k).pending = s.pending ∧ (s.countLane l k).pins = s.pins ∧ (s.countLane l k).slots = s.slots
    ∧ (s.countLane l k).freeSlots = s.freeSlots ∧ (s.countLane l k).products = s.products
    ∧ (s.countLane l k).resort = s.resort ∧ (s.countLane l k).history = s.history ∧ (s.countLane l k).clock = s.clock
    ∧ (s.countLane l k).calendar = s.calendar ∧ (s.countLane l k).lanes = s.lanes ∧ (s.countLane l k).lifts = s.lifts
    ∧ (s.countLane l k).scheme = s.scheme ∧ (s.countLane l k).tariff = s.tariff
    ∧ (s.countLane l k).arbiter = s.arbiter ∧ (s.countLane l k).sweep = s.sweep
    ∧ (s.countLane l k).orderIndex = s.orderIndex ∧ (∀ z, (s.countLane l k).lane z = s.lane z)
    ∧ (∀ z, (s.countLane l k).lift z = s.lift z) ∧ (∀ z, (s.countLane l k).entryAt z = s.entryAt z)
    ∧ (∀ z, (s.countLane l k).product z = s.product z) ∧ (∀ z, (s.countLane l k).liftOf z = s.liftOf z) := by
  simp [State.countLane]

@[simp] theorem State.countLift_frame (s : State) (f : Lift) (k : LiftCounter) :
    (s.countLift f k).pending = s.pending ∧ (s.countLift f k).pins = s.pins ∧ (s.countLift f k).slots = s.slots
    ∧ (s.countLift f k).freeSlots = s.freeSlots ∧ (s.countLift f k).products = s.products
    ∧ (s.countLift f k).resort = s.resort ∧ (s.countLift f k).history = s.history ∧ (s.countLift f k).clock = s.clock
    ∧ (s.countLift f k).calendar = s.calendar ∧ (s.countLift f k).lanes = s.lanes ∧ (s.countLift f k).lifts = s.lifts
    ∧ (s.countLift f k).scheme = s.scheme ∧ (s.countLift f k).tariff = s.tariff
    ∧ (s.countLift f k).arbiter = s.arbiter ∧ (s.countLift f k).sweep = s.sweep
    ∧ (s.countLift f k).orderIndex = s.orderIndex ∧ (∀ z, (s.countLift f k).lane z = s.lane z)
    ∧ (∀ z, (s.countLift f k).lift z = s.lift z) ∧ (∀ z, (s.countLift f k).entryAt z = s.entryAt z)
    ∧ (∀ z, (s.countLift f k).product z = s.product z) ∧ (∀ z, (s.countLift f k).liftOf z = s.liftOf z) := by
  simp [State.countLift]

@[simp] theorem State.countDayOnly_frame (s : State) (l : Lane) (k : LaneCounter) :
    (s.countDayOnly l k).pending = s.pending ∧ (s.countDayOnly l k).pins = s.pins
    ∧ (s.countDayOnly l k).gates = s.gates ∧ (s.countDayOnly l k).office = s.office
    ∧ (s.countDayOnly l k).slots = s.slots ∧ (s.countDayOnly l k).freeSlots = s.freeSlots
    ∧ (s.countDayOnly l k).products = s.products ∧ (s.countDayOnly l k).resort = s.resort
    ∧ (s.countDayOnly l k).history = s.history ∧ (s.countDayOnly l k).clock = s.clock
    ∧ (s.countDayOnly l k).calendar = s.calendar ∧ (s.countDayOnly l k).lanes = s.lanes
    ∧ (s.countDayOnly l k).lifts = s.lifts ∧ (s.countDayOnly l k).scheme = s.scheme
    ∧ (s.countDayOnly l k).tariff = s.tariff ∧ (s.countDayOnly l k).arbiter = s.arbiter
    ∧ (s.countDayOnly l k).sweep = s.sweep ∧ (s.countDayOnly l k).orderIndex = s.orderIndex
    ∧ (∀ z, (s.countDayOnly l k).lane z = s.lane z) ∧ (∀ z, (s.countDayOnly l k).lift z = s.lift z)
    ∧ (∀ z, (s.countDayOnly l k).port z = s.port z) ∧ (∀ z, (s.countDayOnly l k).entryAt z = s.entryAt z)
    ∧ (∀ z, (s.countDayOnly l k).product z = s.product z) ∧ (∀ z, (s.countDayOnly l k).liftOf z = s.liftOf z) := by
  simp [State.countDayOnly]

@[simp] theorem State.transfer_frame (s : State) :
    (s.transfer).pending = s.pending ∧ (s.transfer).pins = s.pins ∧ (s.transfer).slots = s.slots
    ∧ (s.transfer).freeSlots = s.freeSlots ∧ (s.transfer).products = s.products ∧ (s.transfer).resort = s.resort
    ∧ (s.transfer).history = s.history ∧ (s.transfer).clock = s.clock ∧ (s.transfer).calendar = s.calendar
    ∧ (s.transfer).lanes = s.lanes ∧ (s.transfer).lifts = s.lifts ∧ (s.transfer).scheme = s.scheme
    ∧ (s.transfer).tariff = s.tariff ∧ (s.transfer).arbiter = s.arbiter ∧ (s.transfer).sweep = s.sweep
    ∧ (s.transfer).orderIndex = s.orderIndex ∧ (∀ z, (s.transfer).lane z = s.lane z)
    ∧ (∀ z, (s.transfer).lift z = s.lift z) ∧ (∀ z, (s.transfer).entryAt z = s.entryAt z)
    ∧ (∀ z, (s.transfer).product z = s.product z) ∧ (∀ z, (s.transfer).liftOf z = s.liftOf z) := by
  simp only [State.transfer]; split <;> simp

@[simp] theorem State.tickTimer_frame (s : State) :
    (s.tickTimer).pending = s.pending ∧ (s.tickTimer).pins = s.pins ∧ (s.tickTimer).slots = s.slots
    ∧ (s.tickTimer).freeSlots = s.freeSlots ∧ (s.tickTimer).products = s.products ∧ (s.tickTimer).resort = s.resort
    ∧ (s.tickTimer).history = s.history ∧ (s.tickTimer).clock = s.clock ∧ (s.tickTimer).calendar = s.calendar
    ∧ (s.tickTimer).lanes = s.lanes ∧ (s.tickTimer).lifts = s.lifts ∧ (s.tickTimer).scheme = s.scheme
    ∧ (s.tickTimer).tariff = s.tariff ∧ (s.tickTimer).arbiter = s.arbiter ∧ (s.tickTimer).sweep = s.sweep
    ∧ (s.tickTimer).orderIndex = s.orderIndex ∧ (∀ z, (s.tickTimer).lane z = s.lane z)
    ∧ (∀ z, (s.tickTimer).lift z = s.lift z) ∧ (∀ z, (s.tickTimer).entryAt z = s.entryAt z)
    ∧ (∀ z, (s.tickTimer).product z = s.product z) ∧ (∀ z, (s.tickTimer).liftOf z = s.liftOf z) := by
  simp only [State.tickTimer]; repeat' split
  all_goals simp

@[simp] theorem State.rollCounts_frame (s : State) :
    (s.rollCounts).pending = s.pending ∧ (s.rollCounts).pins = s.pins ∧ (s.rollCounts).gates = s.gates
    ∧ (s.rollCounts).office = s.office ∧ (s.rollCounts).slots = s.slots ∧ (s.rollCounts).freeSlots = s.freeSlots
    ∧ (s.rollCounts).products = s.products ∧ (s.rollCounts).resort = s.resort ∧ (s.rollCounts).history = s.history
    ∧ (s.rollCounts).clock = s.clock ∧ (s.rollCounts).calendar = s.calendar ∧ (s.rollCounts).lanes = s.lanes
    ∧ (s.rollCounts).lifts = s.lifts ∧ (s.rollCounts).scheme = s.scheme ∧ (s.rollCounts).tariff = s.tariff
    ∧ (s.rollCounts).arbiter = s.arbiter ∧ (s.rollCounts).sweep = s.sweep ∧ (s.rollCounts).orderIndex = s.orderIndex
    ∧ (∀ z, (s.rollCounts).lane z = s.lane z) ∧ (∀ z, (s.rollCounts).lift z = s.lift z)
    ∧ (∀ z, (s.rollCounts).port z = s.port z) ∧ (∀ z, (s.rollCounts).entryAt z = s.entryAt z)
    ∧ (∀ z, (s.rollCounts).product z = s.product z) ∧ (∀ z, (s.rollCounts).liftOf z = s.liftOf z) := by
  simp [State.rollCounts]

/-! ### Lifts and holds -/

@[simp] theorem State.takePace_frame (s : State) (f : Lift) :
    (s.takePace f).pending = s.pending ∧ (s.takePace f).pins = s.pins ∧ (s.takePace f).gates = s.gates
    ∧ (s.takePace f).office = s.office ∧ (s.takePace f).slots = s.slots ∧ (s.takePace f).freeSlots = s.freeSlots
    ∧ (s.takePace f).products = s.products ∧ (s.takePace f).resort = s.resort ∧ (s.takePace f).history = s.history
    ∧ (s.takePace f).clock = s.clock ∧ (s.takePace f).calendar = s.calendar ∧ (s.takePace f).lanes = s.lanes
    ∧ (s.takePace f).scheme = s.scheme ∧ (s.takePace f).counts = s.counts ∧ (s.takePace f).tariff = s.tariff
    ∧ (s.takePace f).arbiter = s.arbiter ∧ (s.takePace f).sweep = s.sweep ∧ (s.takePace f).orderIndex = s.orderIndex
    ∧ (∀ z, (s.takePace f).lane z = s.lane z) ∧ (∀ z, (s.takePace f).port z = s.port z)
    ∧ (∀ z, (s.takePace f).entryAt z = s.entryAt z) ∧ (∀ z, (s.takePace f).product z = s.product z)
    ∧ (∀ z, (s.takePace f).liftOf z = s.liftOf z) := by
  simp [State.takePace]

@[simp] theorem State.givePace_frame (s : State) (f : Lift) :
    (s.givePace f).pending = s.pending ∧ (s.givePace f).pins = s.pins ∧ (s.givePace f).gates = s.gates
    ∧ (s.givePace f).office = s.office ∧ (s.givePace f).slots = s.slots ∧ (s.givePace f).freeSlots = s.freeSlots
    ∧ (s.givePace f).products = s.products ∧ (s.givePace f).resort = s.resort ∧ (s.givePace f).history = s.history
    ∧ (s.givePace f).clock = s.clock ∧ (s.givePace f).calendar = s.calendar ∧ (s.givePace f).lanes = s.lanes
    ∧ (s.givePace f).scheme = s.scheme ∧ (s.givePace f).counts = s.counts ∧ (s.givePace f).tariff = s.tariff
    ∧ (s.givePace f).arbiter = s.arbiter ∧ (s.givePace f).sweep = s.sweep ∧ (s.givePace f).orderIndex = s.orderIndex
    ∧ (∀ z, (s.givePace f).lane z = s.lane z) ∧ (∀ z, (s.givePace f).port z = s.port z)
    ∧ (∀ z, (s.givePace f).entryAt z = s.entryAt z) ∧ (∀ z, (s.givePace f).product z = s.product z)
    ∧ (∀ z, (s.givePace f).liftOf z = s.liftOf z) := by
  simp [State.givePace]

@[simp] theorem State.filterLift_frame (s : State) (f : Lift) (x : LiftState) :
    (s.filterLift f x).pending = s.pending ∧ (s.filterLift f x).pins = s.pins ∧ (s.filterLift f x).slots = s.slots
    ∧ (s.filterLift f x).freeSlots = s.freeSlots ∧ (s.filterLift f x).products = s.products
    ∧ (s.filterLift f x).resort = s.resort ∧ (s.filterLift f x).history = s.history
    ∧ (s.filterLift f x).clock = s.clock ∧ (s.filterLift f x).calendar = s.calendar
    ∧ (s.filterLift f x).lanes = s.lanes ∧ (s.filterLift f x).scheme = s.scheme ∧ (s.filterLift f x).counts = s.counts
    ∧ (s.filterLift f x).tariff = s.tariff ∧ (s.filterLift f x).arbiter = s.arbiter
    ∧ (s.filterLift f x).sweep = s.sweep ∧ (s.filterLift f x).orderIndex = s.orderIndex
    ∧ (∀ z, (s.filterLift f x).lane z = s.lane z) ∧ (∀ z, (s.filterLift f x).entryAt z = s.entryAt z)
    ∧ (∀ z, (s.filterLift f x).product z = s.product z) ∧ (∀ z, (s.filterLift f x).liftOf z = s.liftOf z) := by
  simp only [State.filterLift]; split <;> simp

@[simp] theorem State.tickLift_frame (s : State) (x : LiftLines) (f : Lift) :
    (s.tickLift x f).pending = s.pending ∧ (s.tickLift x f).pins = s.pins ∧ (s.tickLift x f).slots = s.slots
    ∧ (s.tickLift x f).freeSlots = s.freeSlots ∧ (s.tickLift x f).products = s.products
    ∧ (s.tickLift x f).resort = s.resort ∧ (s.tickLift x f).history = s.history ∧ (s.tickLift x f).clock = s.clock
    ∧ (s.tickLift x f).calendar = s.calendar ∧ (s.tickLift x f).lanes = s.lanes ∧ (s.tickLift x f).scheme = s.scheme
    ∧ (s.tickLift x f).counts = s.counts ∧ (s.tickLift x f).tariff = s.tariff ∧ (s.tickLift x f).arbiter = s.arbiter
    ∧ (s.tickLift x f).sweep = s.sweep ∧ (s.tickLift x f).orderIndex = s.orderIndex
    ∧ (∀ z, (s.tickLift x f).lane z = s.lane z) ∧ (∀ z, (s.tickLift x f).entryAt z = s.entryAt z)
    ∧ (∀ z, (s.tickLift x f).product z = s.product z) ∧ (∀ z, (s.tickLift x f).liftOf z = s.liftOf z) := by
  simp [State.tickLift]

@[simp] theorem State.setHold_frame (s : State) (l : Lane) (h : Option Hold) :
    (s.setHold l h).pending = s.pending ∧ (s.setHold l h).pins = s.pins ∧ (s.setHold l h).gates = s.gates
    ∧ (s.setHold l h).office = s.office ∧ (s.setHold l h).slots = s.slots ∧ (s.setHold l h).freeSlots = s.freeSlots
    ∧ (s.setHold l h).products = s.products ∧ (s.setHold l h).resort = s.resort ∧ (s.setHold l h).history = s.history
    ∧ (s.setHold l h).clock = s.clock ∧ (s.setHold l h).calendar = s.calendar ∧ (s.setHold l h).lifts = s.lifts
    ∧ (s.setHold l h).scheme = s.scheme ∧ (s.setHold l h).counts = s.counts ∧ (s.setHold l h).tariff = s.tariff
    ∧ (s.setHold l h).arbiter = s.arbiter ∧ (s.setHold l h).sweep = s.sweep
    ∧ (s.setHold l h).orderIndex = s.orderIndex ∧ (∀ z, (s.setHold l h).lift z = s.lift z)
    ∧ (∀ z, (s.setHold l h).port z = s.port z) ∧ (∀ z, (s.setHold l h).entryAt z = s.entryAt z)
    ∧ (∀ z, (s.setHold l h).product z = s.product z) ∧ (∀ z, (s.setHold l h).liftOf z = s.liftOf z) := by
  simp [State.setHold]

@[simp] theorem State.setLate_frame (s : State) (l : Lane) (x : Option LateRecord) :
    (s.setLate l x).pending = s.pending ∧ (s.setLate l x).pins = s.pins ∧ (s.setLate l x).gates = s.gates
    ∧ (s.setLate l x).office = s.office ∧ (s.setLate l x).slots = s.slots ∧ (s.setLate l x).freeSlots = s.freeSlots
    ∧ (s.setLate l x).products = s.products ∧ (s.setLate l x).resort = s.resort ∧ (s.setLate l x).history = s.history
    ∧ (s.setLate l x).clock = s.clock ∧ (s.setLate l x).calendar = s.calendar ∧ (s.setLate l x).lifts = s.lifts
    ∧ (s.setLate l x).scheme = s.scheme ∧ (s.setLate l x).counts = s.counts ∧ (s.setLate l x).tariff = s.tariff
    ∧ (s.setLate l x).arbiter = s.arbiter ∧ (s.setLate l x).sweep = s.sweep
    ∧ (s.setLate l x).orderIndex = s.orderIndex ∧ (∀ z, (s.setLate l x).lift z = s.lift z)
    ∧ (∀ z, (s.setLate l x).port z = s.port z) ∧ (∀ z, (s.setLate l x).entryAt z = s.entryAt z)
    ∧ (∀ z, (s.setLate l x).product z = s.product z) ∧ (∀ z, (s.setLate l x).liftOf z = s.liftOf z) := by
  simp [State.setLate]

@[simp] theorem State.setDwell_frame (s : State) (l : Lane) (d : Option Dwell) :
    (s.setDwell l d).pending = s.pending ∧ (s.setDwell l d).pins = s.pins ∧ (s.setDwell l d).gates = s.gates
    ∧ (s.setDwell l d).office = s.office ∧ (s.setDwell l d).slots = s.slots ∧ (s.setDwell l d).freeSlots = s.freeSlots
    ∧ (s.setDwell l d).products = s.products ∧ (s.setDwell l d).resort = s.resort
    ∧ (s.setDwell l d).history = s.history ∧ (s.setDwell l d).clock = s.clock ∧ (s.setDwell l d).calendar = s.calendar
    ∧ (s.setDwell l d).lifts = s.lifts ∧ (s.setDwell l d).scheme = s.scheme ∧ (s.setDwell l d).counts = s.counts
    ∧ (s.setDwell l d).tariff = s.tariff ∧ (s.setDwell l d).arbiter = s.arbiter ∧ (s.setDwell l d).sweep = s.sweep
    ∧ (s.setDwell l d).orderIndex = s.orderIndex ∧ (∀ z, (s.setDwell l d).lift z = s.lift z)
    ∧ (∀ z, (s.setDwell l d).port z = s.port z) ∧ (∀ z, (s.setDwell l d).entryAt z = s.entryAt z)
    ∧ (∀ z, (s.setDwell l d).product z = s.product z) ∧ (∀ z, (s.setDwell l d).liftOf z = s.liftOf z) := by
  simp [State.setDwell]

@[simp] theorem State.undoGrant_frame (s : State) (l : Lane) (h : Hold) :
    (s.undoGrant l h).pending = s.pending ∧ (s.undoGrant l h).pins = s.pins ∧ (s.undoGrant l h).gates = s.gates
    ∧ (s.undoGrant l h).office = s.office ∧ (s.undoGrant l h).freeSlots = s.freeSlots
    ∧ (s.undoGrant l h).products = s.products ∧ (s.undoGrant l h).resort = s.resort
    ∧ (s.undoGrant l h).clock = s.clock ∧ (s.undoGrant l h).calendar = s.calendar ∧ (s.undoGrant l h).lifts = s.lifts
    ∧ (s.undoGrant l h).scheme = s.scheme ∧ (s.undoGrant l h).counts = s.counts ∧ (s.undoGrant l h).tariff = s.tariff
    ∧ (s.undoGrant l h).arbiter = s.arbiter ∧ (s.undoGrant l h).sweep = s.sweep
    ∧ (s.undoGrant l h).orderIndex = s.orderIndex ∧ (∀ z, (s.undoGrant l h).lift z = s.lift z)
    ∧ (∀ z, (s.undoGrant l h).port z = s.port z) ∧ (∀ z, (s.undoGrant l h).product z = s.product z)
    ∧ (∀ z, (s.undoGrant l h).liftOf z = s.liftOf z) := by
  simp only [State.undoGrant]; split <;> simp

@[simp] theorem State.rollback_frame (s : State) (l : Lane) (h : Hold) :
    (s.rollback l h).pending = s.pending ∧ (s.rollback l h).pins = s.pins ∧ (s.rollback l h).freeSlots = s.freeSlots
    ∧ (s.rollback l h).products = s.products ∧ (s.rollback l h).resort = s.resort ∧ (s.rollback l h).clock = s.clock
    ∧ (s.rollback l h).calendar = s.calendar ∧ (s.rollback l h).scheme = s.scheme ∧ (s.rollback l h).counts = s.counts
    ∧ (s.rollback l h).tariff = s.tariff ∧ (s.rollback l h).arbiter = s.arbiter ∧ (s.rollback l h).sweep = s.sweep
    ∧ (s.rollback l h).orderIndex = s.orderIndex ∧ (∀ z, (s.rollback l h).product z = s.product z)
    ∧ (∀ z, (s.rollback l h).liftOf z = s.liftOf z) := by
  simp [State.rollback]

@[simp] theorem State.releaseHold_frame (s : State) (l : Lane) :
    (s.releaseHold l).pending = s.pending ∧ (s.releaseHold l).pins = s.pins
    ∧ (s.releaseHold l).freeSlots = s.freeSlots ∧ (s.releaseHold l).products = s.products
    ∧ (s.releaseHold l).resort = s.resort ∧ (s.releaseHold l).clock = s.clock
    ∧ (s.releaseHold l).calendar = s.calendar ∧ (s.releaseHold l).scheme = s.scheme
    ∧ (s.releaseHold l).tariff = s.tariff ∧ (s.releaseHold l).arbiter = s.arbiter ∧ (s.releaseHold l).sweep = s.sweep
    ∧ (s.releaseHold l).orderIndex = s.orderIndex ∧ (∀ z, (s.releaseHold l).product z = s.product z)
    ∧ (∀ z, (s.releaseHold l).liftOf z = s.liftOf z) := by
  simp only [State.releaseHold]; split <;> simp

@[simp] theorem State.commitHold_frame (s : State) (l : Lane) (h : Hold) :
    (s.commitHold l h).pending = s.pending ∧ (s.commitHold l h).pins = s.pins
    ∧ (s.commitHold l h).freeSlots = s.freeSlots ∧ (s.commitHold l h).products = s.products
    ∧ (s.commitHold l h).resort = s.resort ∧ (s.commitHold l h).history = s.history
    ∧ (s.commitHold l h).clock = s.clock ∧ (s.commitHold l h).calendar = s.calendar
    ∧ (s.commitHold l h).lifts = s.lifts ∧ (s.commitHold l h).scheme = s.scheme ∧ (s.commitHold l h).tariff = s.tariff
    ∧ (s.commitHold l h).arbiter = s.arbiter ∧ (s.commitHold l h).sweep = s.sweep
    ∧ (s.commitHold l h).orderIndex = s.orderIndex ∧ (∀ z, (s.commitHold l h).lift z = s.lift z)
    ∧ (∀ z, (s.commitHold l h).product z = s.product z) ∧ (∀ z, (s.commitHold l h).liftOf z = s.liftOf z) := by
  simp only [State.commitHold]; repeat' split
  all_goals simp

@[simp] theorem State.latePassage_frame (s : State) (l : Lane) :
    (s.latePassage l).pending = s.pending ∧ (s.latePassage l).pins = s.pins ∧ (s.latePassage l).slots = s.slots
    ∧ (s.latePassage l).freeSlots = s.freeSlots ∧ (s.latePassage l).products = s.products
    ∧ (s.latePassage l).resort = s.resort ∧ (s.latePassage l).history = s.history ∧ (s.latePassage l).clock = s.clock
    ∧ (s.latePassage l).calendar = s.calendar ∧ (s.latePassage l).scheme = s.scheme
    ∧ (s.latePassage l).tariff = s.tariff ∧ (s.latePassage l).arbiter = s.arbiter ∧ (s.latePassage l).sweep = s.sweep
    ∧ (s.latePassage l).orderIndex = s.orderIndex ∧ (∀ z, (s.latePassage l).entryAt z = s.entryAt z)
    ∧ (∀ z, (s.latePassage l).product z = s.product z) ∧ (∀ z, (s.latePassage l).liftOf z = s.liftOf z) := by
  simp [State.latePassage]

@[simp] theorem State.unpairedPassage_frame (s : State) (l : Lane) :
    (s.unpairedPassage l).pending = s.pending ∧ (s.unpairedPassage l).pins = s.pins
    ∧ (s.unpairedPassage l).slots = s.slots ∧ (s.unpairedPassage l).freeSlots = s.freeSlots
    ∧ (s.unpairedPassage l).products = s.products ∧ (s.unpairedPassage l).resort = s.resort
    ∧ (s.unpairedPassage l).history = s.history ∧ (s.unpairedPassage l).clock = s.clock
    ∧ (s.unpairedPassage l).calendar = s.calendar ∧ (s.unpairedPassage l).scheme = s.scheme
    ∧ (s.unpairedPassage l).tariff = s.tariff ∧ (s.unpairedPassage l).arbiter = s.arbiter
    ∧ (s.unpairedPassage l).sweep = s.sweep ∧ (s.unpairedPassage l).orderIndex = s.orderIndex
    ∧ (∀ z, (s.unpairedPassage l).entryAt z = s.entryAt z) ∧ (∀ z, (s.unpairedPassage l).product z = s.product z)
    ∧ (∀ z, (s.unpairedPassage l).liftOf z = s.liftOf z) := by
  simp only [State.unpairedPassage]; split <;> simp

@[simp] theorem State.expireHold_frame (s : State) (l : Lane) (h : Hold) :
    (s.expireHold l h).pending = s.pending ∧ (s.expireHold l h).pins = s.pins
    ∧ (s.expireHold l h).freeSlots = s.freeSlots ∧ (s.expireHold l h).products = s.products
    ∧ (s.expireHold l h).resort = s.resort ∧ (s.expireHold l h).clock = s.clock
    ∧ (s.expireHold l h).calendar = s.calendar ∧ (s.expireHold l h).scheme = s.scheme
    ∧ (s.expireHold l h).tariff = s.tariff ∧ (s.expireHold l h).arbiter = s.arbiter
    ∧ (s.expireHold l h).sweep = s.sweep ∧ (s.expireHold l h).orderIndex = s.orderIndex
    ∧ (∀ z, (s.expireHold l h).product z = s.product z) ∧ (∀ z, (s.expireHold l h).liftOf z = s.liftOf z) := by
  simp [State.expireHold]

@[simp] theorem State.makeDue_frame (s : State) (l : Lane) :
    (s.makeDue l).pending = s.pending ∧ (s.makeDue l).pins = s.pins ∧ (s.makeDue l).gates = s.gates
    ∧ (s.makeDue l).office = s.office ∧ (s.makeDue l).slots = s.slots ∧ (s.makeDue l).freeSlots = s.freeSlots
    ∧ (s.makeDue l).products = s.products ∧ (s.makeDue l).resort = s.resort ∧ (s.makeDue l).history = s.history
    ∧ (s.makeDue l).clock = s.clock ∧ (s.makeDue l).calendar = s.calendar ∧ (s.makeDue l).lifts = s.lifts
    ∧ (s.makeDue l).scheme = s.scheme ∧ (s.makeDue l).counts = s.counts ∧ (s.makeDue l).tariff = s.tariff
    ∧ (s.makeDue l).sweep = s.sweep ∧ (s.makeDue l).orderIndex = s.orderIndex ∧ (∀ z, (s.makeDue l).lift z = s.lift z)
    ∧ (∀ z, (s.makeDue l).port z = s.port z) ∧ (∀ z, (s.makeDue l).entryAt z = s.entryAt z)
    ∧ (∀ z, (s.makeDue l).product z = s.product z) ∧ (∀ z, (s.makeDue l).liftOf z = s.liftOf z) := by
  simp [State.makeDue]

@[simp] theorem State.drewOrder_frame (s : State) (ls : List Lane) :
    (s.drewOrder ls).pending = s.pending ∧ (s.drewOrder ls).pins = s.pins ∧ (s.drewOrder ls).gates = s.gates
    ∧ (s.drewOrder ls).office = s.office ∧ (s.drewOrder ls).slots = s.slots ∧ (s.drewOrder ls).freeSlots = s.freeSlots
    ∧ (s.drewOrder ls).products = s.products ∧ (s.drewOrder ls).resort = s.resort
    ∧ (s.drewOrder ls).history = s.history ∧ (s.drewOrder ls).clock = s.clock ∧ (s.drewOrder ls).calendar = s.calendar
    ∧ (s.drewOrder ls).lanes = s.lanes ∧ (s.drewOrder ls).lifts = s.lifts ∧ (s.drewOrder ls).scheme = s.scheme
    ∧ (s.drewOrder ls).counts = s.counts ∧ (s.drewOrder ls).tariff = s.tariff ∧ (s.drewOrder ls).arbiter = s.arbiter
    ∧ (s.drewOrder ls).sweep = s.sweep ∧ (∀ z, (s.drewOrder ls).lane z = s.lane z)
    ∧ (∀ z, (s.drewOrder ls).lift z = s.lift z) ∧ (∀ z, (s.drewOrder ls).port z = s.port z)
    ∧ (∀ z, (s.drewOrder ls).entryAt z = s.entryAt z) ∧ (∀ z, (s.drewOrder ls).product z = s.product z)
    ∧ (∀ z, (s.drewOrder ls).liftOf z = s.liftOf z) := by
  simp only [State.drewOrder]; split <;> simp

@[simp] theorem State.testHolds_frame (s : State) :
    (s.testHolds).pending = s.pending ∧ (s.testHolds).pins = s.pins ∧ (s.testHolds).gates = s.gates
    ∧ (s.testHolds).office = s.office ∧ (s.testHolds).slots = s.slots ∧ (s.testHolds).freeSlots = s.freeSlots
    ∧ (s.testHolds).products = s.products ∧ (s.testHolds).resort = s.resort ∧ (s.testHolds).history = s.history
    ∧ (s.testHolds).clock = s.clock ∧ (s.testHolds).calendar = s.calendar ∧ (s.testHolds).lifts = s.lifts
    ∧ (s.testHolds).scheme = s.scheme ∧ (s.testHolds).counts = s.counts ∧ (s.testHolds).tariff = s.tariff
    ∧ (s.testHolds).sweep = s.sweep ∧ (∀ z, (s.testHolds).lift z = s.lift z) ∧ (∀ z, (s.testHolds).port z = s.port z)
    ∧ (∀ z, (s.testHolds).entryAt z = s.entryAt z) ∧ (∀ z, (s.testHolds).product z = s.product z)
    ∧ (∀ z, (s.testHolds).liftOf z = s.liftOf z) := by
  have h := foldl_keeps
    (fun t : State => (t.pending, t.pins, t.gates, t.office, t.slots, t.freeSlots, t.products, t.resort,
     t.history, t.clock, t.calendar, t.lifts, t.scheme, t.counts, t.tariff, t.sweep))
    State.makeDue (fun t l => by simp) (s.freeOrder s.dueLanes) s
  simp_all [State.testHolds, State.lift, State.port, State.entryAt, State.product, State.liftOf]

@[simp] theorem State.rollBackAll_frame (s : State) :
    (s.rollBackAll).pending = s.pending ∧ (s.rollBackAll).pins = s.pins ∧ (s.rollBackAll).gates = s.gates
    ∧ (s.rollBackAll).office = s.office ∧ (s.rollBackAll).freeSlots = s.freeSlots
    ∧ (s.rollBackAll).products = s.products ∧ (s.rollBackAll).resort = s.resort ∧ (s.rollBackAll).clock = s.clock
    ∧ (s.rollBackAll).calendar = s.calendar ∧ (s.rollBackAll).lifts = s.lifts ∧ (s.rollBackAll).scheme = s.scheme
    ∧ (s.rollBackAll).tariff = s.tariff ∧ (s.rollBackAll).arbiter = s.arbiter ∧ (s.rollBackAll).sweep = s.sweep
    ∧ (s.rollBackAll).orderIndex = s.orderIndex ∧ (∀ z, (s.rollBackAll).lift z = s.lift z)
    ∧ (∀ z, (s.rollBackAll).port z = s.port z) ∧ (∀ z, (s.rollBackAll).product z = s.product z)
    ∧ (∀ z, (s.rollBackAll).liftOf z = s.liftOf z) := by
  have h := foldl_keeps
    (fun t : State => (t.pending, t.pins, t.gates, t.office, t.freeSlots, t.products, t.resort, t.clock,
     t.calendar, t.lifts, t.scheme, t.tariff, t.arbiter, t.sweep, t.orderIndex))
    (fun t x => (t.undoGrant x.1 x.2).countDayOnly x.1 .released) (fun t x => by simp) (newestFirst s.openHolds) s
  simp_all [State.rollBackAll, State.lift, State.port, State.product, State.liftOf]

/-! ### Lanes -/

@[simp] theorem State.moveLane_frame (s : State) (l : Lane) (x : LaneState) (d : Option Dwell) :
    (s.moveLane l x d).pending = s.pending ∧ (s.moveLane l x d).pins = s.pins
    ∧ (s.moveLane l x d).freeSlots = s.freeSlots ∧ (s.moveLane l x d).products = s.products
    ∧ (s.moveLane l x d).resort = s.resort ∧ (s.moveLane l x d).clock = s.clock
    ∧ (s.moveLane l x d).calendar = s.calendar ∧ (s.moveLane l x d).scheme = s.scheme
    ∧ (s.moveLane l x d).tariff = s.tariff ∧ (s.moveLane l x d).arbiter = s.arbiter
    ∧ (s.moveLane l x d).sweep = s.sweep ∧ (s.moveLane l x d).orderIndex = s.orderIndex
    ∧ (∀ z, (s.moveLane l x d).product z = s.product z) ∧ (∀ z, (s.moveLane l x d).liftOf z = s.liftOf z) := by
  simp only [State.moveLane]; split <;> simp

@[simp] theorem State.modReader_frame (s : State) (l : Lane) (f : LaneRec → LaneRec) :
    (s.modReader l f).pending = s.pending ∧ (s.modReader l f).pins = s.pins ∧ (s.modReader l f).slots = s.slots
    ∧ (s.modReader l f).freeSlots = s.freeSlots ∧ (s.modReader l f).products = s.products
    ∧ (s.modReader l f).resort = s.resort ∧ (s.modReader l f).history = s.history ∧ (s.modReader l f).clock = s.clock
    ∧ (s.modReader l f).calendar = s.calendar ∧ (s.modReader l f).lifts = s.lifts
    ∧ (s.modReader l f).scheme = s.scheme ∧ (s.modReader l f).counts = s.counts ∧ (s.modReader l f).tariff = s.tariff
    ∧ (s.modReader l f).arbiter = s.arbiter ∧ (s.modReader l f).sweep = s.sweep
    ∧ (s.modReader l f).orderIndex = s.orderIndex ∧ (∀ z, (s.modReader l f).lift z = s.lift z)
    ∧ (∀ z, (s.modReader l f).entryAt z = s.entryAt z) ∧ (∀ z, (s.modReader l f).product z = s.product z)
    ∧ (∀ z, (s.modReader l f).liftOf z = s.liftOf z) := by
  simp [State.modReader]

@[simp] theorem State.raiseRun_frame (s : State) (l : Lane) :
    (s.raiseRun l).pending = s.pending ∧ (s.raiseRun l).pins = s.pins ∧ (s.raiseRun l).slots = s.slots
    ∧ (s.raiseRun l).freeSlots = s.freeSlots ∧ (s.raiseRun l).products = s.products ∧ (s.raiseRun l).resort = s.resort
    ∧ (s.raiseRun l).history = s.history ∧ (s.raiseRun l).clock = s.clock ∧ (s.raiseRun l).calendar = s.calendar
    ∧ (s.raiseRun l).lifts = s.lifts ∧ (s.raiseRun l).scheme = s.scheme ∧ (s.raiseRun l).counts = s.counts
    ∧ (s.raiseRun l).tariff = s.tariff ∧ (s.raiseRun l).arbiter = s.arbiter ∧ (s.raiseRun l).sweep = s.sweep
    ∧ (s.raiseRun l).orderIndex = s.orderIndex ∧ (∀ z, (s.raiseRun l).lift z = s.lift z)
    ∧ (∀ z, (s.raiseRun l).entryAt z = s.entryAt z) ∧ (∀ z, (s.raiseRun l).product z = s.product z)
    ∧ (∀ z, (s.raiseRun l).liftOf z = s.liftOf z) := by
  simp [State.raiseRun]

@[simp] theorem State.clearRun_frame (s : State) (l : Lane) :
    (s.clearRun l).pending = s.pending ∧ (s.clearRun l).pins = s.pins ∧ (s.clearRun l).slots = s.slots
    ∧ (s.clearRun l).freeSlots = s.freeSlots ∧ (s.clearRun l).products = s.products ∧ (s.clearRun l).resort = s.resort
    ∧ (s.clearRun l).history = s.history ∧ (s.clearRun l).clock = s.clock ∧ (s.clearRun l).calendar = s.calendar
    ∧ (s.clearRun l).lifts = s.lifts ∧ (s.clearRun l).scheme = s.scheme ∧ (s.clearRun l).counts = s.counts
    ∧ (s.clearRun l).tariff = s.tariff ∧ (s.clearRun l).arbiter = s.arbiter ∧ (s.clearRun l).sweep = s.sweep
    ∧ (s.clearRun l).orderIndex = s.orderIndex ∧ (∀ z, (s.clearRun l).lift z = s.lift z)
    ∧ (∀ z, (s.clearRun l).entryAt z = s.entryAt z) ∧ (∀ z, (s.clearRun l).product z = s.product z)
    ∧ (∀ z, (s.clearRun l).liftOf z = s.liftOf z) := by
  simp [State.clearRun]

@[simp] theorem State.writeProfile_frame (s : State) (l : Lane) (p : Profile) :
    (s.writeProfile l p).pending = s.pending ∧ (s.writeProfile l p).pins = s.pins
    ∧ (s.writeProfile l p).slots = s.slots ∧ (s.writeProfile l p).freeSlots = s.freeSlots
    ∧ (s.writeProfile l p).products = s.products ∧ (s.writeProfile l p).resort = s.resort
    ∧ (s.writeProfile l p).history = s.history ∧ (s.writeProfile l p).clock = s.clock
    ∧ (s.writeProfile l p).calendar = s.calendar ∧ (s.writeProfile l p).lifts = s.lifts
    ∧ (s.writeProfile l p).scheme = s.scheme ∧ (s.writeProfile l p).counts = s.counts
    ∧ (s.writeProfile l p).tariff = s.tariff ∧ (s.writeProfile l p).arbiter = s.arbiter
    ∧ (s.writeProfile l p).sweep = s.sweep ∧ (s.writeProfile l p).orderIndex = s.orderIndex
    ∧ (∀ z, (s.writeProfile l p).lift z = s.lift z) ∧ (∀ z, (s.writeProfile l p).entryAt z = s.entryAt z)
    ∧ (∀ z, (s.writeProfile l p).product z = s.product z) ∧ (∀ z, (s.writeProfile l p).liftOf z = s.liftOf z) := by
  simp [State.writeProfile]

@[simp] theorem State.nameState_frame (s : State) (l : Lane) (c : Option WorkState) :
    (s.nameState l c).pending = s.pending ∧ (s.nameState l c).pins = s.pins
    ∧ (s.nameState l c).freeSlots = s.freeSlots ∧ (s.nameState l c).products = s.products
    ∧ (s.nameState l c).resort = s.resort ∧ (s.nameState l c).clock = s.clock
    ∧ (s.nameState l c).calendar = s.calendar ∧ (s.nameState l c).scheme = s.scheme
    ∧ (s.nameState l c).tariff = s.tariff ∧ (s.nameState l c).arbiter = s.arbiter ∧ (s.nameState l c).sweep = s.sweep
    ∧ (s.nameState l c).orderIndex = s.orderIndex ∧ (∀ z, (s.nameState l c).product z = s.product z)
    ∧ (∀ z, (s.nameState l c).liftOf z = s.liftOf z) := by
  simp only [State.nameState]; repeat' split
  all_goals simp

@[simp] theorem State.track_frame (s : State) (l : Lane) (n : Nat) :
    ((s.track l n).1).pending = s.pending ∧ ((s.track l n).1).pins = s.pins
    ∧ ((s.track l n).1).freeSlots = s.freeSlots ∧ ((s.track l n).1).products = s.products
    ∧ ((s.track l n).1).resort = s.resort ∧ ((s.track l n).1).clock = s.clock
    ∧ ((s.track l n).1).calendar = s.calendar ∧ ((s.track l n).1).scheme = s.scheme
    ∧ ((s.track l n).1).tariff = s.tariff ∧ ((s.track l n).1).arbiter = s.arbiter ∧ ((s.track l n).1).sweep = s.sweep
    ∧ ((s.track l n).1).orderIndex = s.orderIndex ∧ (∀ z, ((s.track l n).1).product z = s.product z)
    ∧ (∀ z, ((s.track l n).1).liftOf z = s.liftOf z) := by
  simp only [State.track]; split <;> simp

@[simp] theorem State.endOtherDwell_frame (s : State) (l : Lane) (n : Nat) :
    (s.endOtherDwell l n).pending = s.pending ∧ (s.endOtherDwell l n).pins = s.pins
    ∧ (s.endOtherDwell l n).gates = s.gates ∧ (s.endOtherDwell l n).office = s.office
    ∧ (s.endOtherDwell l n).slots = s.slots ∧ (s.endOtherDwell l n).freeSlots = s.freeSlots
    ∧ (s.endOtherDwell l n).products = s.products ∧ (s.endOtherDwell l n).resort = s.resort
    ∧ (s.endOtherDwell l n).history = s.history ∧ (s.endOtherDwell l n).clock = s.clock
    ∧ (s.endOtherDwell l n).calendar = s.calendar ∧ (s.endOtherDwell l n).lifts = s.lifts
    ∧ (s.endOtherDwell l n).scheme = s.scheme ∧ (s.endOtherDwell l n).counts = s.counts
    ∧ (s.endOtherDwell l n).tariff = s.tariff ∧ (s.endOtherDwell l n).arbiter = s.arbiter
    ∧ (s.endOtherDwell l n).sweep = s.sweep ∧ (s.endOtherDwell l n).orderIndex = s.orderIndex
    ∧ (∀ z, (s.endOtherDwell l n).lift z = s.lift z) ∧ (∀ z, (s.endOtherDwell l n).port z = s.port z)
    ∧ (∀ z, (s.endOtherDwell l n).entryAt z = s.entryAt z) ∧ (∀ z, (s.endOtherDwell l n).product z = s.product z)
    ∧ (∀ z, (s.endOtherDwell l n).liftOf z = s.liftOf z) := by
  simp only [State.endOtherDwell]; repeat' split
  all_goals simp

@[simp] theorem State.setLanes_frame (s : State) (ls : List Lane) (c : Option WorkState) (p : Profile) :
    (s.setLanes ls c p).pending = s.pending ∧ (s.setLanes ls c p).pins = s.pins
    ∧ (s.setLanes ls c p).freeSlots = s.freeSlots ∧ (s.setLanes ls c p).products = s.products
    ∧ (s.setLanes ls c p).resort = s.resort ∧ (s.setLanes ls c p).clock = s.clock
    ∧ (s.setLanes ls c p).calendar = s.calendar ∧ (s.setLanes ls c p).scheme = s.scheme
    ∧ (s.setLanes ls c p).tariff = s.tariff ∧ (s.setLanes ls c p).arbiter = s.arbiter
    ∧ (s.setLanes ls c p).sweep = s.sweep ∧ (∀ z, (s.setLanes ls c p).product z = s.product z)
    ∧ (∀ z, (s.setLanes ls c p).liftOf z = s.liftOf z) := by
  have h := fun g => foldl_keeps
    (fun t : State => (t.pending, t.pins, t.freeSlots, t.products, t.resort, t.clock, t.calendar, t.scheme,
     t.tariff, t.arbiter, t.sweep))
    State.releaseHold (fun t l => by simp) (s.freeOrder g) s
  have h' := foldl_keeps
    (fun t : State => (t.pending, t.pins, t.freeSlots, t.products, t.resort, t.clock, t.calendar, t.scheme,
     t.tariff, t.arbiter, t.sweep))
    (fun t l => (t.nameState l c).writeProfile l p) (fun t l => by simp) ls
  simp_all [State.setLanes, State.product, State.liftOf]

/-! ### The sweep -/

@[simp] theorem State.setWalk_frame (s : State) (w : Option Walk) :
    (s.setWalk w).pending = s.pending ∧ (s.setWalk w).pins = s.pins ∧ (s.setWalk w).gates = s.gates
    ∧ (s.setWalk w).office = s.office ∧ (s.setWalk w).slots = s.slots ∧ (s.setWalk w).freeSlots = s.freeSlots
    ∧ (s.setWalk w).products = s.products ∧ (s.setWalk w).resort = s.resort ∧ (s.setWalk w).history = s.history
    ∧ (s.setWalk w).clock = s.clock ∧ (s.setWalk w).calendar = s.calendar ∧ (s.setWalk w).lanes = s.lanes
    ∧ (s.setWalk w).lifts = s.lifts ∧ (s.setWalk w).scheme = s.scheme ∧ (s.setWalk w).counts = s.counts
    ∧ (s.setWalk w).tariff = s.tariff ∧ (s.setWalk w).arbiter = s.arbiter ∧ (s.setWalk w).orderIndex = s.orderIndex
    ∧ (∀ z, (s.setWalk w).lane z = s.lane z) ∧ (∀ z, (s.setWalk w).lift z = s.lift z)
    ∧ (∀ z, (s.setWalk w).port z = s.port z) ∧ (∀ z, (s.setWalk w).entryAt z = s.entryAt z)
    ∧ (∀ z, (s.setWalk w).product z = s.product z) ∧ (∀ z, (s.setWalk w).liftOf z = s.liftOf z) := by
  simp [State.setWalk]

@[simp] theorem State.toMust_frame (s : State) :
    (s.toMust).pending = s.pending ∧ (s.toMust).pins = s.pins ∧ (s.toMust).gates = s.gates
    ∧ (s.toMust).office = s.office ∧ (s.toMust).slots = s.slots ∧ (s.toMust).freeSlots = s.freeSlots
    ∧ (s.toMust).products = s.products ∧ (s.toMust).resort = s.resort ∧ (s.toMust).history = s.history
    ∧ (s.toMust).clock = s.clock ∧ (s.toMust).calendar = s.calendar ∧ (s.toMust).lanes = s.lanes
    ∧ (s.toMust).lifts = s.lifts ∧ (s.toMust).scheme = s.scheme ∧ (s.toMust).counts = s.counts
    ∧ (s.toMust).tariff = s.tariff ∧ (s.toMust).arbiter = s.arbiter ∧ (s.toMust).orderIndex = s.orderIndex
    ∧ (∀ z, (s.toMust).lane z = s.lane z) ∧ (∀ z, (s.toMust).lift z = s.lift z) ∧ (∀ z, (s.toMust).port z = s.port z)
    ∧ (∀ z, (s.toMust).entryAt z = s.entryAt z) ∧ (∀ z, (s.toMust).product z = s.product z)
    ∧ (∀ z, (s.toMust).liftOf z = s.liftOf z) := by
  simp only [State.toMust]; split <;> simp

@[simp] theorem State.tableLowTest_frame (s : State) :
    (s.tableLowTest).pending = s.pending ∧ (s.tableLowTest).pins = s.pins ∧ (s.tableLowTest).gates = s.gates
    ∧ (s.tableLowTest).office = s.office ∧ (s.tableLowTest).slots = s.slots ∧ (s.tableLowTest).freeSlots = s.freeSlots
    ∧ (s.tableLowTest).products = s.products ∧ (s.tableLowTest).resort = s.resort
    ∧ (s.tableLowTest).history = s.history ∧ (s.tableLowTest).clock = s.clock ∧ (s.tableLowTest).calendar = s.calendar
    ∧ (s.tableLowTest).lanes = s.lanes ∧ (s.tableLowTest).lifts = s.lifts ∧ (s.tableLowTest).scheme = s.scheme
    ∧ (s.tableLowTest).counts = s.counts ∧ (s.tableLowTest).tariff = s.tariff ∧ (s.tableLowTest).arbiter = s.arbiter
    ∧ (s.tableLowTest).orderIndex = s.orderIndex ∧ (∀ z, (s.tableLowTest).lane z = s.lane z)
    ∧ (∀ z, (s.tableLowTest).lift z = s.lift z) ∧ (∀ z, (s.tableLowTest).port z = s.port z)
    ∧ (∀ z, (s.tableLowTest).entryAt z = s.entryAt z) ∧ (∀ z, (s.tableLowTest).product z = s.product z)
    ∧ (∀ z, (s.tableLowTest).liftOf z = s.liftOf z) := by
  simp only [State.tableLowTest]; split <;> simp

@[simp] theorem State.deadlineTest_frame (s : State) :
    (s.deadlineTest).pending = s.pending ∧ (s.deadlineTest).pins = s.pins ∧ (s.deadlineTest).slots = s.slots
    ∧ (s.deadlineTest).freeSlots = s.freeSlots ∧ (s.deadlineTest).products = s.products
    ∧ (s.deadlineTest).resort = s.resort ∧ (s.deadlineTest).history = s.history ∧ (s.deadlineTest).clock = s.clock
    ∧ (s.deadlineTest).calendar = s.calendar ∧ (s.deadlineTest).lanes = s.lanes ∧ (s.deadlineTest).lifts = s.lifts
    ∧ (s.deadlineTest).scheme = s.scheme ∧ (s.deadlineTest).counts = s.counts ∧ (s.deadlineTest).tariff = s.tariff
    ∧ (s.deadlineTest).arbiter = s.arbiter ∧ (s.deadlineTest).orderIndex = s.orderIndex
    ∧ (∀ z, (s.deadlineTest).lane z = s.lane z) ∧ (∀ z, (s.deadlineTest).lift z = s.lift z)
    ∧ (∀ z, (s.deadlineTest).entryAt z = s.entryAt z) ∧ (∀ z, (s.deadlineTest).product z = s.product z)
    ∧ (∀ z, (s.deadlineTest).liftOf z = s.liftOf z) := by
  simp only [State.deadlineTest]; split <;> simp

@[simp] theorem State.setFreeSlots_frame (s : State) (n : Nat) :
    (s.setFreeSlots n).pending = s.pending ∧ (s.setFreeSlots n).pins = s.pins ∧ (s.setFreeSlots n).slots = s.slots
    ∧ (s.setFreeSlots n).products = s.products ∧ (s.setFreeSlots n).resort = s.resort
    ∧ (s.setFreeSlots n).history = s.history ∧ (s.setFreeSlots n).clock = s.clock
    ∧ (s.setFreeSlots n).calendar = s.calendar ∧ (s.setFreeSlots n).lanes = s.lanes
    ∧ (s.setFreeSlots n).lifts = s.lifts ∧ (s.setFreeSlots n).scheme = s.scheme ∧ (s.setFreeSlots n).counts = s.counts
    ∧ (s.setFreeSlots n).tariff = s.tariff ∧ (s.setFreeSlots n).arbiter = s.arbiter
    ∧ (s.setFreeSlots n).orderIndex = s.orderIndex ∧ (∀ z, (s.setFreeSlots n).lane z = s.lane z)
    ∧ (∀ z, (s.setFreeSlots n).lift z = s.lift z) ∧ (∀ z, (s.setFreeSlots n).entryAt z = s.entryAt z)
    ∧ (∀ z, (s.setFreeSlots n).product z = s.product z) ∧ (∀ z, (s.setFreeSlots n).liftOf z = s.liftOf z) := by
  simp [State.setFreeSlots]

@[simp] theorem State.startSweep_frame (s : State) :
    (s.startSweep).pending = s.pending ∧ (s.startSweep).pins = s.pins ∧ (s.startSweep).slots = s.slots
    ∧ (s.startSweep).freeSlots = s.freeSlots ∧ (s.startSweep).products = s.products ∧ (s.startSweep).resort = s.resort
    ∧ (s.startSweep).history = s.history ∧ (s.startSweep).clock = s.clock ∧ (s.startSweep).calendar = s.calendar
    ∧ (s.startSweep).lanes = s.lanes ∧ (s.startSweep).lifts = s.lifts ∧ (s.startSweep).scheme = s.scheme
    ∧ (s.startSweep).counts = s.counts ∧ (s.startSweep).tariff = s.tariff ∧ (s.startSweep).arbiter = s.arbiter
    ∧ (s.startSweep).orderIndex = s.orderIndex ∧ (∀ z, (s.startSweep).lane z = s.lane z)
    ∧ (∀ z, (s.startSweep).lift z = s.lift z) ∧ (∀ z, (s.startSweep).entryAt z = s.entryAt z)
    ∧ (∀ z, (s.startSweep).product z = s.product z) ∧ (∀ z, (s.startSweep).liftOf z = s.liftOf z) := by
  simp only [State.startSweep]; split <;> simp

@[simp] theorem State.retire_frame (s : State) (n : Nat) (e : Entry) :
    (s.retire n e).pending = s.pending ∧ (s.retire n e).pins = s.pins ∧ (s.retire n e).products = s.products
    ∧ (s.retire n e).resort = s.resort ∧ (s.retire n e).clock = s.clock ∧ (s.retire n e).calendar = s.calendar
    ∧ (s.retire n e).lanes = s.lanes ∧ (s.retire n e).lifts = s.lifts ∧ (s.retire n e).scheme = s.scheme
    ∧ (s.retire n e).counts = s.counts ∧ (s.retire n e).tariff = s.tariff ∧ (s.retire n e).arbiter = s.arbiter
    ∧ (s.retire n e).orderIndex = s.orderIndex ∧ (∀ z, (s.retire n e).lane z = s.lane z)
    ∧ (∀ z, (s.retire n e).lift z = s.lift z) ∧ (∀ z, (s.retire n e).product z = s.product z)
    ∧ (∀ z, (s.retire n e).liftOf z = s.liftOf z) := by
  simp [State.retire]

@[simp] theorem State.visitSlot_frame (s : State) (n : Nat) :
    (s.visitSlot n).pending = s.pending ∧ (s.visitSlot n).pins = s.pins ∧ (s.visitSlot n).products = s.products
    ∧ (s.visitSlot n).resort = s.resort ∧ (s.visitSlot n).clock = s.clock ∧ (s.visitSlot n).calendar = s.calendar
    ∧ (s.visitSlot n).lanes = s.lanes ∧ (s.visitSlot n).lifts = s.lifts ∧ (s.visitSlot n).scheme = s.scheme
    ∧ (s.visitSlot n).counts = s.counts ∧ (s.visitSlot n).tariff = s.tariff ∧ (s.visitSlot n).arbiter = s.arbiter
    ∧ (s.visitSlot n).orderIndex = s.orderIndex ∧ (∀ z, (s.visitSlot n).lane z = s.lane z)
    ∧ (∀ z, (s.visitSlot n).lift z = s.lift z) ∧ (∀ z, (s.visitSlot n).product z = s.product z)
    ∧ (∀ z, (s.visitSlot n).liftOf z = s.liftOf z) := by
  simp only [State.visitSlot]; repeat' split
  all_goals simp

@[simp] theorem State.endBatch_frame (s : State) (n : Nat) :
    (s.endBatch n).pending = s.pending ∧ (s.endBatch n).pins = s.pins ∧ (s.endBatch n).slots = s.slots
    ∧ (s.endBatch n).freeSlots = s.freeSlots ∧ (s.endBatch n).products = s.products ∧ (s.endBatch n).resort = s.resort
    ∧ (s.endBatch n).history = s.history ∧ (s.endBatch n).clock = s.clock ∧ (s.endBatch n).calendar = s.calendar
    ∧ (s.endBatch n).lanes = s.lanes ∧ (s.endBatch n).lifts = s.lifts ∧ (s.endBatch n).scheme = s.scheme
    ∧ (s.endBatch n).counts = s.counts ∧ (s.endBatch n).tariff = s.tariff ∧ (s.endBatch n).arbiter = s.arbiter
    ∧ (s.endBatch n).orderIndex = s.orderIndex ∧ (∀ z, (s.endBatch n).lane z = s.lane z)
    ∧ (∀ z, (s.endBatch n).lift z = s.lift z) ∧ (∀ z, (s.endBatch n).entryAt z = s.entryAt z)
    ∧ (∀ z, (s.endBatch n).product z = s.product z) ∧ (∀ z, (s.endBatch n).liftOf z = s.liftOf z) := by
  simp only [State.endBatch]; repeat' split
  all_goals simp

@[simp] theorem State.sweepBatch_frame (s : State) :
    (s.sweepBatch).pending = s.pending ∧ (s.sweepBatch).pins = s.pins ∧ (s.sweepBatch).products = s.products
    ∧ (s.sweepBatch).resort = s.resort ∧ (s.sweepBatch).clock = s.clock ∧ (s.sweepBatch).calendar = s.calendar
    ∧ (s.sweepBatch).lanes = s.lanes ∧ (s.sweepBatch).lifts = s.lifts ∧ (s.sweepBatch).scheme = s.scheme
    ∧ (s.sweepBatch).counts = s.counts ∧ (s.sweepBatch).tariff = s.tariff ∧ (s.sweepBatch).arbiter = s.arbiter
    ∧ (s.sweepBatch).orderIndex = s.orderIndex ∧ (∀ z, (s.sweepBatch).lane z = s.lane z)
    ∧ (∀ z, (s.sweepBatch).lift z = s.lift z) ∧ (∀ z, (s.sweepBatch).product z = s.product z)
    ∧ (∀ z, (s.sweepBatch).liftOf z = s.liftOf z) := by
  unfold State.sweepBatch; split
  · simp
  · have h := fun g => foldl_keeps
      (fun t : State => (t.pending, t.pins, t.products, t.resort, t.clock, t.calendar, t.lanes, t.lifts,
       t.scheme, t.counts, t.tariff, t.arbiter, t.orderIndex))
      State.visitSlot (fun t n => by simp) g s
    simp_all [State.lane, State.lift, State.product, State.liftOf]

/-! ### Grants and ports -/

@[simp] theorem State.charge_frame (s : State) (g : Grant) :
    (s.charge g).pending = s.pending ∧ (s.charge g).pins = s.pins ∧ (s.charge g).gates = s.gates
    ∧ (s.charge g).office = s.office ∧ (s.charge g).slots = s.slots ∧ (s.charge g).freeSlots = s.freeSlots
    ∧ (s.charge g).products = s.products ∧ (s.charge g).resort = s.resort ∧ (s.charge g).history = s.history
    ∧ (s.charge g).clock = s.clock ∧ (s.charge g).calendar = s.calendar ∧ (s.charge g).lanes = s.lanes
    ∧ (s.charge g).lifts = s.lifts ∧ (s.charge g).scheme = s.scheme ∧ (s.charge g).counts = s.counts
    ∧ (s.charge g).tariff = s.tariff ∧ (s.charge g).orderIndex = s.orderIndex ∧ (∀ z, (s.charge g).lane z = s.lane z)
    ∧ (∀ z, (s.charge g).lift z = s.lift z) ∧ (∀ z, (s.charge g).port z = s.port z)
    ∧ (∀ z, (s.charge g).entryAt z = s.entryAt z) ∧ (∀ z, (s.charge g).product z = s.product z)
    ∧ (∀ z, (s.charge g).liftOf z = s.liftOf z) := by
  simp [State.charge]

@[simp] theorem State.opened_frame (s : State) (p : Port) (code : Byte) :
    (s.opened p code).pending = s.pending ∧ (s.opened p code).pins = s.pins ∧ (s.opened p code).slots = s.slots
    ∧ (s.opened p code).freeSlots = s.freeSlots ∧ (s.opened p code).products = s.products
    ∧ (s.opened p code).resort = s.resort ∧ (s.opened p code).history = s.history
    ∧ (s.opened p code).clock = s.clock ∧ (s.opened p code).calendar = s.calendar
    ∧ (s.opened p code).lanes = s.lanes ∧ (s.opened p code).lifts = s.lifts
    ∧ (s.opened p code).scheme = s.scheme ∧ (s.opened p code).counts = s.counts
    ∧ (s.opened p code).tariff = s.tariff ∧ (s.opened p code).arbiter = s.arbiter
    ∧ (s.opened p code).sweep = s.sweep ∧ (s.opened p code).orderIndex = s.orderIndex
    ∧ (∀ z, (s.opened p code).lane z = s.lane z) ∧ (∀ z, (s.opened p code).lift z = s.lift z)
    ∧ (∀ z, (s.opened p code).entryAt z = s.entryAt z) ∧ (∀ z, (s.opened p code).product z = s.product z)
    ∧ (∀ z, (s.opened p code).liftOf z = s.liftOf z) := by
  simp [State.opened]

@[simp] theorem State.inProgress_frame (s : State) (p : Port) (x : Option Transaction) :
    (s.inProgress p x).pending = s.pending ∧ (s.inProgress p x).pins = s.pins ∧ (s.inProgress p x).slots = s.slots
    ∧ (s.inProgress p x).freeSlots = s.freeSlots ∧ (s.inProgress p x).products = s.products
    ∧ (s.inProgress p x).resort = s.resort ∧ (s.inProgress p x).history = s.history
    ∧ (s.inProgress p x).clock = s.clock ∧ (s.inProgress p x).calendar = s.calendar
    ∧ (s.inProgress p x).lanes = s.lanes ∧ (s.inProgress p x).lifts = s.lifts
    ∧ (s.inProgress p x).scheme = s.scheme ∧ (s.inProgress p x).counts = s.counts
    ∧ (s.inProgress p x).tariff = s.tariff ∧ (s.inProgress p x).arbiter = s.arbiter
    ∧ (s.inProgress p x).sweep = s.sweep ∧ (s.inProgress p x).orderIndex = s.orderIndex
    ∧ (∀ z, (s.inProgress p x).lane z = s.lane z) ∧ (∀ z, (s.inProgress p x).lift z = s.lift z)
    ∧ (∀ z, (s.inProgress p x).entryAt z = s.entryAt z) ∧ (∀ z, (s.inProgress p x).product z = s.product z)
    ∧ (∀ z, (s.inProgress p x).liftOf z = s.liftOf z) := by
  simp [State.inProgress]

@[simp] theorem State.shiftOut_frame (s : State) (p : Port) (n : Nat) (ends : Bool) :
    (s.shiftOut p n ends).pending = s.pending ∧ (s.shiftOut p n ends).pins = s.pins ∧ (s.shiftOut p n ends).slots = s.slots
    ∧ (s.shiftOut p n ends).freeSlots = s.freeSlots ∧ (s.shiftOut p n ends).products = s.products
    ∧ (s.shiftOut p n ends).resort = s.resort ∧ (s.shiftOut p n ends).history = s.history
    ∧ (s.shiftOut p n ends).clock = s.clock ∧ (s.shiftOut p n ends).calendar = s.calendar
    ∧ (s.shiftOut p n ends).lanes = s.lanes ∧ (s.shiftOut p n ends).lifts = s.lifts
    ∧ (s.shiftOut p n ends).scheme = s.scheme ∧ (s.shiftOut p n ends).counts = s.counts
    ∧ (s.shiftOut p n ends).tariff = s.tariff ∧ (s.shiftOut p n ends).arbiter = s.arbiter
    ∧ (s.shiftOut p n ends).sweep = s.sweep ∧ (s.shiftOut p n ends).orderIndex = s.orderIndex
    ∧ (∀ z, (s.shiftOut p n ends).lane z = s.lane z) ∧ (∀ z, (s.shiftOut p n ends).lift z = s.lift z)
    ∧ (∀ z, (s.shiftOut p n ends).entryAt z = s.entryAt z) ∧ (∀ z, (s.shiftOut p n ends).product z = s.product z)
    ∧ (∀ z, (s.shiftOut p n ends).liftOf z = s.liftOf z) := by
  unfold State.shiftOut; split <;> simp

@[simp] theorem State.enqueue_frame (s : State) (p : Port) (f : Frame) (r : Role) :
    (s.enqueue p f r).pending = s.pending ∧ (s.enqueue p f r).pins = s.pins ∧ (s.enqueue p f r).slots = s.slots
    ∧ (s.enqueue p f r).freeSlots = s.freeSlots ∧ (s.enqueue p f r).products = s.products
    ∧ (s.enqueue p f r).resort = s.resort ∧ (s.enqueue p f r).history = s.history ∧ (s.enqueue p f r).clock = s.clock
    ∧ (s.enqueue p f r).calendar = s.calendar ∧ (s.enqueue p f r).lanes = s.lanes ∧ (s.enqueue p f r).lifts = s.lifts
    ∧ (s.enqueue p f r).scheme = s.scheme ∧ (s.enqueue p f r).counts = s.counts ∧ (s.enqueue p f r).tariff = s.tariff
    ∧ (s.enqueue p f r).arbiter = s.arbiter ∧ (s.enqueue p f r).sweep = s.sweep
    ∧ (s.enqueue p f r).orderIndex = s.orderIndex ∧ (∀ z, (s.enqueue p f r).lane z = s.lane z)
    ∧ (∀ z, (s.enqueue p f r).lift z = s.lift z) ∧ (∀ z, (s.enqueue p f r).entryAt z = s.entryAt z)
    ∧ (∀ z, (s.enqueue p f r).product z = s.product z) ∧ (∀ z, (s.enqueue p f r).liftOf z = s.liftOf z) := by
  simp [State.enqueue]

@[simp] theorem State.complete_frame (s : State) (p : Port) (i : Nat) (f : Frame) (bs : List Byte) :
    (s.complete p i f bs).pending = s.pending ∧ (s.complete p i f bs).pins = s.pins
    ∧ (s.complete p i f bs).slots = s.slots ∧ (s.complete p i f bs).freeSlots = s.freeSlots
    ∧ (s.complete p i f bs).products = s.products ∧ (s.complete p i f bs).resort = s.resort
    ∧ (s.complete p i f bs).history = s.history ∧ (s.complete p i f bs).clock = s.clock
    ∧ (s.complete p i f bs).calendar = s.calendar ∧ (s.complete p i f bs).lanes = s.lanes
    ∧ (s.complete p i f bs).lifts = s.lifts ∧ (s.complete p i f bs).scheme = s.scheme
    ∧ (s.complete p i f bs).counts = s.counts ∧ (s.complete p i f bs).tariff = s.tariff
    ∧ (s.complete p i f bs).arbiter = s.arbiter ∧ (s.complete p i f bs).sweep = s.sweep
    ∧ (s.complete p i f bs).orderIndex = s.orderIndex ∧ (∀ z, (s.complete p i f bs).lane z = s.lane z)
    ∧ (∀ z, (s.complete p i f bs).lift z = s.lift z) ∧ (∀ z, (s.complete p i f bs).entryAt z = s.entryAt z)
    ∧ (∀ z, (s.complete p i f bs).product z = s.product z) ∧ (∀ z, (s.complete p i f bs).liftOf z = s.liftOf z) := by
  simp [State.complete]

/-! ### Entries and validation -/

@[simp] theorem State.place_frame (s : State) (n : Nat) (e : Entry) :
    (s.place n e).pending = s.pending ∧ (s.place n e).pins = s.pins ∧ (s.place n e).products = s.products
    ∧ (s.place n e).resort = s.resort ∧ (s.place n e).history = s.history ∧ (s.place n e).clock = s.clock
    ∧ (s.place n e).calendar = s.calendar ∧ (s.place n e).lanes = s.lanes ∧ (s.place n e).lifts = s.lifts
    ∧ (s.place n e).scheme = s.scheme ∧ (s.place n e).counts = s.counts ∧ (s.place n e).tariff = s.tariff
    ∧ (s.place n e).arbiter = s.arbiter ∧ (s.place n e).orderIndex = s.orderIndex
    ∧ (∀ z, (s.place n e).lane z = s.lane z) ∧ (∀ z, (s.place n e).lift z = s.lift z)
    ∧ (∀ z, (s.place n e).product z = s.product z) ∧ (∀ z, (s.place n e).liftOf z = s.liftOf z) := by
  simp [State.place]

@[simp] theorem State.grant_frame (s : State) (l : Lane) (n : Nat) (e : Entry) (q : LiveState) :
    (s.grant l n e q).pending = s.pending ∧ (s.grant l n e q).pins = s.pins
    ∧ (s.grant l n e q).freeSlots = s.freeSlots ∧ (s.grant l n e q).products = s.products
    ∧ (s.grant l n e q).resort = s.resort ∧ (s.grant l n e q).clock = s.clock
    ∧ (s.grant l n e q).calendar = s.calendar ∧ (s.grant l n e q).scheme = s.scheme
    ∧ (s.grant l n e q).counts = s.counts ∧ (s.grant l n e q).tariff = s.tariff
    ∧ (s.grant l n e q).arbiter = s.arbiter ∧ (s.grant l n e q).sweep = s.sweep
    ∧ (s.grant l n e q).orderIndex = s.orderIndex ∧ (∀ z, (s.grant l n e q).product z = s.product z)
    ∧ (∀ z, (s.grant l n e q).liftOf z = s.liftOf z) := by
  simp [State.grant]

@[simp] theorem State.countVerdict_frame (s : State) (v : Code) (l : Lane) :
    (s.countVerdict v l).pending = s.pending ∧ (s.countVerdict v l).pins = s.pins
    ∧ (s.countVerdict v l).slots = s.slots ∧ (s.countVerdict v l).freeSlots = s.freeSlots
    ∧ (s.countVerdict v l).products = s.products ∧ (s.countVerdict v l).resort = s.resort
    ∧ (s.countVerdict v l).history = s.history ∧ (s.countVerdict v l).clock = s.clock
    ∧ (s.countVerdict v l).calendar = s.calendar ∧ (s.countVerdict v l).lanes = s.lanes
    ∧ (s.countVerdict v l).lifts = s.lifts ∧ (s.countVerdict v l).scheme = s.scheme
    ∧ (s.countVerdict v l).tariff = s.tariff ∧ (s.countVerdict v l).arbiter = s.arbiter
    ∧ (s.countVerdict v l).sweep = s.sweep ∧ (s.countVerdict v l).orderIndex = s.orderIndex
    ∧ (∀ z, (s.countVerdict v l).lane z = s.lane z) ∧ (∀ z, (s.countVerdict v l).lift z = s.lift z)
    ∧ (∀ z, (s.countVerdict v l).entryAt z = s.entryAt z) ∧ (∀ z, (s.countVerdict v l).product z = s.product z)
    ∧ (∀ z, (s.countVerdict v l).liftOf z = s.liftOf z) := by
  simp only [State.countVerdict]; split <;> simp

@[simp] theorem State.presentUnreadable_frame (s : State) (l : Lane) (r : Reason) :
    ((s.presentUnreadable l r).1).pending = s.pending ∧ ((s.presentUnreadable l r).1).pins = s.pins
    ∧ ((s.presentUnreadable l r).1).slots = s.slots ∧ ((s.presentUnreadable l r).1).freeSlots = s.freeSlots
    ∧ ((s.presentUnreadable l r).1).products = s.products ∧ ((s.presentUnreadable l r).1).resort = s.resort
    ∧ ((s.presentUnreadable l r).1).history = s.history ∧ ((s.presentUnreadable l r).1).clock = s.clock
    ∧ ((s.presentUnreadable l r).1).calendar = s.calendar ∧ ((s.presentUnreadable l r).1).lifts = s.lifts
    ∧ ((s.presentUnreadable l r).1).scheme = s.scheme ∧ ((s.presentUnreadable l r).1).tariff = s.tariff
    ∧ ((s.presentUnreadable l r).1).arbiter = s.arbiter ∧ ((s.presentUnreadable l r).1).sweep = s.sweep
    ∧ ((s.presentUnreadable l r).1).orderIndex = s.orderIndex ∧ (∀ z, ((s.presentUnreadable l r).1).lift z = s.lift z)
    ∧ (∀ z, ((s.presentUnreadable l r).1).entryAt z = s.entryAt z)
    ∧ (∀ z, ((s.presentUnreadable l r).1).product z = s.product z)
    ∧ (∀ z, ((s.presentUnreadable l r).1).liftOf z = s.liftOf z) := by
  simp [State.presentUnreadable]

@[simp] theorem State.presentTracked_frame (s : State) (v : Code) (l : Lane) (n pass : Nat) :
    ((s.presentTracked v l n pass).1).pending = s.pending ∧ ((s.presentTracked v l n pass).1).pins = s.pins
    ∧ ((s.presentTracked v l n pass).1).freeSlots = s.freeSlots
    ∧ ((s.presentTracked v l n pass).1).products = s.products ∧ ((s.presentTracked v l n pass).1).resort = s.resort
    ∧ ((s.presentTracked v l n pass).1).clock = s.clock ∧ ((s.presentTracked v l n pass).1).calendar = s.calendar
    ∧ ((s.presentTracked v l n pass).1).scheme = s.scheme ∧ ((s.presentTracked v l n pass).1).tariff = s.tariff
    ∧ ((s.presentTracked v l n pass).1).arbiter = s.arbiter ∧ ((s.presentTracked v l n pass).1).sweep = s.sweep
    ∧ ((s.presentTracked v l n pass).1).orderIndex = s.orderIndex
    ∧ (∀ z, ((s.presentTracked v l n pass).1).product z = s.product z)
    ∧ (∀ z, ((s.presentTracked v l n pass).1).liftOf z = s.liftOf z) := by
  simp [State.presentTracked]

@[simp] theorem State.presentAdmit_frame (s : State) (l : Lane) (n : Nat) (e : Entry) (q : LiveState) :
    ((s.presentAdmit l n e q).1).pending = s.pending ∧ ((s.presentAdmit l n e q).1).pins = s.pins
    ∧ ((s.presentAdmit l n e q).1).freeSlots = s.freeSlots ∧ ((s.presentAdmit l n e q).1).products = s.products
    ∧ ((s.presentAdmit l n e q).1).resort = s.resort ∧ ((s.presentAdmit l n e q).1).clock = s.clock
    ∧ ((s.presentAdmit l n e q).1).calendar = s.calendar ∧ ((s.presentAdmit l n e q).1).scheme = s.scheme
    ∧ ((s.presentAdmit l n e q).1).tariff = s.tariff ∧ ((s.presentAdmit l n e q).1).arbiter = s.arbiter
    ∧ ((s.presentAdmit l n e q).1).sweep = s.sweep ∧ ((s.presentAdmit l n e q).1).orderIndex = s.orderIndex
    ∧ (∀ z, ((s.presentAdmit l n e q).1).product z = s.product z)
    ∧ (∀ z, ((s.presentAdmit l n e q).1).liftOf z = s.liftOf z) := by
  unfold State.presentAdmit; split <;> simp

@[simp] theorem State.presentFound_frame (s : State) (v : Code) (l : Lane) (n : Nat) (e : Entry) :
    ((s.presentFound v l n e).1).pending = s.pending ∧ ((s.presentFound v l n e).1).pins = s.pins
    ∧ ((s.presentFound v l n e).1).freeSlots = s.freeSlots ∧ ((s.presentFound v l n e).1).products = s.products
    ∧ ((s.presentFound v l n e).1).resort = s.resort ∧ ((s.presentFound v l n e).1).clock = s.clock
    ∧ ((s.presentFound v l n e).1).calendar = s.calendar ∧ ((s.presentFound v l n e).1).scheme = s.scheme
    ∧ ((s.presentFound v l n e).1).tariff = s.tariff ∧ ((s.presentFound v l n e).1).arbiter = s.arbiter
    ∧ ((s.presentFound v l n e).1).sweep = s.sweep ∧ ((s.presentFound v l n e).1).orderIndex = s.orderIndex
    ∧ (∀ z, ((s.presentFound v l n e).1).product z = s.product z)
    ∧ (∀ z, ((s.presentFound v l n e).1).liftOf z = s.liftOf z) := by
  unfold State.presentFound; repeat' split
  all_goals simp

@[simp] theorem State.presentCard_frame (s : State) (l : Lane) (c : Card) :
    ((s.presentCard l c).1).pending = s.pending ∧ ((s.presentCard l c).1).pins = s.pins
    ∧ ((s.presentCard l c).1).freeSlots = s.freeSlots ∧ ((s.presentCard l c).1).products = s.products
    ∧ ((s.presentCard l c).1).resort = s.resort ∧ ((s.presentCard l c).1).clock = s.clock
    ∧ ((s.presentCard l c).1).calendar = s.calendar ∧ ((s.presentCard l c).1).scheme = s.scheme
    ∧ ((s.presentCard l c).1).tariff = s.tariff ∧ ((s.presentCard l c).1).arbiter = s.arbiter
    ∧ ((s.presentCard l c).1).sweep = s.sweep ∧ ((s.presentCard l c).1).orderIndex = s.orderIndex
    ∧ (∀ z, ((s.presentCard l c).1).product z = s.product z) ∧ (∀ z, ((s.presentCard l c).1).liftOf z = s.liftOf z) := by
  unfold State.presentCard; repeat' split
  all_goals simp

@[simp] theorem State.present_frame (s : State) (l : Lane) (x : Image) :
    ((s.present l x).1).pending = s.pending ∧ ((s.present l x).1).pins = s.pins
    ∧ ((s.present l x).1).freeSlots = s.freeSlots ∧ ((s.present l x).1).products = s.products
    ∧ ((s.present l x).1).resort = s.resort ∧ ((s.present l x).1).clock = s.clock
    ∧ ((s.present l x).1).calendar = s.calendar ∧ ((s.present l x).1).scheme = s.scheme
    ∧ ((s.present l x).1).tariff = s.tariff ∧ ((s.present l x).1).arbiter = s.arbiter
    ∧ ((s.present l x).1).sweep = s.sweep ∧ ((s.present l x).1).orderIndex = s.orderIndex
    ∧ (∀ z, ((s.present l x).1).product z = s.product z) ∧ (∀ z, ((s.present l x).1).liftOf z = s.liftOf z) := by
  unfold State.present; repeat' split
  all_goals simp

/-! ### The tick -/

@[simp] theorem State.tickClock_frame (s : State) :
    (s.tickClock).pending = s.pending ∧ (s.tickClock).pins = s.pins ∧ (s.tickClock).slots = s.slots
    ∧ (s.tickClock).freeSlots = s.freeSlots ∧ (s.tickClock).products = s.products ∧ (s.tickClock).resort = s.resort
    ∧ (s.tickClock).history = s.history ∧ (s.tickClock).calendar = s.calendar ∧ (s.tickClock).lanes = s.lanes
    ∧ (s.tickClock).lifts = s.lifts ∧ (s.tickClock).scheme = s.scheme ∧ (s.tickClock).tariff = s.tariff
    ∧ (s.tickClock).arbiter = s.arbiter ∧ (s.tickClock).orderIndex = s.orderIndex
    ∧ (∀ z, (s.tickClock).lane z = s.lane z) ∧ (∀ z, (s.tickClock).lift z = s.lift z)
    ∧ (∀ z, (s.tickClock).entryAt z = s.entryAt z) ∧ (∀ z, (s.tickClock).product z = s.product z)
    ∧ (∀ z, (s.tickClock).liftOf z = s.liftOf z) := by
  simp only [State.tickClock]; repeat' split
  all_goals simp

@[simp] theorem State.clocked_frame (s : State) (x : LiftLines) :
    (s.clocked x).pending = s.pending ∧ (s.clocked x).slots = s.slots ∧ (s.clocked x).freeSlots = s.freeSlots
    ∧ (s.clocked x).products = s.products ∧ (s.clocked x).resort = s.resort ∧ (s.clocked x).history = s.history
    ∧ (s.clocked x).calendar = s.calendar ∧ (s.clocked x).lanes = s.lanes ∧ (s.clocked x).lifts = s.lifts
    ∧ (s.clocked x).scheme = s.scheme ∧ (s.clocked x).tariff = s.tariff ∧ (s.clocked x).arbiter = s.arbiter
    ∧ (s.clocked x).orderIndex = s.orderIndex ∧ (∀ z, (s.clocked x).lane z = s.lane z)
    ∧ (∀ z, (s.clocked x).lift z = s.lift z) ∧ (∀ z, (s.clocked x).entryAt z = s.entryAt z)
    ∧ (∀ z, (s.clocked x).product z = s.product z) ∧ (∀ z, (s.clocked x).liftOf z = s.liftOf z) := by
  simp [State.clocked]

@[simp] theorem State.tickSweep_frame (s : State) (b : Bool) :
    (s.tickSweep b).pending = s.pending ∧ (s.tickSweep b).pins = s.pins ∧ (s.tickSweep b).slots = s.slots
    ∧ (s.tickSweep b).freeSlots = s.freeSlots ∧ (s.tickSweep b).products = s.products
    ∧ (s.tickSweep b).resort = s.resort ∧ (s.tickSweep b).history = s.history ∧ (s.tickSweep b).clock = s.clock
    ∧ (s.tickSweep b).calendar = s.calendar ∧ (s.tickSweep b).lanes = s.lanes ∧ (s.tickSweep b).lifts = s.lifts
    ∧ (s.tickSweep b).scheme = s.scheme ∧ (s.tickSweep b).counts = s.counts ∧ (s.tickSweep b).tariff = s.tariff
    ∧ (s.tickSweep b).arbiter = s.arbiter ∧ (s.tickSweep b).orderIndex = s.orderIndex
    ∧ (∀ z, (s.tickSweep b).lane z = s.lane z) ∧ (∀ z, (s.tickSweep b).lift z = s.lift z)
    ∧ (∀ z, (s.tickSweep b).entryAt z = s.entryAt z) ∧ (∀ z, (s.tickSweep b).product z = s.product z)
    ∧ (∀ z, (s.tickSweep b).liftOf z = s.liftOf z) := by
  simp only [State.tickSweep]; split <;> simp

@[simp] theorem State.tickAll_frame (s : State) (x : LiftLines) :
    (s.tickAll x).pending = s.pending ∧ (s.tickAll x).slots = s.slots ∧ (s.tickAll x).freeSlots = s.freeSlots
    ∧ (s.tickAll x).products = s.products ∧ (s.tickAll x).resort = s.resort ∧ (s.tickAll x).history = s.history
    ∧ (s.tickAll x).calendar = s.calendar ∧ (s.tickAll x).scheme = s.scheme ∧ (s.tickAll x).tariff = s.tariff
    ∧ (∀ z, (s.tickAll x).entryAt z = s.entryAt z) ∧ (∀ z, (s.tickAll x).product z = s.product z)
    ∧ (∀ z, (s.tickAll x).liftOf z = s.liftOf z) := by
  simp [State.tickAll, allLifts]

end Sys2Proof.Machine
end

