-- ==== Sys2Proof/Laws/Events.lean ====
section
/-! SUPPORT. The event unit: what each port is after an event was raised or a level condition was handed over. -/

namespace Sys2Proof.Machine

theorem mem_allEvents (e : Event) : e ∈ allEvents := by
  cases e with
  | laneState l | readerSuspect l | holdExpired l | tailgate l => revert l; decide
  | liftState f => revert f; decide
  | device d => cases d <;> decide

@[simp] theorem setFlag_contains (e x : Event) (fs : List Event) : (setFlag e fs).contains x = (x == e || fs.contains x) := by
  rw [Bool.eq_iff_iff]
  simp [setFlag, mem_allEvents]

theorem mem_setFlag (e x : Event) (fs : List Event) : x ∈ setFlag e fs ↔ x = e ∨ x ∈ fs := by
  simp [setFlag, mem_allEvents]

theorem setFlag_sublist (e : Event) (fs : List Event) : (setFlag e fs).Sublist allEvents := List.filter_sublist

@[simp] theorem setFlag_setFlag (e : Event) (fs : List Event) : setFlag e (setFlag e fs) = setFlag e fs := by
  simp only [setFlag]
  refine List.filter_congr fun x hx => ?_
  rw [Bool.eq_iff_iff]
  simp [hx]

/-- A port with one more flag set. -/
def PortRec.withFlag (r : PortRec) (e : Event) : PortRec := { r with flags := setFlag e r.flags }

@[simp] theorem PortRec.withFlag_fields (r : PortRec) (e : Event) :
    (r.withFlag e).requests = r.requests ∧ (r.withFlag e).responses = r.responses ∧ (r.withFlag e).restarted = r.restarted
    ∧ (r.withFlag e).flags = setFlag e r.flags ∧ (r.withFlag e).masks = r.masks ∧ (r.withFlag e).edges = r.edges
    ∧ (r.withFlag e).dataOut = r.dataOut := ⟨rfl, rfl, rfl, rfl, rfl, rfl, rfl⟩

@[simp] theorem PortRec.withFlag_withFlag (r : PortRec) (e : Event) : (r.withFlag e).withFlag e = r.withFlag e := by
  simp [PortRec.withFlag]

@[simp] theorem State.flagAt_port (s : State) (p q : Port) (e : Event) :
    (s.flagAt p e).port q = if q = p then (s.port p).withFlag e else s.port q := by simp [State.flagAt, PortRec.withFlag]

theorem foldl_flagAt_port (c : Port → Bool) (e : Event) (l : List Port) (s : State) (q : Port) :
    (l.foldl (fun t p => if c p then t.flagAt p e else t) s).port q
      = if q ∈ l ∧ c q = true then (s.port q).withFlag e else s.port q := by
  induction l generalizing s with
  | nil => simp
  | cons p l ih =>
    rw [List.foldl_cons, ih]
    by_cases hp : q = p
    · subst hp
      cases hc : c q <;> simp
    · have : (if c p = true then s.flagAt p e else s).port q = s.port q := by split <;> simp [hp]
      simp [this, hp]

/-- A raised event sets its flag at every port it reaches, and changes nothing else at a port (R190). -/
@[simp] theorem State.raise_port (s : State) (e : Event) (q : Port) :
    (s.raise e).port q = if q ∈ s.reached e then (s.port q).withFlag e else s.port q := by
  simpa [State.raise] using foldl_flagAt_port (fun _ => true) e (s.reached e) s q

/-- A level condition handed over sets its flag at the ports it reaches whose edge mode takes the change (R190). -/
@[simp] theorem State.handLevel_port (s : State) (e : Event) (before after : Bool) (q : Port) :
    (s.handLevel e before after).port q
      = if q ∈ s.reached e ∧ ((s.port q).edges.of e).takes before after = true then (s.port q).withFlag e else s.port q :=
  foldl_flagAt_port (fun p => ((s.port p).edges.of e).takes before after) e (s.reached e) s q

@[simp] theorem State.judgeLevel_port (s : State) (e : Event) (before after : Bool) (q : Port) :
    (s.judgeLevel e before after).port q
      = if before ≠ after ∧ q ∈ s.reached e ∧ ((s.port q).edges.of e).takes before after = true then (s.port q).withFlag e
        else s.port q := by
  simp only [State.judgeLevel]
  split <;> simp [*]

@[simp] theorem State.reached_device (s : State) (d : DeviceEvent) : s.reached (.device d) = [.office] := rfl

@[simp] theorem State.raiseDevice_port (s : State) (d : DeviceEvent) (q : Port) :
    (s.raiseDevice d).port q = if q = .office then (s.port q).withFlag (.device d) else s.port q := by
  simp [State.raiseDevice]

/-- What an event unit's work can do to a port: set flags, and nothing else. -/
structure PortRec.Raised (r r' : PortRec) : Prop where
  requests  : r'.requests = r.requests
  responses : r'.responses = r.responses
  restarted : r'.restarted = r.restarted
  masks     : r'.masks = r.masks
  edges     : r'.edges = r.edges
  dataOut   : r'.dataOut = r.dataOut
  kept      : ∀ e, e ∈ r.flags → e ∈ r'.flags
  ordered   : r.flags.Sublist allEvents → r'.flags.Sublist allEvents

theorem PortRec.Raised.refl (r : PortRec) : r.Raised r := ⟨rfl, rfl, rfl, rfl, rfl, rfl, fun _ h => h, id⟩

theorem PortRec.Raised.trans {a b c : PortRec} (h : a.Raised b) (h' : b.Raised c) : a.Raised c :=
  ⟨h'.requests.trans h.requests, h'.responses.trans h.responses, h'.restarted.trans h.restarted, h'.masks.trans h.masks,
    h'.edges.trans h.edges, h'.dataOut.trans h.dataOut, fun e he => h'.kept e (h.kept e he), fun ho => h'.ordered (h.ordered ho)⟩

theorem PortRec.Raised.withFlag (r : PortRec) (e : Event) : r.Raised (r.withFlag e) :=
  ⟨rfl, rfl, rfl, rfl, rfl, rfl, fun x hx => (mem_setFlag e x r.flags).2 (.inr hx), fun _ => setFlag_sublist e r.flags⟩

/-- At every port, `t` is `s` with more flags set at most. -/
def State.Raised (s t : State) : Prop := ∀ p, (s.port p).Raised (t.port p)

@[simp] theorem State.Raised.refl (s : State) : s.Raised s := fun _ => .refl _

theorem State.Raised.trans {s t u : State} (h : s.Raised t) (h' : t.Raised u) : s.Raised u := fun p => (h p).trans (h' p)

theorem State.Raised.same {s t u : State} (h : s.Raised t) (e : ∀ p, u.port p = t.port p) : s.Raised u :=
  fun p => e p ▸ h p

theorem State.Raised.foldl {α : Type} {s t : State} (h : s.Raised t) (f : State → α → State)
    (hf : ∀ u a, s.Raised u → s.Raised (f u a)) (l : List α) : s.Raised (l.foldl f t) := by
  induction l generalizing t with
  | nil => exact h
  | cons a l ih => exact ih (hf t a h)

/-! ### Each operation that reports to the event unit

Each of these is a conditional rule for `simp`: what was reached before the operation still holds after it. -/

variable {s t : State}

@[simp] theorem State.Raised.neutral (s t : State) :
    (∀ x, s.Raised (t.withPending x) ↔ s.Raised t) ∧ (∀ x, s.Raised (t.withPins x) ↔ s.Raised t)
    ∧ (∀ x, s.Raised (t.withSlots x) ↔ s.Raised t) ∧ (∀ x, s.Raised (t.withFreeSlots x) ↔ s.Raised t)
    ∧ (∀ x, s.Raised (t.withProducts x) ↔ s.Raised t) ∧ (∀ x, s.Raised (t.withResort x) ↔ s.Raised t)
    ∧ (∀ x, s.Raised (t.withHistory x) ↔ s.Raised t) ∧ (∀ x, s.Raised (t.withClock x) ↔ s.Raised t)
    ∧ (∀ x, s.Raised (t.withCalendar x) ↔ s.Raised t) ∧ (∀ x, s.Raised (t.withLanes x) ↔ s.Raised t)
    ∧ (∀ x, s.Raised (t.withLifts x) ↔ s.Raised t) ∧ (∀ x, s.Raised (t.withScheme x) ↔ s.Raised t)
    ∧ (∀ x, s.Raised (t.withCounts x) ↔ s.Raised t) ∧ (∀ x, s.Raised (t.withTariff x) ↔ s.Raised t)
    ∧ (∀ x, s.Raised (t.withArbiter x) ↔ s.Raised t) ∧ (∀ x, s.Raised (t.withSweep x) ↔ s.Raised t)
    ∧ (∀ x, s.Raised (t.withOrderIndex x) ↔ s.Raised t) ∧ (∀ x y, s.Raised (t.setLane x y) ↔ s.Raised t)
    ∧ (∀ x y, s.Raised (t.modLane x y) ↔ s.Raised t) ∧ (∀ x y, s.Raised (t.setLift x y) ↔ s.Raised t)
    ∧ (∀ x y, s.Raised (t.putEntry x y) ↔ s.Raised t) ∧ (∀ x y, s.Raised (t.modEntry x y) ↔ s.Raised t)
    ∧ (∀ x y, s.Raised (t.countDayOnly x y) ↔ s.Raised t) ∧ (s.Raised t.rollCounts ↔ s.Raised t)
    ∧ (∀ x, s.Raised (t.takePace x) ↔ s.Raised t) ∧ (∀ x, s.Raised (t.givePace x) ↔ s.Raised t)
    ∧ (∀ x y, s.Raised (t.setHold x y) ↔ s.Raised t) ∧ (∀ x y, s.Raised (t.setLate x y) ↔ s.Raised t)
    ∧ (∀ x y, s.Raised (t.setDwell x y) ↔ s.Raised t) ∧ (∀ x y, s.Raised (t.undoGrant x y) ↔ s.Raised t)
    ∧ (∀ x, s.Raised (t.makeDue x) ↔ s.Raised t) ∧ (∀ x, s.Raised (t.drewOrder x) ↔ s.Raised t)
    ∧ (s.Raised t.testHolds ↔ s.Raised t) ∧ (∀ x y, s.Raised (t.endOtherDwell x y) ↔ s.Raised t)
    ∧ (∀ x, s.Raised (t.setWalk x) ↔ s.Raised t) ∧ (s.Raised t.toMust ↔ s.Raised t)
    ∧ (s.Raised t.tableLowTest ↔ s.Raised t) ∧ (∀ x, s.Raised (t.charge x) ↔ s.Raised t)
    ∧ (s.Raised t.rollBackAll ↔ s.Raised t) := by
  simp [State.Raised]

@[simp] theorem State.Raised.raise (h : s.Raised t) (e : Event) : s.Raised (t.raise e) := by
  refine fun p => (h p).trans ?_
  rw [State.raise_port]; split
  · exact .withFlag _ _
  · exact .refl _

@[simp] theorem State.Raised.raiseDevice (h : s.Raised t) (d : DeviceEvent) : s.Raised (t.raiseDevice d) := by
  exact h.raise _

@[simp] theorem State.Raised.handLevel (h : s.Raised t) (e : Event) (before after : Bool) : s.Raised (t.handLevel e before after) := by
  refine fun p => (h p).trans ?_
  rw [State.handLevel_port]; split
  · exact .withFlag _ _
  · exact .refl _

@[simp] theorem State.Raised.judgeLevel (h : s.Raised t) (e : Event) (before after : Bool) : s.Raised (t.judgeLevel e before after) := by
  unfold State.judgeLevel; split
  · exact h
  · exact h.handLevel _ _ _

@[simp] theorem State.Raised.writeHistory (h : s.Raised t) (x : History) : s.Raised (t.writeHistory x) := by
  simp (maxDischargeDepth := 12) [State.writeHistory, h]

@[simp] theorem State.Raised.noteSaturation (h : s.Raised t) (n : Nat) : s.Raised (t.noteSaturation n) := by
  unfold State.noteSaturation
  repeat' split
  all_goals simp (maxDischargeDepth := 12) [h]

@[simp] theorem State.Raised.countLane (h : s.Raised t) (l : Lane) (k : LaneCounter) : s.Raised (t.countLane l k) := by
  simp (maxDischargeDepth := 12) [State.countLane, h]

@[simp] theorem State.Raised.countLift (h : s.Raised t) (f : Lift) (k : LiftCounter) : s.Raised (t.countLift f k) := by
  simp (maxDischargeDepth := 12) [State.countLift, h]

@[simp] theorem State.Raised.transfer (h : s.Raised t) : s.Raised (t.transfer) := by
  simp only [State.transfer]
  split <;> simp (maxDischargeDepth := 12) [h]

@[simp] theorem State.Raised.tickTimer (h : s.Raised t) : s.Raised (t.tickTimer) := by
  unfold State.tickTimer
  repeat' split
  all_goals simp (maxDischargeDepth := 12) [h]

@[simp] theorem State.Raised.filterLift (h : s.Raised t) (f : Lift) (x : LiftState) : s.Raised (t.filterLift f x) := by
  simp only [State.filterLift]
  split <;> simp (maxDischargeDepth := 12) [h]

@[simp] theorem State.Raised.tickLift (h : s.Raised t) (x : LiftLines) (f : Lift) : s.Raised (t.tickLift x f) := by
  simp (maxDischargeDepth := 12) [State.tickLift, h]

@[simp] theorem State.Raised.rollback (h : s.Raised t) (l : Lane) (x : Hold) : s.Raised (t.rollback l x) := by
  simp (maxDischargeDepth := 12) [State.rollback, h]

@[simp] theorem State.Raised.releaseHold (h : s.Raised t) (l : Lane) : s.Raised (t.releaseHold l) := by
  unfold State.releaseHold
  repeat' split
  all_goals simp (maxDischargeDepth := 12) [h]

@[simp] theorem State.Raised.commitHold (h : s.Raised t) (l : Lane) (x : Hold) : s.Raised (t.commitHold l x) := by
  simp only [State.commitHold]
  split <;> split <;> simp (maxDischargeDepth := 12) [h]

@[simp] theorem State.Raised.latePassage (h : s.Raised t) (l : Lane) : s.Raised (t.latePassage l) := by
  simp (maxDischargeDepth := 12) [State.latePassage, h]

@[simp] theorem State.Raised.unpairedPassage (h : s.Raised t) (l : Lane) : s.Raised (t.unpairedPassage l) := by
  simp only [State.unpairedPassage]
  split <;> simp (maxDischargeDepth := 12) [h]

@[simp] theorem State.Raised.expireHold (h : s.Raised t) (l : Lane) (x : Hold) : s.Raised (t.expireHold l x) := by
  simp (maxDischargeDepth := 12) [State.expireHold, h]

@[simp] theorem State.Raised.moveLane (h : s.Raised t) (l : Lane) (x : LaneState) (d : Option Dwell) : s.Raised (t.moveLane l x d) := by
  simp only [State.moveLane]
  split <;> simp (maxDischargeDepth := 12) [h]

@[simp] theorem State.Raised.modReader (h : s.Raised t) (l : Lane) (f : LaneRec → LaneRec) : s.Raised (t.modReader l f) := by
  simp (maxDischargeDepth := 12) [State.modReader, h]

@[simp] theorem State.Raised.raiseRun (h : s.Raised t) (l : Lane) : s.Raised (t.raiseRun l) := by
  simp (maxDischargeDepth := 12) [State.raiseRun, h]

@[simp] theorem State.Raised.clearRun (h : s.Raised t) (l : Lane) : s.Raised (t.clearRun l) := by
  simp (maxDischargeDepth := 12) [State.clearRun, h]

@[simp] theorem State.Raised.writeProfile (h : s.Raised t) (l : Lane) (p : Profile) : s.Raised (t.writeProfile l p) := by
  simp (maxDischargeDepth := 12) [State.writeProfile, h]

@[simp] theorem State.Raised.nameState (h : s.Raised t) (l : Lane) (c : Option WorkState) : s.Raised (t.nameState l c) := by
  unfold State.nameState
  repeat' split
  all_goals simp (maxDischargeDepth := 12) [h]

@[simp] theorem State.Raised.track (h : s.Raised t) (l : Lane) (n : Nat) : s.Raised ((t.track l n).1) := by
  simp only [State.track]
  split <;> simp (maxDischargeDepth := 12) [h]

@[simp] theorem State.Raised.setLanes (h : s.Raised t) (ls : List Lane) (c : Option WorkState) (p : Profile) : s.Raised (t.setLanes ls c p) := by
  exact State.Raised.foldl (by simpa using h.foldl State.releaseHold (fun u a hu => hu.releaseHold a) _) _
    (fun u a hu => by simp (maxDischargeDepth := 12) [hu]) _

@[simp] theorem State.Raised.deadlineTest (h : s.Raised t) : s.Raised (t.deadlineTest) := by
  unfold State.deadlineTest
  repeat' split
  all_goals simp (maxDischargeDepth := 12) [h]

@[simp] theorem State.Raised.setFreeSlots (h : s.Raised t) (n : Nat) : s.Raised (t.setFreeSlots n) := by
  simp only [State.setFreeSlots]; simp (maxDischargeDepth := 12) [h]

@[simp] theorem State.Raised.startSweep (h : s.Raised t) : s.Raised (t.startSweep) := by
  unfold State.startSweep
  repeat' split
  all_goals simp (maxDischargeDepth := 12) [h]

@[simp] theorem State.Raised.retire (h : s.Raised t) (n : Nat) (e : Entry) : s.Raised (t.retire n e) := by
  simp only [State.retire]; simp (maxDischargeDepth := 12) [h]

@[simp] theorem State.Raised.visitSlot (h : s.Raised t) (n : Nat) : s.Raised (t.visitSlot n) := by
  simp only [State.visitSlot]
  repeat' split
  all_goals simp (maxDischargeDepth := 12) [h]

@[simp] theorem State.Raised.endBatch (h : s.Raised t) (n : Nat) : s.Raised (t.endBatch n) := by
  unfold State.endBatch
  repeat' split
  all_goals simp (maxDischargeDepth := 12) [h]

@[simp] theorem State.Raised.sweepBatch (h : s.Raised t) : s.Raised (t.sweepBatch) := by
  unfold State.sweepBatch
  split
  · exact h
  · exact (h.foldl State.visitSlot (fun u n hu => hu.visitSlot n) _).endBatch _

@[simp] theorem State.Raised.place (h : s.Raised t) (n : Nat) (e : Entry) : s.Raised (t.place n e) := by
  simp (maxDischargeDepth := 12) [State.place, h]

@[simp] theorem State.Raised.grant (h : s.Raised t) (l : Lane) (n : Nat) (e : Entry) (q : LiveState) : s.Raised (t.grant l n e q) := by
  simp only [State.grant]; simp (maxDischargeDepth := 12) [h]

@[simp] theorem State.Raised.countVerdict (h : s.Raised t) (v : Code) (l : Lane) : s.Raised (t.countVerdict v l) := by
  unfold State.countVerdict
  repeat' split
  all_goals simp (maxDischargeDepth := 12) [h]

@[simp] theorem State.Raised.presentTracked (h : s.Raised t) (v : Code) (l : Lane) (n pass : Nat) : s.Raised ((t.presentTracked v l n pass).1) := by
  simp (maxDischargeDepth := 12) [State.presentTracked, h]

@[simp] theorem State.Raised.presentAdmit (h : s.Raised t) (l : Lane) (n : Nat) (e : Entry) (q : LiveState) : s.Raised ((t.presentAdmit l n e q).1) := by
  unfold State.presentAdmit
  split <;> simp (maxDischargeDepth := 12) [h]

@[simp] theorem State.Raised.presentFound (h : s.Raised t) (v : Code) (l : Lane) (n : Nat) (e : Entry) : s.Raised ((t.presentFound v l n e).1) := by
  unfold State.presentFound
  repeat' split
  all_goals simp (maxDischargeDepth := 12) [h]

@[simp] theorem State.Raised.presentCard (h : s.Raised t) (l : Lane) (c : Card) : s.Raised ((t.presentCard l c).1) := by
  unfold State.presentCard
  repeat' split
  all_goals simp (maxDischargeDepth := 12) [h]

@[simp] theorem State.Raised.present (h : s.Raised t) (l : Lane) (x : Image) : s.Raised ((t.present l x).1) := by
  unfold State.present State.presentUnreadable
  repeat' split
  all_goals simp (maxDischargeDepth := 12) [h]

@[simp] theorem State.Raised.tickClock (h : s.Raised t) : s.Raised (t.tickClock) := by
  simp only [State.tickClock]
  split
  · simp (maxDischargeDepth := 12) [h]
  · split <;> simp (maxDischargeDepth := 12) [h]

@[simp] theorem State.Raised.clocked (h : s.Raised t) (x : LiftLines) : s.Raised (t.clocked x) := by
  simp (maxDischargeDepth := 12) [State.clocked, h]

@[simp] theorem State.Raised.tickSweep (h : s.Raised t) (b : Bool) : s.Raised (t.tickSweep b) := by
  unfold State.tickSweep
  repeat' split
  all_goals simp (maxDischargeDepth := 12) [h]

@[simp] theorem State.Raised.tickAll (h : s.Raised t) (x : LiftLines) : s.Raised (t.tickAll x) := by
  simp (maxDischargeDepth := 12) [State.tickAll, allLifts, h]

/-! ### Device events reach the office alone, so nothing that only raises them changes a gate port -/

@[simp] theorem State.raiseDevice_gates (s : State) (d : DeviceEvent) : (s.raiseDevice d).gates = s.gates := rfl

@[simp] theorem State.handLevel_device_gates (s : State) (d : DeviceEvent) (before after : Bool) :
    (s.handLevel (.device d) before after).gates = s.gates := by
  simp only [State.handLevel, State.reached_device, List.foldl_cons, List.foldl_nil]
  split <;> rfl

@[simp] theorem State.judgeLevel_device_gates (s : State) (d : DeviceEvent) (before after : Bool) :
    (s.judgeLevel (.device d) before after).gates = s.gates := by
  simp only [State.judgeLevel]
  split <;> simp

@[simp] theorem State.writeHistory_gates (s : State) (h : History) : (s.writeHistory h).gates = s.gates := by
  simp [State.writeHistory]

@[simp] theorem State.noteSaturation_gates (s : State) (n : Nat) : (s.noteSaturation n).gates = s.gates := by
  simp only [State.noteSaturation]
  split <;> simp

@[simp] theorem State.countLane_gates (s : State) (l : Lane) (k : LaneCounter) : (s.countLane l k).gates = s.gates := by
  simp [State.countLane]

@[simp] theorem State.countLift_gates (s : State) (f : Lift) (k : LiftCounter) : (s.countLift f k).gates = s.gates := by
  simp [State.countLift]

@[simp] theorem State.transfer_gates (s : State) : s.transfer.gates = s.gates := by
  simp only [State.transfer]
  split <;> simp

@[simp] theorem State.deadlineTest_gates (s : State) : s.deadlineTest.gates = s.gates := by
  simp only [State.deadlineTest]
  split <;> simp

@[simp] theorem State.setFreeSlots_gates (s : State) (n : Nat) : (s.setFreeSlots n).gates = s.gates := by
  simp [State.setFreeSlots]

@[simp] theorem State.retire_gates (s : State) (n : Nat) (e : Entry) : (s.retire n e).gates = s.gates := by
  simp [State.retire]

@[simp] theorem State.visitSlot_gates (s : State) (n : Nat) : (s.visitSlot n).gates = s.gates := by
  simp only [State.visitSlot]
  repeat' split
  all_goals simp

@[simp] theorem State.endBatch_gates (s : State) (n : Nat) : (s.endBatch n).gates = s.gates := by
  simp only [State.endBatch]
  repeat' split
  all_goals simp

@[simp] theorem State.sweepBatch_gates (s : State) : s.sweepBatch.gates = s.gates := by
  simp only [State.sweepBatch]
  split
  · rfl
  · simp [foldl_keeps State.gates State.visitSlot State.visitSlot_gates]

end Sys2Proof.Machine
end

