-- ==== Sys2Proof/Laws/Ports.lean ====
section
/-! SUPPORT. Ports and grants: what completing, taking, serving and granting a request do, and when a port can serve. -/

namespace Sys2Proof.Machine

variable {s t : State}

/-- The last write of a port stands. -/
@[simp] theorem State.setPort_setPort (s : State) (p : Port) (r r' : PortRec) : (s.setPort p r).setPort p r' = s.setPort p r' := by
  cases p <;> simp [State.setPort, State.withGates, State.withOffice]

theorem State.modPort_setPort (s : State) (p : Port) (r : PortRec) (f : PortRec → PortRec) :
    (s.setPort p r).modPort p f = s.setPort p (f r) := by
  simp [State.modPort]

/-- A port that is written changes no part of the state but its own. -/
theorem State.setPort_onlyChanges (s : State) (p : Port) (r : PortRec) {ps : List Part} (h : portPart p ∈ ps) :
    onlyChanges ps s (s.setPort p r) := by
  intro q hq
  have : q ≠ portPart p := fun e => hq (e ▸ h)
  cases p <;> cases q <;> simp_all [Part.same, State.setPort, portPart]

/-- The beginning of a transaction writes its own port alone. -/
theorem State.opened_eq (s : State) (p : Port) (code : Byte) :
    s.opened p code = s.setPort p { s.port p with dataOut := [s.statusByte p], transaction := some (s.opening p code) } := rfl

theorem State.inProgress_eq (s : State) (p : Port) (x : Option Transaction) :
    s.inProgress p x = s.setPort p { s.port p with transaction := x } := rfl

/-- What a transaction code opens (R197). -/
theorem State.opening_send (s : State) (p : Port) : s.opening p Config.sendCode = .sending [] := rfl

theorem State.opening_fetch (s : State) (p : Port) :
    s.opening p Config.fetchCode = .fetching
      ((if s.pins.resetActive then none else (s.port p).responses.head?).getD emptyFrame).bytes
      (if s.pins.resetActive then none else (s.port p).responses.head?).isSome := rfl

/-- The bytes that a FETCH in progress shifts out, and what they leave (R187). -/
theorem State.shiftOut_fetching {p : Port} {left : List Byte} {response : Bool}
    (h : (s.port p).transaction = some (.fetching left response)) (n : Nat) (ends : Bool) :
    s.shiftOut p n ends = s.setPort p { s.port p with
      dataOut := (s.port p).dataOut ++ left.take n
      responses := if response && left.length ≤ n then (s.port p).responses.tail else (s.port p).responses
      transaction := (Transaction.fetching (left.drop n) (response && !(response && left.length ≤ n))).after ends } := by
  simp [State.shiftOut, h, State.modPort]

/-- A FETCH that begins its transaction writes its own port alone. -/
theorem State.fetch_begins (s : State) (p : Port) (n : Nat) (ends : Bool) :
    s.fetch p { data := n, begins := true, ends } = s.setPort p (
      let oldest := if s.pins.resetActive then none else (s.port p).responses.head?
      let bytes := (oldest.getD emptyFrame).bytes
      { s.port p with
        dataOut := s.statusByte p :: bytes.take n
        responses := if oldest.isSome && bytes.length ≤ n then (s.port p).responses.tail else (s.port p).responses
        transaction := (Transaction.fetching (bytes.drop n) (oldest.isSome && !(oldest.isSome && bytes.length ≤ n))).after ends }) := by
  have h : ((s.opened p Config.fetchCode).port p).transaction = some (s.opening p Config.fetchCode) := by
    simp [State.opened_eq]
  rw [State.opening_fetch] at h
  rw [State.fetch, if_pos rfl, State.shiftOut_fetching h]
  simp [State.opened_eq]

/-- A whole SEND records the status byte, leaves no transaction in progress, and takes the frame that its bytes make (R183, R188). -/
theorem State.send_whole (s : State) (p : Port) (bytes : List Byte) :
    s.send p (.whole bytes) =
      let t := s.setPort p { s.port p with dataOut := [s.statusByte p], transaction := none }
      match sentFrame bytes with
      | none => t
      | some (f, n) => if t.requestFree p = 0 then t else t.takeFrame p f n := by
  have h : ((s.opened p Config.sendCode).port p).transaction = some (.sending []) := by
    simp [State.opened_eq, State.opening]
  simp only [State.send, if_true, State.shiftIn, h, List.nil_append]
  cases sentFrame bytes <;> simp [State.inProgress_eq, State.opened_eq, Transaction.after, State.requestFree]

@[simp] theorem State.complete_port (s : State) (p : Port) (i : Nat) (f : Frame) (bs : List Byte) (q : Port) :
    (s.complete p i f bs).port q
      = if q = p then { s.port p with
          requests := (s.port p).requests.eraseIdx i
          responses := (s.port p).responses ++ [{ kind := f.kind, tag := f.tag, payload := bs }] }
        else s.port q := by
  simp [State.complete]

@[simp] theorem State.opened_port (s : State) (p : Port) (code : Byte) (q : Port) :
    (s.opened p code).port q
      = if q = p then { s.port p with dataOut := [s.statusByte p], transaction := some (s.opening p code) } else s.port q := by
  simp [State.opened]

@[simp] theorem State.inProgress_port (s : State) (p : Port) (x : Option Transaction) (q : Port) :
    (s.inProgress p x).port q = if q = p then { s.port p with transaction := x } else s.port q := by
  simp [State.inProgress]

@[simp] theorem State.enqueue_port (s : State) (p : Port) (f : Frame) (r : Role) (q : Port) :
    (s.enqueue p f r).port q
      = if q = p then { s.port p with requests := (s.port p).requests ++ [{ frame := f, role := r }] } else s.port q := by
  simp [State.enqueue]

/-- A granted request is evaluated on the charged state and completed at its port. -/
theorem State.grantTo_of_grantable {sel : Frame → Bool} {r : StoreReq} (h : s.grantable sel = some r)
    (eval : State → List Byte → State × List Byte) :
    s.grantTo sel eval = (eval (s.charge (.request r)) r.frame.payload).1.complete r.port r.index r.frame
      (eval (s.charge (.request r)) r.frame.payload).2 := by
  simp [State.grantTo, h]

theorem State.grantTo_of_none {sel : Frame → Bool} (h : s.grantable sel = none)
    (eval : State → List Byte → State × List Byte) : s.grantTo sel eval = s := by
  simp [State.grantTo, h]

/-- A port-served request that the port can serve is evaluated and completed. -/
theorem State.serve_of_servable {p : Port} {sel : Frame → Bool} {i : Nat} {f : Frame} (h : s.servable p sel = some (i, f))
    (eval : State → List Byte → State × List Byte) :
    s.serve p sel eval = (eval s f.payload).1.complete p i f (eval s f.payload).2 := by
  simp [State.serve, h]

theorem State.serve_of_none {p : Port} {sel : Frame → Bool} (h : s.servable p sel = none)
    (eval : State → List Byte → State × List Byte) : s.serve p sel eval = s := by
  simp [State.serve, h]

/-! ### The oldest port-served frame (R185) -/

/-- The oldest port-served frame stands behind requests of the store alone. -/
theorem oldestServed_eq_some {i j : Nat} {ws : List Waiting} {w : Waiting} :
    oldestServed i ws = some (j, w) ↔
      (∀ n, w.role ≠ .store n) ∧ ∃ older younger, ws = older ++ w :: younger ∧ i + older.length = j
        ∧ ∀ v ∈ older, ∃ n, v.role = .store n := by
  induction ws generalizing i with
  | nil => simp [oldestServed]
  | cons v ws ih =>
    unfold oldestServed
    split
    · rename_i n hv
      rw [ih]
      refine and_congr_right fun hw => ⟨?_, ?_⟩
      · rintro ⟨older, younger, rfl, hj, ho⟩
        exact ⟨v :: older, younger, by simp, by simp; omega, by simp [hv]; exact ho⟩
      · rintro ⟨older, younger, he, hj, ho⟩
        cases older with
        | nil => simp at he; exact absurd (he.1 ▸ hv) (hw n)
        | cons a older =>
          simp at he hj ho
          exact ⟨older, younger, he.2, by omega, ho.2⟩
    · rename_i hv
      simp only [Option.some.injEq, Prod.mk.injEq]
      refine ⟨?_, ?_⟩
      · rintro ⟨rfl, rfl⟩
        exact ⟨fun n h => hv n h, [], ws, by simp⟩
      · rintro ⟨hw, older, younger, he, hj, ho⟩
        cases older with
        | nil => simp at he hj; exact ⟨hj, he.1⟩
        | cons a older =>
          simp at he ho
          obtain ⟨⟨n, hn⟩, -⟩ := ho
          exact absurd (he.1 ▸ hn) (hv n)

theorem State.nextServed_eq_some {p : Port} {i : Nat} {w : Waiting} :
    s.nextServed p = some (i, w) ↔ (s.port p).responses.length < Config.queuePlaces ∧ oldestServed 0 (s.port p).requests = some (i, w) := by
  simp [State.nextServed, State.hasPlace]

/-- What a port can serve: its oldest port-served frame, when it is a request of the kind asked for (R185). -/
theorem State.servable_eq_some {p : Port} {sel : Frame → Bool} {i : Nat} {f : Frame} :
    s.servable p sel = some (i, f) ↔
      (s.port p).responses.length < Config.queuePlaces ∧ sel f = true
        ∧ ∃ older younger, (s.port p).requests = older ++ { frame := f, role := .served } :: younger ∧ older.length = i
          ∧ ∀ v ∈ older, ∃ n, v.role = .store n := by
  unfold State.servable
  split
  · rename_i j g h
    rw [State.nextServed_eq_some, oldestServed_eq_some] at h
    obtain ⟨hp, -, older, younger, he, hj, ho⟩ := h
    simp at hj
    constructor
    · intro h
      split at h <;> simp at h
      obtain ⟨rfl, rfl⟩ := h
      exact ⟨hp, ‹_›, older, younger, he, hj, ho⟩
    · rintro ⟨-, hs, older', younger', he', hj', ho'⟩
      have h1 : oldestServed 0 (s.port p).requests = some (j, { frame := g, role := .served }) :=
        oldestServed_eq_some.2 ⟨by simp, older, younger, he, by simpa using hj, ho⟩
      have h2 : oldestServed 0 (s.port p).requests = some (i, { frame := f, role := .served }) :=
        oldestServed_eq_some.2 ⟨by simp, older', younger', he', by simpa using hj', ho'⟩
      rw [h1] at h2
      simp at h2
      obtain ⟨rfl, rfl⟩ := h2
      simp [hs]
  · rename_i h
    simp only [reduceCtorEq, false_iff]
    rintro ⟨hp, -, older, younger, he, hj, ho⟩
    exact h i f (State.nextServed_eq_some.2 ⟨hp, oldestServed_eq_some.2 ⟨by simp, older, younger, he, by simpa using hj, ho⟩⟩)

theorem State.servable_place {p : Port} {sel : Frame → Bool} {i : Nat} {f : Frame} (h : s.servable p sel = some (i, f)) :
    i < (s.port p).requests.length := by
  obtain ⟨-, -, older, younger, he, rfl, -⟩ := State.servable_eq_some.1 h
  simp [he]

end Sys2Proof.Machine
end

