-- ==== Sys2Proof/Laws/Requests.lean ====
section
/-! SUPPORT. What the evaluation of a request can do to the ports: set flags, and nothing else (R190). READ_EVENTS and SET_EVENTS, which
write the event state of a port, are not among them. -/

namespace Sys2Proof.Machine

variable {s t : State}

@[simp] theorem State.Raised.passed (h : s.Raised t) (p : List Byte) : s.Raised (t.passed p).1 := by
  simp only [State.passed]
  repeat' split
  all_goals simp (maxDischargeDepth := 12) [h]

@[simp] theorem State.Raised.release (h : s.Raised t) (p : List Byte) : s.Raised (t.release p).1 := by
  simp only [State.release]
  repeat' split
  all_goals simp (maxDischargeDepth := 12) [h]

@[simp] theorem State.Raised.jam (h : s.Raised t) (p : List Byte) : s.Raised (t.jam p).1 := by
  simp only [State.jam]
  repeat' split
  all_goals simp (maxDischargeDepth := 12) [h]

@[simp] theorem State.Raised.clearJam (h : s.Raised t) (p : List Byte) : s.Raised (t.clearJam p).1 := by
  simp only [State.clearJam]
  repeat' split
  all_goals simp (maxDischargeDepth := 12) [h]

@[simp] theorem State.Raised.issue (h : s.Raised t) (p : List Byte) : s.Raised (t.issue p).1 := by
  simp only [State.issue]
  repeat' split
  all_goals simp (maxDischargeDepth := 12) [h]

@[simp] theorem State.Raised.reissue (h : s.Raised t) (p : List Byte) : s.Raised (t.reissue p).1 := by
  simp only [State.reissue]
  repeat' split
  all_goals simp (maxDischargeDepth := 12) [h]

@[simp] theorem State.Raised.suspend (h : s.Raised t) (p : List Byte) : s.Raised (t.suspend p).1 := by
  simp only [State.suspend]
  repeat' split
  all_goals simp (maxDischargeDepth := 12) [h]

@[simp] theorem State.Raised.resume (h : s.Raised t) (p : List Byte) : s.Raised (t.resume p).1 := by
  simp only [State.resume]
  repeat' split
  all_goals simp (maxDischargeDepth := 12) [h]

@[simp] theorem State.Raised.restore (h : s.Raised t) (p : List Byte) : s.Raised (t.restore p).1 := by
  simp only [State.restore]
  repeat' split
  all_goals simp (maxDischargeDepth := 12) [h]

@[simp] theorem State.Raised.addUse (h : s.Raised t) (p : List Byte) : s.Raised (t.addUse p).1 := by
  simp only [State.addUse]
  repeat' split
  all_goals simp (maxDischargeDepth := 12) [h]

@[simp] theorem State.Raised.inquire (h : s.Raised t) (p : List Byte) : s.Raised (t.inquire p).1 := by
  simp only [State.inquire]
  repeat' split
  all_goals simp (maxDischargeDepth := 12) [h]

@[simp] theorem State.Raised.refund (h : s.Raised t) (p : List Byte) : s.Raised (t.refund p).1 := by
  simp only [State.refund, State.refundValued]
  repeat' split
  all_goals simp (maxDischargeDepth := 12) [h]

@[simp] theorem State.Raised.setLaneRequest (h : s.Raised t) (p : List Byte) : s.Raised (t.setLaneRequest p).1 := by
  simp only [State.setLaneRequest]
  all_goals simp (maxDischargeDepth := 12) [h]

@[simp] theorem State.Raised.loadProduct (h : s.Raised t) (p : List Byte) : s.Raised (t.loadProduct p).1 := by
  simp only [State.loadProduct]
  repeat' split
  all_goals simp (maxDischargeDepth := 12) [h]

@[simp] theorem State.Raised.setResort (h : s.Raised t) (p : List Byte) : s.Raised (t.setResort p).1 := by
  simp (maxDischargeDepth := 12) [State.setResort, h]

@[simp] theorem State.Raised.setClock (h : s.Raised t) (p : List Byte) : s.Raised (t.setClock p).1 := by
  simp only [State.setClock]
  repeat' split
  all_goals simp (maxDischargeDepth := 12) [h]

@[simp] theorem State.Raised.loadCalendar (h : s.Raised t) (p : List Byte) : s.Raised (t.loadCalendar p).1 := by
  simp only [State.loadCalendar, State.loadCalendarBase, State.loadCalendarRuns]
  repeat' split
  all_goals simp (maxDischargeDepth := 12) [h]

@[simp] theorem State.Raised.setScheme (h : s.Raised t) (p : List Byte) : s.Raised (t.setScheme p).1 := by
  simp only [State.setScheme]
  repeat' split
  all_goals simp (maxDischargeDepth := 12) [h]

@[simp] theorem State.Raised.setLiftRequest (h : s.Raised t) (p : List Byte) : s.Raised (t.setLiftRequest p).1 := by
  simp only [State.setLiftRequest]
  repeat' split
  all_goals simp (maxDischargeDepth := 12) [h]

@[simp] theorem State.Raised.setReport (h : s.Raised t) (p : List Byte) : s.Raised (t.setReport p).1 := by
  simp only [State.setReport]
  repeat' split
  all_goals simp (maxDischargeDepth := 12) [h]

@[simp] theorem State.Raised.readCounts (h : s.Raised t) (p : List Byte) : s.Raised (t.readCounts p).1 := by
  simp only [State.readCounts]
  repeat' split
  all_goals simp (maxDischargeDepth := 12) [h]

@[simp] theorem State.Raised.loadTariff (h : s.Raised t) (p : List Byte) : s.Raised (t.loadTariff p).1 := by
  simp only [State.loadTariff]
  repeat' split
  all_goals simp (maxDischargeDepth := 12) [h]

@[simp] theorem State.Raised.setStorePolicy (h : s.Raised t) (p : List Byte) : s.Raised (t.setStorePolicy p).1 := by
  simp (maxDischargeDepth := 12) [State.setStorePolicy, h]

@[simp] theorem State.Raised.takeSnapshot (h : s.Raised t) : s.Raised t.takeSnapshot.1 := by
  simp only [State.takeSnapshot]
  split <;> simp [h]

@[simp] theorem State.Raised.expire (h : s.Raised t) (x : Expiry) : s.Raised (t.expire x) := by
  simp only [State.expire]
  repeat' split
  all_goals simp (maxDischargeDepth := 12) [h]

end Sys2Proof.Machine
end

