-- ==== Sys2Proof/Laws/Tables.lean ====
section
/-! SUPPORT. Sparse tables: what is read after a write, that every operation keeps the canonical form, and that tables in canonical
form are equal when they read the same. -/

namespace Sys2Proof.Machine

variable {α : Type}

@[simp] theorem Table.get_nil (n : Nat) : Table.get ([] : List (Nat × α)) n = none := rfl

theorem Table.get_cons (m : Nat) (x : α) (t : List (Nat × α)) (n : Nat) :
    Table.get ((m, x) :: t) n = if m = n then some x else Table.get t n := rfl

@[simp] theorem Table.get_put (t : List (Nat × α)) (n m : Nat) (x : α) :
    Table.get (Table.put t n x) m = if m = n then some x else Table.get t m := by
  induction t with
  | nil => simp [Table.put, Table.get, eq_comm]
  | cons y t ih =>
    obtain ⟨k, y⟩ := y
    simp only [Table.put]
    split
    · simp only [Table.get_cons, eq_comm (a := n)]
    · split
      · subst n; by_cases h : m = k <;> simp [Table.get_cons, h, eq_comm]
      · simp only [Table.get_cons, ih]
        by_cases h : k = m
        · simp [h, show m ≠ n by omega]
        · simp [h]

@[simp] theorem Table.get_erase (t : List (Nat × α)) (n m : Nat) :
    Table.get (Table.erase t n) m = if m = n then none else Table.get t m := by
  induction t with
  | nil => simp [Table.erase]
  | cons y t ih =>
    obtain ⟨k, y⟩ := y
    simp only [Table.erase, List.filter_cons, bne_iff_ne] at ih ⊢
    by_cases h : k = n
    · simp only [h, ne_eq, not_true_eq_false, ↓reduceIte, ih, Table.get_cons]
      by_cases hm : m = n
      · simp [hm]
      · simp [hm, Ne.symm hm]
    · simp only [ne_eq, h, not_false_eq_true, ↓reduceIte, Table.get_cons, ih]
      by_cases hk : k = m
      · simp [hk, show m ≠ n by omega]
      · simp [hk]

theorem Table.mem_of_get {t : List (Nat × α)} {n : Nat} {x : α} (h : Table.get t n = some x) : (n, x) ∈ t := by
  induction t with
  | nil => simp at h
  | cons y t ih =>
    obtain ⟨k, y⟩ := y
    rw [Table.get_cons] at h
    split at h
    · simp_all
    · exact List.mem_cons_of_mem _ (ih h)

theorem Table.key_of_get {t : List (Nat × α)} {n : Nat} {x : α} (h : Table.get t n = some x) : n ∈ Table.keys t :=
  List.mem_map.2 ⟨_, Table.mem_of_get h, rfl⟩

theorem Table.get_none_of_not_key {t : List (Nat × α)} {n : Nat} (h : n ∉ Table.keys t) : Table.get t n = none := by
  cases hg : Table.get t n with
  | none => rfl
  | some x => exact absurd (Table.key_of_get hg) h

theorem Table.mem_keys_iff {t : List (Nat × α)} {n : Nat} : n ∈ Table.keys t ↔ ∃ x, Table.get t n = some x := by
  refine ⟨fun h => ?_, fun ⟨_, h⟩ => Table.key_of_get h⟩
  induction t with
  | nil => simp [Table.keys] at h
  | cons y t ih =>
    obtain ⟨k, y⟩ := y
    simp only [Table.keys, List.map_cons, List.mem_cons] at h ih
    by_cases hk : k = n
    · exact ⟨y, by simp [Table.get_cons, hk]⟩
    · simpa [Table.get_cons, hk] using ih (h.resolve_left (Ne.symm hk))

/-- In canonical form, what the table lists is what it reads. -/
theorem Table.get_of_mem {t : List (Nat × α)} (hs : (Table.keys t).Pairwise (· < ·)) {n : Nat} {x : α} (h : (n, x) ∈ t) :
    Table.get t n = some x := by
  induction t with
  | nil => simp at h
  | cons y t ih =>
    obtain ⟨k, y⟩ := y
    simp only [Table.keys, List.map_cons, List.pairwise_cons] at hs ih
    rcases List.mem_cons.1 h with h | h
    · cases h; simp [Table.get_cons]
    · have : k ≠ n := Nat.ne_of_lt (hs.1 n (List.mem_map.2 ⟨_, h, rfl⟩))
      simpa [Table.get_cons, this] using ih hs.2 h

theorem Table.mem_iff_get {t : List (Nat × α)} (hs : (Table.keys t).Pairwise (· < ·)) {n : Nat} {x : α} :
    (n, x) ∈ t ↔ Table.get t n = some x := ⟨Table.get_of_mem hs, Table.mem_of_get⟩

theorem Table.mem_keys_put {t : List (Nat × α)} {n m : Nat} {x : α} :
    m ∈ Table.keys (Table.put t n x) ↔ m = n ∨ m ∈ Table.keys t := by
  simp only [Table.mem_keys_iff, Table.get_put]
  by_cases h : m = n <;> simp [h]

theorem Table.put_sorted {t : List (Nat × α)} (hs : (Table.keys t).Pairwise (· < ·)) (n : Nat) (x : α) :
    (Table.keys (Table.put t n x)).Pairwise (· < ·) := by
  induction t with
  | nil => simp [Table.put, Table.keys]
  | cons y t ih =>
    obtain ⟨k, y⟩ := y
    simp only [Table.keys, List.map_cons, List.pairwise_cons] at hs ih
    simp only [Table.put]
    split
    · rename_i h
      simp only [Table.keys, List.map_cons, List.pairwise_cons, List.mem_cons]
      exact ⟨fun a ha => ha.elim (fun e => e ▸ h) fun ha => Nat.lt_trans h (hs.1 a ha), hs.1, hs.2⟩
    · split
      · subst n; simpa [Table.keys, List.pairwise_cons] using hs
      · simp only [Table.keys, List.map_cons, List.pairwise_cons]
        refine ⟨fun a ha => ?_, ih hs.2⟩
        rcases Table.mem_keys_put.1 ha with e | ha
        · omega
        · exact hs.1 a ha

theorem Table.put_wf {b : Nat} {t : List (Nat × α)} (h : Table.wf b t) {n : Nat} (hn : n < b) (x : α) :
    Table.wf b (Table.put t n x) :=
  ⟨Table.put_sorted h.1 n x, fun m hm => (Table.mem_keys_put.1 hm).elim (fun e => e ▸ hn) (h.2 m)⟩

theorem Table.keys_erase (t : List (Nat × α)) (n : Nat) : Table.keys (Table.erase t n) = (Table.keys t).filter (· != n) := by
  simp [Table.keys, Table.erase, List.filter_map]
  rfl

theorem Table.erase_wf {b : Nat} {t : List (Nat × α)} (h : Table.wf b t) (n : Nat) : Table.wf b (Table.erase t n) := by
  rw [Table.wf, Table.keys_erase]
  exact ⟨h.1.filter _, fun m hm => h.2 m (List.mem_of_mem_filter hm)⟩

/-- Writing at a number that the table lists changes no length; at another number it adds one. -/
theorem Table.length_put (t : List (Nat × α)) (hs : (Table.keys t).Pairwise (· < ·)) (n : Nat) (x : α) :
    (Table.put t n x).length = if (Table.get t n).isSome then t.length else t.length + 1 := by
  induction t with
  | nil => simp [Table.put]
  | cons y t ih =>
    obtain ⟨k, y⟩ := y
    simp only [Table.keys, List.map_cons, List.pairwise_cons] at hs ih
    simp only [Table.put, Table.get_cons]
    split
    · rename_i h
      have : Table.get t n = none := Table.get_none_of_not_key fun hm => by
        have := hs.1 n hm; omega
      simp [show k ≠ n by omega, this]
    · split
      · simp_all
      · rename_i h1 h2
        simp only [List.length_cons, ih hs.2, show k ≠ n by omega, if_false]
        split <;> rfl

theorem Table.length_erase (t : List (Nat × α)) (hs : (Table.keys t).Pairwise (· < ·)) (n : Nat) :
    (Table.erase t n).length = if (Table.get t n).isSome then t.length - 1 else t.length := by
  induction t with
  | nil => simp [Table.erase]
  | cons y t ih =>
    obtain ⟨k, y⟩ := y
    simp only [Table.keys, List.map_cons, List.pairwise_cons] at hs ih
    have ih := ih hs.2
    simp only [Table.erase] at ih
    simp only [Table.erase, List.filter_cons, Table.get_cons, bne_iff_ne]
    by_cases h : k = n
    · have hn : Table.get t n = none := Table.get_none_of_not_key fun hm => by
        have := hs.1 n hm; omega
      simp [h, ih, hn]
    · simp only [ne_eq, h, not_false_eq_true, if_true, if_false, List.length_cons, ih]
      split
      · rename_i hg
        obtain ⟨x, hx⟩ := Option.isSome_iff_exists.1 hg
        have := List.length_pos_of_mem (Table.mem_of_get hx)
        omega
      · rfl

/-- Two tables in canonical form that read the same are equal. -/
theorem Table.eq_of_get {t u : List (Nat × α)} (ht : (Table.keys t).Pairwise (· < ·)) (hu : (Table.keys u).Pairwise (· < ·))
    (h : ∀ n, Table.get t n = Table.get u n) : t = u := by
  induction t generalizing u with
  | nil =>
    cases u with
    | nil => rfl
    | cons y u =>
      obtain ⟨j, y⟩ := y
      simpa [Table.get_cons] using h j
  | cons x t ih =>
    obtain ⟨k, x⟩ := x
    cases u with
    | nil => simpa [Table.get_cons] using h k
    | cons y u =>
      obtain ⟨j, y⟩ := y
      simp only [Table.keys, List.map_cons, List.pairwise_cons] at ht hu ih
      have hk : k = j := by
        rcases Nat.lt_trichotomy k j with l | e | l
        · have hn : Table.get u k = none := Table.get_none_of_not_key fun hm => by
            have := hu.1 k hm; omega
          have := h k
          simp [Table.get_cons, show j ≠ k by omega, hn] at this
        · exact e
        · have hn : Table.get t j = none := Table.get_none_of_not_key fun hm => by
            have := ht.1 j hm; omega
          have := h j
          simp [Table.get_cons, show k ≠ j by omega, hn] at this
      subst hk
      have hx : x = y := by simpa [Table.get_cons] using h k
      subst hx
      congr 1
      refine ih ht.2 hu.2 fun n => ?_
      by_cases hn : k = n
      · have h1 : Table.get t n = none := Table.get_none_of_not_key fun hm => by
          have := ht.1 n hm; omega
        have h2 : Table.get u n = none := Table.get_none_of_not_key fun hm => by
          have := hu.1 n hm; omega
        rw [h1, h2]
      · simpa [Table.get_cons, hn] using h n

end Sys2Proof.Machine
end

