-- ==== Sys2Proof/Laws/Validation.lean ====
section
/-! SUPPORT. Validation: the list of checks (`State.verdict`) gives the verdict on which a PRESENT is evaluated, and what the evaluation
is for each. -/

namespace Sys2Proof.Machine

/-- The entry that a lookup finds stands in its slot and has the pass number asked for (R4). -/
theorem State.findPass_pass {s : State} {pass n : Nat} {e : Entry} (h : s.findPass pass = some (n, e)) : s.entryAt n = some e ∧ e.pass = pass := by
  unfold State.findPass at h
  split at h
  · cases h
  · rename_i m hm
    simp only [Option.map_eq_some_iff, Prod.mk.injEq] at h
    obtain ⟨a, ha, rfl, rfl⟩ := h
    unfold State.findSlot at hm
    have := List.find?_some hm
    simp [ha] at this
    exact ⟨ha, this⟩

/-! ### The verdict, stage by stage (R55) -/


theorem State.verdict_unset {s : State} {l : Lane} {i : Image} (h : s.clock.state = .unset) : s.verdict l i = .clockUnset := by
  simp [State.verdict, State.checks, firstOf, h]

/-- From step 6 on the verdict is that of the model's ordered tests. -/
theorem State.verdict_found {s : State} {l : Lane} {c : Card} {n : Nat} {e : Entry} (h : s.clock.state ≠ .unset)
    (h1 : (s.lane l).state = .work .normal ∨ (s.lane l).state = .work .opened) (hf : s.isForeign c = false)
    (he : s.findPass c.pass = some (n, e)) : s.verdict l (.card c) = s.judgeEntry l c e := by
  obtain ⟨w, hs, hn⟩ : ∃ w, (s.lane l).state = .work w ∧ w ≠ .closed := by
    rcases h1 with h1 | h1 <;> exact ⟨_, h1, by simp⟩
  simp only [State.isForeign, Bool.or_eq_false_iff] at hf
  simp only [State.verdict, State.checks, firstOf, State.presented, State.onFound, he, Option.any_some, Option.isNone_some, hf.1, hf.2,
    State.judgeEntry, hs]
  have hc : (LaneState.work w == .work .closed) = false := by cases w <;> simp_all
  simp only [hc, Bool.or_self, Bool.false_eq_true, if_false]
  simp only [beq_iff_eq, h, if_false, bne_iff_ne, ne_eq]
  by_cases h2 : c.seq = e.seq
  swap
  · simp [h2]
  by_cases h3 : c.product = e.product.val ∧ c.validFrom = e.validFrom
  swap
  · simp only [h2, not_true_eq_false, if_false]; rw [if_pos (by simp; tauto), if_pos (by rw [not_and_or] at h3; exact h3)]
  simp only [h2, h3.1, h3.2, not_true_eq_false, if_false, or_self, bne_self_eq_false]
  cases h4 : (s.product e.product).defined
  · simp
  simp only [Bool.not_true, Bool.false_eq_true, if_false, Bool.true_eq_false]
  by_cases h5 : LaneState.work w = .work .opened
  · simp only [h5, if_true]
    cases h6 : (s.product e.product).kind <;> simp
  simp only [h5, if_false, beq_eq_false_iff_ne.2 h5, Bool.false_and, Bool.false_eq_true]
  cases h6 : e.marker with
  | some m => by_cases h7 : m = l <;> simp [h7]
  | none =>
    simp only [Option.isSome_none, Bool.false_eq_true, if_false]
    cases h7 : (s.lane l).hold.isSome
    swap
    · simp
    simp only [Bool.false_eq_true, if_false, State.judgeGrant, reduceCtorEq]
    by_cases h8 : (s.lift (s.liftOf l)).established = .stopped
    · simp [h8]
    simp only [h8, if_false]
    cases h9 : e.state with
    | suspended q => simp [PassState.code]
    | refunded d a => simp [PassState.code]
    | expired => simp [PassState.code]
    | live q =>
      have : (PassState.live q).code ≠ 3 ∧ (PassState.live q).code ≠ 4 ∧ (PassState.live q).code ≠ 5 := by
        cases q <;> simp [PassState.code, LiveState.code]
      simp only [this.1, this.2.1, this.2.2, if_false, decide_eq_true_eq]
      by_cases ha : s.clock.day < e.validFrom
      · simp [ha]
      by_cases hb : e.validTo < s.clock.day
      · simp [ha, hb]
      simp only [ha, hb, if_false, inMask]
      by_cases hc : (s.product e.product).mask.getLsbD (s.liftOf l).val = true
      swap
      · have hc' := Bool.eq_false_iff.2 hc
        simp only [hc', Bool.or_self, Bool.not_false, Bool.false_eq_true, if_true, if_false]
      simp only [hc, Bool.or_self, Bool.not_true, Bool.false_eq_true, Bool.true_eq_false, if_false]
      have hq : ((PassState.live q).code = 2) = (q = .exhausted) := by cases q <;> simp [PassState.code, LiveState.code]
      have hp : (decide (1 ≤ (s.product e.product).passback) && e.lastAdmit.any fun a =>
          a.lift == s.liftOf l && a.day == s.clock.day && decide (s.clock.sec ≤ a.sec + (s.product e.product).passback))
          = s.passbackHolds e (s.product e.product) (s.liftOf l) := by
        unfold State.passbackHolds
        cases e.lastAdmit with
        | none => simp
        | some a =>
          simp only [Option.any_some]
          congr 2
          rw [decide_eq_decide]; omega
      cases hk : (s.product e.product).kind with
      | control => simp
      | rider =>
        simp only [beq_self_eq_true, Bool.true_and, hp, true_and]
        by_cases hx : q = .exhausted ∧ e.lastUse ≠ some s.clock.day
        · rw [if_pos hx, if_pos (by simpa [hq] using hx)]
        · rw [if_neg hx, if_neg (by simpa [hq] using hx)]


theorem State.verdict_closed {s : State} {l : Lane} {i : Image} (h : s.clock.state ≠ .unset) (hl : (s.lane l).state = .work .closed) :
    s.verdict l i = .laneClosed := by
  simp [State.verdict, State.checks, firstOf, h, hl]

theorem State.verdict_fault {s : State} {l : Lane} {i : Image} {w : WorkState} (h : s.clock.state ≠ .unset) (hl : (s.lane l).state = .fault w) :
    s.verdict l i = .laneFault := by
  simp [State.verdict, State.checks, firstOf, h, hl]

theorem State.verdict_bad {s : State} {l : Lane} {r : Reason} (h : s.clock.state ≠ .unset)
    (h1 : (s.lane l).state = .work .normal ∨ (s.lane l).state = .work .opened) : s.verdict l (.bad r) = .unreadable := by
  rcases h1 with h1 | h1 <;> simp [State.verdict, State.checks, firstOf, h, h1]

theorem State.verdict_foreign {s : State} {l : Lane} {c : Card} (h : s.clock.state ≠ .unset)
    (h1 : (s.lane l).state = .work .normal ∨ (s.lane l).state = .work .opened) (hf : s.isForeign c = true) :
    s.verdict l (.card c) = .foreign := by
  simp only [State.isForeign] at hf
  rcases h1 with h1 | h1 <;> simp only [State.verdict, State.checks, firstOf, h1, hf] <;> simp [h]

theorem State.verdict_unknown {s : State} {l : Lane} {c : Card} (h : s.clock.state ≠ .unset)
    (h1 : (s.lane l).state = .work .normal ∨ (s.lane l).state = .work .opened) (hf : s.isForeign c = false)
    (hn : s.findPass c.pass = none) : s.verdict l (.card c) = .unknown := by
  simp only [State.isForeign] at hf
  rcases h1 with h1 | h1 <;> simp only [State.verdict, State.checks, firstOf, h1, hf, State.presented, hn] <;> simp [h]


/-! ### The evaluation -/

@[simp] theorem State.clearRun_judgeEntry (s : State) (l m : Lane) (c : Card) (e : Entry) :
    (s.clearRun m).judgeEntry l c e = s.judgeEntry l c e := by
  have h : ∀ p, (s.clearRun m).product p = s.product p := fun p => by simp [State.product]
  have h1 : ((s.clearRun m).lane l).state = (s.lane l).state ∧ ((s.clearRun m).lane l).hold = (s.lane l).hold := by
    by_cases hl : l = m <;> simp [State.clearRun, State.modReader, hl]
  have h2 : (s.clearRun m).clock = s.clock ∧ (s.clearRun m).lifts = s.lifts ∧ (s.clearRun m).scheme = s.scheme := by simp
  simp only [State.judgeEntry, State.judgeGrant, State.passbackHolds, State.liftOf, State.lift, h, h1.1, h1.2, h2.1, h2.2.1, h2.2.2]
  rfl

@[simp] theorem State.clearRun_isForeign (s : State) (l : Lane) (c : Card) : (s.clearRun l).isForeign c = s.isForeign c := by
  simp [State.isForeign]

@[simp] theorem State.clearRun_findPass (s : State) (l : Lane) (n : Nat) : (s.clearRun l).findPass n = s.findPass n := by
  simp [State.findPass, State.findSlot, State.entryAt]

theorem State.present_unset {s : State} {l : Lane} {i : Image} (h : s.clock.state = .unset) :
    s.present l i = (s.countLane l .refused, presentNoEntry .clockUnset l 0) := by simp [State.present, h]

theorem State.present_closed {s : State} {l : Lane} {i : Image} (h : s.clock.state ≠ .unset) (hl : (s.lane l).state = .work .closed) :
    s.present l i = (s.countLane l .refused, presentNoEntry .laneClosed l 0) := by simp [State.present, h, hl]

theorem State.present_fault {s : State} {l : Lane} {i : Image} {w : WorkState} (h : s.clock.state ≠ .unset)
    (hl : (s.lane l).state = .fault w) : s.present l i = (s.countLane l .refused, presentNoEntry .laneFault l 0) := by
  simp [State.present, h, hl]

theorem State.present_bad {s : State} {l : Lane} {r : Reason} (h : s.clock.state ≠ .unset)
    (h1 : (s.lane l).state = .work .normal ∨ (s.lane l).state = .work .opened) : s.present l (.bad r) = s.presentUnreadable l r := by
  rcases h1 with h1 | h1 <;> simp [State.present, h, h1]

theorem State.present_foreign {s : State} {l : Lane} {c : Card} (h : s.clock.state ≠ .unset)
    (h1 : (s.lane l).state = .work .normal ∨ (s.lane l).state = .work .opened) (hf : s.isForeign c = true) :
    s.present l (.card c)
      = ((((s.clearRun l).endOtherDwell l c.pass).countLane l .refused), presentNoEntry .foreign l 0) := by
  rcases h1 with h1 | h1 <;> simp [State.present, h, h1, State.presentCard, hf]

theorem State.present_unknown {s : State} {l : Lane} {c : Card} (h : s.clock.state ≠ .unset)
    (h1 : (s.lane l).state = .work .normal ∨ (s.lane l).state = .work .opened) (hf : s.isForeign c = false)
    (hn : s.findPass c.pass = none) :
    s.present l (.card c)
      = ((((s.clearRun l).endOtherDwell l c.pass).countLane l .refused), presentNoEntry .unknown l 0) := by
  rcases h1 with h1 | h1 <;> simp [State.present, h, h1, State.presentCard, hf, hn]

/-- From step 6 on a PRESENT is evaluated on the verdict of its checks, once the run count is 0 (R59). -/
theorem State.present_found {s : State} {l : Lane} {c : Card} {n : Nat} {e : Entry} (h : s.clock.state ≠ .unset)
    (h1 : (s.lane l).state = .work .normal ∨ (s.lane l).state = .work .opened) (hf : s.isForeign c = false)
    (he : s.findPass c.pass = some (n, e)) :
    s.present l (.card c) = (s.clearRun l).presentFound (s.verdict l (.card c)) l n e := by
  rw [State.verdict_found h h1 hf he]
  rcases h1 with h1 | h1 <;> simp [State.present, h, h1, State.presentCard, hf, he]

/-- A PRESENT is answered before an entry is found, or its entry decides (R55). -/
theorem State.present_cases (s : State) (l : Lane) (i : Image) :
    (s.clock.state = .unset ∧ s.verdict l i = .clockUnset
        ∧ s.present l i = (s.countLane l .refused, presentNoEntry .clockUnset l 0))
    ∨ (s.clock.state ≠ .unset ∧ (s.lane l).state = .work .closed ∧ s.verdict l i = .laneClosed
        ∧ s.present l i = (s.countLane l .refused, presentNoEntry .laneClosed l 0))
    ∨ (s.clock.state ≠ .unset ∧ (∃ w, (s.lane l).state = .fault w) ∧ s.verdict l i = .laneFault
        ∧ s.present l i = (s.countLane l .refused, presentNoEntry .laneFault l 0))
    ∨ (s.clock.state ≠ .unset ∧ ((s.lane l).state = .work .normal ∨ (s.lane l).state = .work .opened)
        ∧ ((∃ r, i = .bad r ∧ s.verdict l i = .unreadable ∧ s.present l i = s.presentUnreadable l r)
          ∨ ∃ c, i = .card c
            ∧ ((s.verdict l i = .foreign ∧ s.isForeign c = true
                ∧ s.present l i = ((((s.clearRun l).endOtherDwell l c.pass).countLane l .refused), presentNoEntry .foreign l 0))
              ∨ (s.verdict l i = .unknown ∧ s.isForeign c = false ∧ s.findPass c.pass = none
                ∧ s.present l i = ((((s.clearRun l).endOtherDwell l c.pass).countLane l .refused), presentNoEntry .unknown l 0))
              ∨ ∃ n e, s.isForeign c = false ∧ s.findPass c.pass = some (n, e) ∧ s.verdict l i = s.judgeEntry l c e
                ∧ s.present l i = (s.clearRun l).presentFound (s.verdict l i) l n e))) := by
  by_cases h : s.clock.state = .unset
  · exact .inl ⟨h, State.verdict_unset h, State.present_unset h⟩
  refine .inr ?_
  rcases hl : (s.lane l).state with w | w
  swap
  · exact .inr (.inl ⟨h, ⟨w, rfl⟩, State.verdict_fault h hl, State.present_fault h hl⟩)
  cases w with
  | closed => exact .inl ⟨h, rfl, State.verdict_closed h hl, State.present_closed h hl⟩
  | _ =>
    have h1 : (s.lane l).state = .work .normal ∨ (s.lane l).state = .work .opened := by simp [hl]
    refine .inr (.inr ⟨h, by simp, ?_⟩)
    cases i with
    | bad r => exact .inl ⟨r, rfl, State.verdict_bad h h1, State.present_bad h h1⟩
    | card c =>
      refine .inr ⟨c, rfl, ?_⟩
      cases hf : s.isForeign c
      swap
      · exact .inl ⟨State.verdict_foreign h h1 hf, rfl, State.present_foreign h h1 hf⟩
      cases he : s.findPass c.pass with
      | none => exact .inr (.inl ⟨State.verdict_unknown h h1 hf he, rfl, rfl, State.present_unknown h h1 hf he⟩)
      | some x =>
        obtain ⟨n, e⟩ := x
        exact .inr (.inr ⟨n, e, rfl, rfl, State.verdict_found h h1 hf he, State.present_found h h1 hf he⟩)

/-- Steps 11 to 17 give none of the verdicts before them, and ADMIT only to an entry in ISSUED, ACTIVE or EXHAUSTED at a level of 60. -/
theorem State.judgeGrant_cases (s : State) (l : Lane) (e : Entry) :
    s.judgeGrant l e ∈ [Code.liftStopped, .suspended, .refunded, .expired, .notYet, .wrongLift, .exhausted, .passback, .pace]
    ∨ (s.judgeGrant l e = .admitted ∧ (∃ q, e.state = .live q) ∧ Config.riderUnits ≤ (s.lift (s.liftOf l)).level) := by
  unfold State.judgeGrant
  cases he : e.state <;> dsimp only <;> split_ifs <;> simp_all

/-- No verdict of the steps from 6 on is one of those given before an entry is found. -/
theorem State.judgeEntry_late (s : State) (l : Lane) (c : Card) (e : Entry) :
    s.judgeEntry l c e ∉ [Code.clockUnset, .laneClosed, .laneFault, .unreadable, .foreign, .unknown] := by
  have hg := s.judgeGrant_cases l e
  generalize hv : s.judgeGrant l e = v at hg
  have hl : v ∉ [Code.clockUnset, .laneClosed, .laneFault, .unreadable, .foreign, .unknown] := by
    rcases hg with h | h
    · clear hv; revert h; cases v <;> simp
    · simp [h.1]
  unfold State.judgeEntry
  cases e.marker <;> dsimp only <;> split_ifs <;> simp_all

/-- ADMIT is given in a NORMAL lane without a hold to an entry in ISSUED, ACTIVE or EXHAUSTED without a marker (R64 to R74). -/
theorem State.judgeEntry_admit {s : State} {l : Lane} {c : Card} {e : Entry} (h : s.judgeEntry l c e = .admitted) :
    (s.lane l).state ≠ .work .opened ∧ e.marker = none ∧ (s.lane l).hold = none ∧ (∃ q, e.state = .live q)
      ∧ Config.riderUnits ≤ (s.lift (s.liftOf l)).level ∧ (s.product e.product).defined = true := by
  unfold State.judgeEntry at h
  cases hm : e.marker <;> rw [hm] at h <;> dsimp only at h <;> split_ifs at h with h1 h2 h3 h4 h5 h6
  rcases s.judgeGrant_cases l e with hg | hg
  · rw [h] at hg; simp at hg
  · exact ⟨h4, rfl, by simpa using h6, hg.2.1, hg.2.2, by simpa using h3⟩

end Sys2Proof.Machine
end

