-- ==== Sys2Proof/Tests/Slice0.lean ====
section
/-! SUPPORT. The package's own tests: the well-formedness smoke test, worked examples of the manual, and for every statement with
hypotheses a witness that meets them. Expected values come from the manual's examples and tables, worked by hand. The theorems are
elaborated one after another: each is an evaluation in the kernel, and all at once they would ask for too many threads. -/

open Sys2Proof Sys2Proof.Machine

namespace Sys2Proof.Tests

set_option Elab.async false

/-! ### Helpers -/

/-- The state after a command; no command faults or is refused. -/
def after (c : Instr) (s : State) : State :=
  match exec c s with
  | .next t => t
  | .fault f => nomatch f
  | .refused _ => s

/-- A frame of kind code `kind` with tag 9. -/
def frameOf (kind : Nat) (payload : List Byte) : Frame := { kind := byteOf kind, tag := 9, payload := payload }

/-- A frame taken by a port. -/
def asked (p : Port) (kind : Nat) (payload : List Byte) (s : State) : State :=
  s.takeFrame p (frameOf kind payload) payload.length

/-- The request that `asked` puts into the first place of an empty queue, with stamp 0. -/
def first (p : Port) (kind : Nat) (payload : List Byte) : StoreReq :=
  { port := p, index := 0, frame := frameOf kind payload, stamp := 0 }

/-- The payloads of the responses that wait at a port, as numbers. -/
def answers (s : State) (p : Port) : List (List Nat) :=
  (s.port p).responses.map fun f => f.payload.map BitVec.toNat

/-- A RIDER product for every lift, with a passback of 300 s and the refund data of worked case 1 of chapter 8. -/
def rider : Product :=
  { defined := true, kind := .rider, mask := 15, passback := 300, refundable := true, row := 4, fee := 1250, unit := 500,
    minPayout := 1000 }

/-- A CONTROL product for every lift. -/
def staff : Product := { rider with kind := .control, passback := 0, refundable := false }

/-- An issued pass of bucket 1, valid on days 90 to 120. -/
def pass1 : Entry :=
  { pass := 1, seq := 0, product := 0, validFrom := 90, validTo := 120, bought := 3, used := 0, lost := 0
    state := .live .issued, price := 30000, lastUse := none, lastAdmit := none, chain := none, marker := none }

/-- The card of `pass1`. -/
def card1 : Card := { pass := 1, seq := 0, product := 0, validFrom := 90, resort := 7 }

/-- A lane in NORMAL with the power-on profile. -/
def openLane : LaneRec := { LaneRec.powerOn with state := .work .normal }

/-- The part on day 100 with every lane NORMAL, every lift RUNNING, products 0 (RIDER) and 1 (CONTROL), and resort code 7. -/
def bareSite : State :=
  ((((State.reset.withClock { state := .running, day := 100, sec := 1000, stalled := false, ticks := 0 }).withResort 7).withProducts
    ((State.reset.products.set 0 rider).set 1 staff)).withLanes (Vector.replicate 8 openLane)).withLifts
      (Vector.replicate 4 { LiftRec.powerOn with established := .running })

/-- `bareSite` with one entry, in slot 16. -/
def siteOf (e : Entry) : State := (bareSite.withSlots [(16, e)]).withFreeSlots 16383

/-- `bareSite` with `pass1`. -/
def site : State := siteOf pass1

/-! ### Well-formedness, and the word decoder -/

/-- The ill-formed commands: a STATUS with the code of SEND or of FETCH (R197); any other code is STATUS. -/
theorem test_wellFormed_status :
    (Instr.status .office 1).wellFormed = false ∧ (Instr.status .office 2).wellFormed = false
      ∧ (Instr.status .office 0).wellFormed = true ∧ (Instr.status .office 3).wellFormed = true
      ∧ (Instr.status .office 255).wellFormed = true := by decide

/-- No row of the table has bits, so no word spells a command and nothing is put at the front of the queue. -/
theorem test_no_word_spells_a_command : decodeTableWord 8 1 = none ∧ decodeTableWord 0 0 = none := by decide

/-! ### Worked examples of the manual -/

/-- Section 1.6, "checking a card image": the check is 252, 141, and the pass belongs to bucket 579. -/
theorem test_card_image_example :
    (Card.bytes { pass := 2000451, seq := 2, product := 17, validFrom := 412, resort := 3071 }).map BitVec.toNat
        = [198, 1, 10, 0, 30, 134, 67, 2, 17, 1, 156, 11, 255, 252, 141]
      ∧ bucketOf 2000451 = 579 ∧ (bucketSlots 579).head? = some 9264 ∧ (bucketSlots 579).getLast? = some 9279 := by
  decide +kernel

/-- R11: the marker, the format, the length byte and the sum are examined in this order. -/
theorem test_card_image_reasons :
    readImage ([0xC5] ++ card1.bytes.drop 1) = .bad .marker
      ∧ readImage ([0xC6, 2] ++ card1.bytes.drop 2) = .bad .format
      ∧ readImage ([0xC6, 1, 9] ++ card1.bytes.drop 3) = .bad .length
      ∧ readImage ([0xC6, 1, 10, 1] ++ card1.bytes.drop 4) = .bad .check ∧ readImage card1.bytes = .card card1 := by
  decide +kernel

/-- R199: a granted first admission of the day is answered 32, lane, 0, 3, state 1, days remaining; an image that fails the check
of its sum is answered 39, lane, 4, 0, 0, 0. -/
theorem test_present_bytes :
    answers (after .present (asked (.gate 3) 1 ([6] ++ card1.bytes) site)) (.gate 3) = [[32, 6, 0, 3, 1, 2]]
      ∧ answers (after .present (asked (.gate 3) 1 ([6, 0xC6, 1, 10, 1] ++ card1.bytes.drop 4) site)) (.gate 3)
        = [[39, 6, 4, 0, 0, 0]] := by
  decide +kernel

/-- Pass X of worked case 1 of chapter 8, with the chain of its three records in granule 0. -/
def passX : Entry :=
  { pass1 with
    validFrom := 40, validTo := 46, bought := 5, used := 3, state := .live .active, price := 48000, lastUse := some 43
    chain := some { head := 0, tail := 0, fill := 3 } }

/-- The use record of a day with one admit. -/
def ride (day : Nat) (cls : DayClass) : UseRecord := { day := day, cls := cls, first := 30000, admits := 1, lifts := 1 }

/-- A use history store with one chain, in granule 0. -/
def oneChain (rs : List UseRecord) : History :=
  { granules := [(0, { link := .last rs.length, records := rs })], free := List.range' 1 16383, full := false }

/-- Day 43 of worked case 1, with row 4 of the tariff loaded. -/
def siteX : State :=
  (((siteOf passX).withHistory (oneChain [ride 40 2, ride 41 1, ride 43 1])).withTariff
    (State.reset.tariff.set 4 #v[6500, 9000, 11500, 12500])).withClock
      { state := .running, day := 43, sec := 60000, stalled := false, ticks := 0 }

/-- Worked case 1 of chapter 8: outcome 0, presence 11, state 4, A 17,000, V 29,500, E 2, K 19,200 and refund day 43 (R200). -/
theorem test_refund_worked_case_1 :
    answers (after .refund (asked .office 23 [0, 0, 0, 1, 0] siteX)) .office
      = [[0, 11, 0, 0, 0, 1, 4, 0, 66, 104, 0, 115, 60, 2, 0, 75, 0, 0, 43, 0, 0, 0]] := by decide +kernel

/-- Section 6.4, "a stop with a bounce": the six ticks of lift 1. -/
theorem test_stop_with_a_bounce :
    let lines (run slow : Bool) : LiftLines := Vector.replicate 4 { run := run, slow := slow }
    let s := site.setLift 1 { established := .running, previous := some .running, rate := 30, burst := 8, level := 300 }
    let s2 := after (.tick (lines true false)) (after (.tick (lines false false)) s)
    let s4 := after (.tick (lines false false)) (after (.tick (lines false false)) s2)
    let s6 := after (.tick (lines true true)) (after (.tick (lines true true)) s4)
    (s2.lift 1).level = 360 ∧ (s2.lift 1).established = .running
      ∧ (s4.lift 1).level = 390 ∧ (s4.lift 1).established = .stopped
      ∧ (s6.lift 1).level = 405 ∧ (s6.lift 1).established = .slowed := by decide +kernel

/-- Section 3.7, "loading a season": 139 entries written, and the classes of four days. -/
theorem test_loading_a_season :
    let run (start count cls : Nat) : List Byte := bytesOf 2 start ++ bytesOf 2 count ++ [byteOf cls]
    let s := site.withCalendar { State.reset.calendar with base := 400 }
    let t := after .loadCalendarRuns (asked .office 36 ([1, 4] ++ run 0 30 0 ++ run 30 90 2 ++ run 55 7 7 ++ run 500 20 2) s)
    answers t .office = [[0, 1, 1, 144, 0, 139]]
      ∧ t.calendar.classOf 412 = 0 ∧ t.calendar.classOf 456 = 3 ∧ t.calendar.classOf 900 = 2 ∧ t.calendar.classOf 912 = 1 := by
  decide +kernel

/-- Section 2.4: a grant whose lane is then released leaves the entry and granule 0 as they were (R34, R88, R90). -/
theorem test_release_undoes_a_first_day :
    let s := after .present (asked (.gate 0) 1 ([0] ++ card1.bytes) site)
    let t := after .release (asked (.gate 0) 3 [0] s)
    (s.history.granule 0).isSome = true ∧ t.entryAt 16 = some pass1 ∧ t.history.granule 0 = none
      ∧ t.history.free.head? = some 0 := by decide +kernel

/-- Section 10.6, "the office reads its lanes": a TAILGATE of lane 3 stands in bit 3 of byte 4 and in the summary (R201). -/
theorem test_office_reads_a_lane :
    let s := asked .office 5 [3] (after .passed (asked (.gate 1) 2 [3] site))
    answers (after (.readEvents .office) s) .office = [[0, 130, 0, 8, 56, 0]]
      ∧ (after (.readEvents .office) s).office.flags = [] := by decide +kernel

/-! ### Witnesses: for each statement with hypotheses, states and operands that meet them, clause by clause -/

/-- A queue of 7 requests, answered frames all. -/
def sevenAnswered : List Waiting := List.replicate 7 { frame := frameOf 0 [], role := .answered .unknownRequest }

/-- `s` with the office's queues replaced. -/
def withQueues (s : State) (requests : List Waiting) (responses : List Frame) : State :=
  s.setPort .office { s.office with requests := requests, responses := responses }

/-- `s` with the reset line active. -/
def held (s : State) : State := s.withPins { s.pins with resetActive := true }

/-- Witness of CommandsCompleteAndChangeOnlyTheirParts: a SET_SCHEME that changes the scheme. -/
theorem witness_CommandsComplete :
    let s := asked .office 38 [3] State.reset
    exec .setScheme s = .next (after .setScheme s) ∧ (after .setScheme s).scheme = .s3 := ⟨rfl, by decide +kernel⟩

/-- Witness of PortFrames: a tick keeps a flag that is set, and answers none of the office's frames. -/
theorem witness_PortFrames :
    exec (.tick linesLow) State.reset = .next (after (.tick linesLow) State.reset)
      ∧ (State.reset.port .office).flagged (.device .restarted) = true
      ∧ (∀ q, Instr.tick linesLow ≠ .readEvents q) ∧ (∀ b, Instr.tick linesLow ≠ .send .office b)
      ∧ (∀ n, Instr.tick linesLow ≠ .fetch .office n) ∧ (∀ t, Instr.tick linesLow ≠ .restart t)
      ∧ Instr.tick linesLow ≠ .resetLine ∧ Instr.tick linesLow ≠ .powerOnReset ∧ Instr.tick linesLow ≠ .setEvents := by
  refine ⟨rfl, by decide, ?_, ?_, ?_, ?_, ?_, ?_, ?_⟩ <;> simp

/-- Witness of SendTakesAFrame, its first clause: with 7 requests waiting, a REFUND is a store request, a READ_CLOCK a served one,
and a frame of kind 0 with 64 payload bytes is answered UNKNOWN_REQUEST. -/
theorem witness_SendTakesAFrame_whole :
    (withQueues site sevenAnswered []).canTake .office
      ∧ checkFrame .office { kind := 23, tag := 0, payload := [0, 0, 0, 1, 0] } 5 = none
      ∧ ReqKind.ofCode 23 = some .refund ∧ ReqKind.refund.storeClass.isSome = true
      ∧ checkFrame .office { kind := 35, tag := 0, payload := [] } 0 = none
      ∧ ReqKind.ofCode 35 = some .readClock ∧ ReqKind.readClock.storeClass.isSome = false
      ∧ checkFrame .office { kind := 0, tag := 0, payload := List.replicate 64 7 } 64 = some .unknownRequest := by
  unfold State.canTake; decide +kernel

/-- `s` with a transaction in progress at the office. -/
def busy (s : State) (x : Transaction) : State := s.setPort .office { s.office with transaction := some x }

/-- The bytes of a REFUND, and the same bytes as the second piece of a SEND whose header came before. -/
def refundBytes : Piece (List Byte) := .whole [23, 9, 5, 0, 0, 0, 1, 0]

def refundRest : Piece (List Byte) := { data := [0, 0, 0, 1, 0], begins := false, ends := false }

/-- Witness of SendTakesAFrame, its pieces and its other clauses: a REFUND whole and in two pieces; a length of 65; an active reset
line; 8 requests; 2 bytes; a payload that is one byte short; a piece with no SEND in progress and one after its frame. -/
theorem witness_SendTakesAFrame_pieces :
    site.shiftedIn .office refundBytes = some ([23, 9, 5] ++ [0, 0, 0, 1, 0] ++ [])
      ∧ (busy site (.sending [23, 9, 5])).shiftedIn .office refundRest = some ([23, 9, 5] ++ [0, 0, 0, 1, 0] ++ [])
      ∧ (busy site (.sending [23, 9, 5])).canTake .office ∧ checkFrame .office (frameOf 23 [0, 0, 0, 1, 0]) 5 = none
      ∧ site.shiftedIn .office (.whole [23, 9, 65]) = some (23 :: 9 :: 65 :: []) ∧ 64 < (65 : Byte).toNat
      ∧ (held site).shiftedIn .office refundBytes = some [23, 9, 5, 0, 0, 0, 1, 0] ∧ (held site).pins.resetActive = true
      ∧ Config.queuePlaces ≤ ((withQueues site ({ frame := frameOf 0 [], role := .served } :: sevenAnswered) []).port .office).requests.length
      ∧ site.shiftedIn .office (.whole [23, 9]) = some [23, 9] ∧ sentFrame [23, 9] = none
      ∧ sentFrame [23, 9, 5, 0, 0, 0, 1] = none ∧ site.shiftedIn .office refundRest = none
      ∧ (busy site .over).shiftedIn .office refundRest = none
      ∧ ((busy site .over).port .office).transaction = some .over := by
  unfold State.canTake; decide +kernel

/-- R183, R188: a frame sent in two pieces is taken with its last byte; one whose SEND a reset has ended is not; the FETCH that the same
reset ends shifts out the empty frame from its first byte. -/
theorem test_transactions_in_pieces :
    let ends (b : List Byte) : Instr := .send .office { data := b, begins := false, ends := true }
    let half := after (.send .office { data := [23, 9, 5], begins := true, ends := false }) site
    let fetched := after (.fetch (.gate 0) { data := 4, begins := true, ends := false }) (site.setPort (.gate 0)
      { site.port (.gate 0) with responses := [frameOf 1 [32, 0, 0, 3, 1, 2]] })
    (half.port .office).requests = [] ∧ ((after (ends [0, 0, 0, 1, 0]) half).port .office).requests.length = 1
      ∧ ((after (ends [0, 0, 0, 1, 0]) (after .resetLineInactive (after .resetLine half))).port .office).requests = []
      ∧ (fetched.port (.gate 0)).responses.length = 1
      ∧ ((after (.fetch (.gate 0) { data := 5, begins := false, ends := true }) (after .resetLine fetched)).port (.gate 0)).dataOut.map
          BitVec.toNat = [121, 1, 9, 6, 32, 0, 0, 0] := by decide +kernel

/-- Witness of FrameChecksInOrder: a frame that fails each check, and one that passes them all. -/
theorem witness_FrameChecksInOrder :
    ReqKind.ofCode 0 = none
      ∧ (ReqKind.ofCode 4 = some .laneReport ∧ ReqKind.laneReport.permitted .office = false)
      ∧ (ReqKind.laneReport.permitted (.gate 3) = true ∧ ReqKind.laneReport.lengthOk (.gate 3) 1 [6] = false)
      ∧ (ReqKind.laneReport.lengthOk (.gate 3) 2 [5, 3] = true ∧ laneOk .laneReport (.gate 3) [5, 3] = false)
      ∧ (laneOk .laneReport (.gate 3) [6, 3] = true ∧ ReqKind.laneReport.codesOk [6, 3] = false)
      ∧ (laneOk .laneReport (.gate 3) [7, 2] = true ∧ ReqKind.laneReport.codesOk [7, 2] = true) := by decide

/-- Witness of FetchAndStatus: a response of 1 payload byte with 4 bytes shifted out, and with 3; the rest of a response in progress, and
no FETCH in progress. -/
theorem witness_FetchAndStatus :
    let s := withQueues site [] [frameOf 35 [0]]
    s.pins.resetActive = false ∧ (s.port .office).responses = frameOf 35 [0] :: []
      ∧ 3 + (frameOf 35 [0]).payload.length ≤ 4 ∧ 3 < 3 + (frameOf 35 [0]).payload.length
      ∧ (held s).pins.resetActive = true ∧ (site.port .office).responses = []
      ∧ ((busy s (.fetching [1, 0] true)).port .office).transaction = some (.fetching [1, 0] true)
      ∧ (∀ left response, (s.port .office).transaction ≠ some (.fetching left response)) := by
  refine ⟨?_, ?_, ?_, ?_, ?_, ?_, ?_, ?_⟩
  iterate 7 decide +kernel
  intro left response h
  have hn : ((withQueues site [] [frameOf 35 [0]]).port .office).transaction = none := by decide +kernel
  cases hn.symm.trans h

/-- Witness of PortServedFramesInOrder: an answered frame behind a request that waits for the store, with 7 responses waiting. -/
theorem witness_PortServedFramesInOrder :
    let older : List Waiting := [{ frame := frameOf 23 [0, 0, 0, 1, 0], role := .store 0 }]
    let s := withQueues site (older ++ { frame := frameOf 0 [], role := .answered .unknownRequest } :: [])
      (List.replicate 7 (frameOf 35 [0]))
    (s.port .office).requests = older ++ { frame := frameOf 0 [], role := .answered .unknownRequest } :: []
      ∧ (∀ w ∈ older, ∃ stamp, w.role = .store stamp) ∧ (s.port .office).responses.length < Config.queuePlaces := by
  refine ⟨rfl, ?_, by decide +kernel⟩
  simp

/-- Witness of WarmResetByLineAndRestart: the line is inactive and the office port can take a frame; the line is active; a RESTART with a
byte behind it, and one whose kind byte came in an earlier piece. -/
theorem witness_WarmReset :
    site.pins.resetActive = false ∧ site.canTake .office ∧ (held site).pins.resetActive = true
      ∧ site.shiftedIn .office { data := [48, 9, 0, 7], begins := true, ends := false } = some ([48, 9, 0] ++ [7])
      ∧ (busy site (.sending [48])).canTake .office
      ∧ (busy site (.sending [48])).shiftedIn .office { data := [9, 0], begins := false, ends := true } = some ([48, 9, 0] ++ []) := by
  unfold State.canTake; decide +kernel

/-- Witness of EventsSetFlagsAtThePortsTheyReach: a numbering of the kinds as the table of R189 orders them. -/
theorem witness_Attention : ∃ kind : Event → Nat,
    (∀ l, kind (.laneState l) = 0 ∧ kind (.readerSuspect l) = 1 ∧ kind (.holdExpired l) = 2 ∧ kind (.tailgate l) = 3)
      ∧ (∀ f, kind (.liftState f) = 4) ∧ kind (.device .roundReady) = 5 ∧ kind (.device .roundOverrun) = 6
      ∧ kind (.device .countSaturated) = 7 ∧ kind (.device .historyFull) = 8 ∧ kind (.device .tableLow) = 9
      ∧ kind (.device .sweepDone) = 10 ∧ kind (.device .sweepLate) = 11 ∧ kind (.device .dayRollover) = 12
      ∧ kind (.device .clockStall) = 13 ∧ kind (.device .restarted) = 14 := by
  refine ⟨fun e => match e with
    | .laneState _ => 0 | .readerSuspect _ => 1 | .holdExpired _ => 2 | .tailgate _ => 3 | .liftState _ => 4
    | .device d => 5 + d.index, ?_, ?_, ?_, ?_, ?_, ?_, ?_, ?_, ?_, ?_, ?_, ?_⟩ <;> decide

/-- Witness of ReadEventsReturnsAndClears: a gate port, and the office with selectors 0, 7, 8 and 9. -/
theorem witness_ReadEvents :
    (asked (.gate 2) 5 [] site).serves (.gate 2) .readEvents 0 (frameOf 5 [])
      ∧ (∀ sel ∈ ([0, 7, 8, 9] : List Byte), (asked .office 5 [sel] site).serves .office .readEvents 0 (frameOf 5 [sel])) := by
  unfold State.serves; decide +kernel

/-- Witness of SetEventsWritesMasksAndEdges: target 4 with modes 0 and 1 and every mask bit set; target 5; mode 2. -/
theorem witness_SetEvents :
    (∀ p ∈ ([[4, 255, 255, 0, 1, 0, 1, 1], [5, 0, 0, 0, 0, 0, 0, 0], [4, 0, 0, 0, 0, 0, 0, 2]] : List (List Byte)),
      (asked .office 47 p site).serves .office .setEvents 0 (frameOf 47 p))
      ∧ portArg (byteAt 0 [4, 255, 255, 0, 1, 0, 1, 1]) = some .office
      ∧ (∀ n ∈ [3, 4, 5, 6, 7], byteAt n [4, 255, 255, 0, 1, 0, 1, 1] ≤ 1)
      ∧ 4 < byteAt 0 [5, 0, 0, 0, 0, 0, 0, 0] ∧ ∃ n ∈ [3, 4, 5, 6, 7], 1 < byteAt n [4, 0, 0, 0, 0, 0, 0, 2] := by
  unfold State.serves; decide +kernel

/-! ### One entry and one chain: the invariants of the witnesses' states -/

theorem entryAt_one {s : State} {n : Nat} {e : Entry} (hs : s.slots = [(n, e)]) (m : Nat) (x : Entry) :
    s.entryAt m = some x ↔ n = m ∧ e = x := by
  simp [State.entryAt, hs, Table.get]

theorem storeOk_one {s : State} {n : Nat} {e : Entry} (hs : s.slots = [(n, e)]) (hn : n < 16384)
    (hb : n / 16 = bucketOf e.pass) (hf : s.freeSlots = 16383) : s.StoreOk := by
  refine ⟨?_, ?_, ?_, ?_⟩
  · simp [hs, Table.wf, Table.keys, hn]
  · intro m x h
    obtain ⟨rfl, rfl⟩ := (entryAt_one hs m x).1 h
    exact hb
  · intro m k x y hx hy _
    exact ((entryAt_one hs m x).1 hx).1.symm.trans ((entryAt_one hs k y).1 hy).1
  · simp [hs, hf]

theorem historyOk_one {s : State} {n : Nat} {e : Entry} {rs : List UseRecord} (hs : s.slots = [(n, e)])
    (hh : s.history = oneChain rs) (hc : e.chain = some { head := 0, tail := 0, fill := rs.length }) (h1 : 1 ≤ rs.length)
    (h6 : rs.length ≤ 6) (hu : e.used = rs.length + e.lost)
    (hf : ∀ l h, (s.lane l).hold = some h → h.facts.Fit e) : s.HistoryOk := by
  have hg : s.history.chainGranules e.chain = [0] := by
    simp [hh, hc, oneChain, History.chainGranules, History.walkFrom, History.granule, Table.get]
  have hchained : s.chained = [0] := by simp [State.chained, hs, hg]
  have hfree : s.history.free = List.range' 1 16383 := by rw [hh]; rfl
  refine ⟨?_, ?_, ?_, ?_, ?_, ?_, ?_, ?_⟩
  · simp [hh, oneChain, Table.wf, Table.keys]
  · intro m x h
    obtain ⟨rfl, rfl⟩ := (entryAt_one hs m x).1 h
    rw [hc] at hg ⊢
    refine ⟨?_, by rw [hg]; rfl, by rw [hg]; rfl⟩
    rw [hg]
    exact ⟨h1, h6, rs, by simp [hh, oneChain, History.granule, Table.get], rfl⟩
  · intro m x h
    obtain ⟨rfl, rfl⟩ := (entryAt_one hs m x).1 h
    rw [hu, History.records, hg]
    simp [hh, oneChain, History.granule, Table.get]
  · rw [hchained, hfree, List.nodup_append]
    refine ⟨List.nodup_range', by simp, ?_⟩
    intro a ha b hb
    simp only [List.mem_range'_1, List.mem_singleton] at ha hb
    omega
  · intro g
    rw [hchained, hfree]
    simp only [List.mem_append, List.mem_range'_1, List.mem_singleton, Config.granuleCount]
    omega
  · intro g h
    rw [hfree, List.mem_range'_1] at h
    have : (0 : Nat) ≠ g := by omega
    simp [hh, oneChain, History.granule, Table.get, this]
  · simp [hh, oneChain]
  · intro l h x hl hx
    obtain ⟨-, rfl⟩ := (entryAt_one hs _ x).1 hx
    exact hf l h hl

theorem siteX_storeOk : siteX.StoreOk := storeOk_one (n := 16) (e := passX) rfl (by decide) (by decide) rfl

theorem siteX_historyOk : siteX.HistoryOk :=
  historyOk_one (n := 16) (e := passX) rfl rfl rfl (by decide) (by decide) rfl fun l h hl => by
    have hn : ∀ l, (siteX.lane l).hold = none := by decide +kernel
    rw [hn l] at hl
    cases hl

/-! ### The store arbiter and the pass store -/

/-- `s` with this arbiter's stamps and waiting expiries. -/
def withExpiries (s : State) (stamp : Nat) (xs : List Expiry) : State :=
  s.withArbiter { s.arbiter with nextStamp := stamp, expiries := xs }

/-- A PASSED with stamp 0, a SET_LANE with stamp 1, and an expiry with stamp 2. -/
def threeOfA : State :=
  withExpiries (asked .office 37 [2, 0, 3, 8, 10, 7, 0] (asked (.gate 0) 2 [0] site)) 3 [{ lane := 2, stamp := 2 }]

/-- Witness of SelectionOfTheNextGrant: the one oldest class A requester is a request; it is an expiry; the request selected names a
pass. -/
theorem witness_Selection :
    (first (.gate 0) 2 [0] ∈ threeOfA.storeReqs ∧ threeOfA.batchDue = false ∧ threeOfA.eligible (first (.gate 0) 2 [0]) = true
        ∧ (first (.gate 0) 2 [0]).storeClass = some .a
        ∧ (∀ q ∈ threeOfA.storeReqs, threeOfA.eligible q = true → q.storeClass = some .a → q ≠ first (.gate 0) 2 [0] →
            (first (.gate 0) 2 [0]).stamp < q.stamp)
        ∧ (∀ x ∈ threeOfA.arbiter.expiries, (first (.gate 0) 2 [0]).stamp < x.stamp)
        ∧ threeOfA.select = some (.request (first (.gate 0) 2 [0])))
      ∧ (let s := asked (.gate 0) 2 [0] (withExpiries site 1 [{ lane := 2, stamp := 0 }])
        { lane := 2, stamp := 0 } ∈ s.arbiter.expiries ∧ s.batchDue = false
          ∧ (∀ q ∈ s.storeReqs, s.eligible q = true → q.storeClass = some .a → 0 < q.stamp)
          ∧ s.select = some (.expiry { lane := 2, stamp := 0 }))
      ∧ (let s := asked .office 23 [0, 0, 0, 1, 0] (asked .office 17 [0, 0, 0, 1] site)
        s.select = some (.request (first .office 17 [0, 0, 0, 1])) ∧ (first .office 17 [0, 0, 0, 1]).pass? = some 1
          ∧ (first .office 17 [0, 0, 0, 1]).kind? ∈ [some .reissue, some .suspend, some .resume, some .addUse, some .refund]) := by
  decide +kernel

/-- A PRESENT and an INQUIRE that wait, with the lane burst counter at `burst`. -/
def bAndC (burst : Nat) : State :=
  let s := site.withArbiter { site.arbiter with burst := burst }
  asked .office 22 [0, 0, 0, 2, 0] (asked (.gate 0) 1 ([0] ++ card1.bytes) s)

/-- Witness of LaneBurstAndGrantCountTables: B and C below and at the burst limit of 6, B alone, C alone; and the walks. -/
theorem witness_LaneBurst :
    (∀ burst ∈ [5, 6], (bAndC burst).batchDue = false ∧ (bAndC burst).oldestA = none
        ∧ oldest StoreReq.stamp ((bAndC burst).eligibleOf .b) = some (first (.gate 0) 1 ([0] ++ card1.bytes))
        ∧ oldest StoreReq.stamp ((bAndC burst).eligibleOf .c) = some { first .office 22 [0, 0, 0, 2, 0] with stamp := 1 })
      ∧ (bAndC 5).arbiter.burst < (bAndC 5).arbiter.burstLimit ∧ (bAndC 6).arbiter.burstLimit ≤ (bAndC 6).arbiter.burst
      ∧ (let s := asked (.gate 0) 1 ([0] ++ card1.bytes) site
        s.batchDue = false ∧ s.oldestA = none ∧ s.eligibleOf .c = []
          ∧ oldest StoreReq.stamp (s.eligibleOf .b) = some (first (.gate 0) 1 ([0] ++ card1.bytes)))
      ∧ (let s := asked .office 22 [0, 0, 0, 2, 0] site
        s.batchDue = false ∧ s.oldestA = none ∧ s.eligibleOf .b = []
          ∧ oldest StoreReq.stamp (s.eligibleOf .c) = some (first .office 22 [0, 0, 0, 2, 0]))
      ∧ site.sweep.walk = none
      ∧ (∀ u ∈ [Urgency.may, .must 4], (site.setWalk (some { cursor := 64, urgency := u })).sweep.walk
          = some { cursor := 64, urgency := u })
      ∧ (first (.gate 0) 2 [0]).storeClass = some .a := by
  decide +kernel

/-- Witness of LaneBurstAndGrantCountTables, the granted commands: a PASSED at MUST, an ISSUE, an expiry, and a batch. -/
theorem witness_LaneBurst_commands :
    (Instr.passed, isKind .passed) ∈ grantedCommands ∧ (Instr.issue, isKind .issue) ∈ grantedCommands
      ∧ (asked (.gate 0) 2 [0] (site.setWalk (some { cursor := 64, urgency := .must 3 }))).grantable (isKind .passed)
        = some (first (.gate 0) 2 [0])
      ∧ (asked .office 16 (List.replicate 14 0) site).grantable (isKind .issue) = some (first .office 16 (List.replicate 14 0))
      ∧ (withExpiries site 1 [{ lane := 0, stamp := 0 }]).select = some (.expiry { lane := 0, stamp := 0 })
      ∧ (site.setWalk (some { cursor := 64, urgency := .must 4 })).select = some .batch := by
  refine ⟨by simp [grantedCommands], by simp [grantedCommands], ?_, ?_, ?_, ?_⟩ <;> decide +kernel

/-- Witness of LookupFindsTheOneEntry. -/
theorem witness_Lookup : siteX.StoreOk ∧ siteX.findPass 1 = some (16, passX) ∧ siteX.findPass 1025 = none :=
  ⟨siteX_storeOk, by decide +kernel, by decide +kernel⟩

/-- The 14 bytes of issue fields (R198). -/
def fields (pass seq product validFrom window bought price : Nat) : List Byte :=
  bytesOf 4 pass ++ [byteOf seq, byteOf product] ++ bytesOf 2 validFrom ++ [byteOf window, byteOf bought] ++ bytesOf 4 price

/-- `bareSite` with all 16 slots of bucket 1 occupied. -/
def fullBucket : State := bareSite.withSlots ((List.range 16).map fun j => (16 + j, { pass1 with pass := 1 + 1024 * j }))

theorem fullBucket_full : fullBucket.BucketFull 16385 := by
  intro m h
  have hj : ∀ j < 16, (fullBucket.entryAt (16 + j)).isSome = true := by decide +kernel
  have hb : bucketOf 16385 = 1 := by decide
  rw [hb] at h
  simp only [Config.bucketSize] at h
  obtain ⟨j, hj16, rfl⟩ : ∃ j < 16, m = 16 + j := ⟨m - 16, by omega, by omega⟩
  exact hj j hj16

theorem lowestFree_17 {s : State} (h : s.slots = [(16, pass1)]) : s.LowestFree 1025 17 := by
  refine ⟨by decide, by simp [State.entryAt, h, Table.get], fun m hm hlt => ?_⟩
  have hb : bucketOf 1025 = 1 := by decide
  rw [hb] at hm
  obtain rfl : m = 16 := by simp only [Config.bucketSize] at hm; omega
  simp [State.entryAt, h, Table.get]

/-- Issue fields at the tops of their ranges. -/
def topFields : List Byte := fields 1025 15 0 65475 60 30 4000000

/-- Witness of IssuePlacesAnEntry: every field at the top of its range, with slot 16 occupied and slot 17 free; then a price of
4,000,001, an undefined product, a pass that has an entry, and a full bucket. -/
theorem witness_Issue :
    ((asked .office 16 topFields site).grants .issue (first .office 16 topFields) ∧ (issueFields topFields).Valid
        ∧ ((asked .office 16 topFields site).product (Fin.ofNat 64 (issueFields topFields).product)).defined = true
        ∧ (asked .office 16 topFields site).findPass (issueFields topFields).pass = none
        ∧ (asked .office 16 topFields site).LowestFree (issueFields topFields).pass 17)
      ∧ (∀ p ∈ [fields 1025 15 0 65475 60 30 4000001, fields 1025 15 2 65475 60 30 4000000, fields 1 15 0 65475 60 30 4000000],
          (asked .office 16 p site).grants .issue (first .office 16 p))
      ∧ ¬(issueFields (fields 1025 15 0 65475 60 30 4000001)).Valid
      ∧ (site.product (Fin.ofNat 64 (issueFields (fields 1025 15 2 65475 60 30 4000000)).product)).defined = false
      ∧ (issueFields (fields 1025 15 2 65475 60 30 4000000)).Valid ∧ (issueFields (fields 1 15 0 65475 60 30 4000000)).Valid
      ∧ site.findPass (issueFields (fields 1 15 0 65475 60 30 4000000)).pass ≠ none
      ∧ (let p := fields 16385 0 0 0 1 1 0
        (asked .office 16 p fullBucket).grants .issue (first .office 16 p) ∧ (issueFields p).Valid
          ∧ fullBucket.findPass (issueFields p).pass = none) ∧ fullBucket.BucketFull 16385 := by
  have hl : (asked .office 16 topFields site).LowestFree (issueFields topFields).pass 17 := lowestFree_17 (by decide +kernel)
  unfold State.grants IssueFields.Valid
  refine ⟨⟨?_, ?_, ?_, ?_, hl⟩, ?_, ?_, ?_, ?_, ?_, ?_, ?_, fullBucket_full⟩ <;> decide +kernel

/-- `pass1` in a state. -/
def in_ (x : PassState) : Entry := { pass1 with state := x }

/-- Witness of ReissueSuspendAndResume: sequences 14 and 15; ISSUED, SUSPENDED and REFUNDED; no entry. -/
theorem witness_Reissue :
    (∀ e ∈ [{ pass1 with seq := 14 }, { pass1 with seq := 15 }],
        (asked .office 17 [0, 0, 0, 1] (siteOf e)).grants .reissue (first .office 17 [0, 0, 0, 1])
          ∧ (siteOf e).findPass (passArg [0, 0, 0, 1]) = some (16, e))
      ∧ (∀ e ∈ [in_ (.live .issued), in_ (.suspended .active), in_ (.refunded 95 100)],
        (asked .office 18 [0, 0, 0, 1] (siteOf e)).grants .suspend (first .office 18 [0, 0, 0, 1])
          ∧ (asked .office 19 [0, 0, 0, 1] (siteOf e)).grants .resume (first .office 19 [0, 0, 0, 1])
          ∧ (siteOf e).findPass (passArg [0, 0, 0, 1]) = some (16, e))
      ∧ (∀ q, (in_ (.refunded 95 100)).state ≠ .live q ∧ (in_ (.refunded 95 100)).state ≠ .suspended q)
      ∧ (bareSite.findPass (passArg [0, 0, 0, 1]) = none
        ∧ (asked .office 17 [0, 0, 0, 1] bareSite).grants .reissue (first .office 17 [0, 0, 0, 1])
        ∧ (asked .office 18 [0, 0, 0, 1] bareSite).grants .suspend (first .office 18 [0, 0, 0, 1])
        ∧ (asked .office 19 [0, 0, 0, 1] bareSite).grants .resume (first .office 19 [0, 0, 0, 1])) := by
  unfold State.grants
  refine ⟨?_, ?_, ?_, ?_⟩
  · decide +kernel
  · decide +kernel
  · simp [in_]
  · decide +kernel

/-- The payload of a RESTORE. -/
def restoreOf (f : List Byte) (lost : Nat) (rs : List UseRecord) : List Byte :=
  f ++ [byteOf lost, byteOf rs.length] ++ rs.flatMap UseRecord.bytes

/-- The payload of an ADD_USE. -/
def addUseOf (pass : Nat) (rs : List UseRecord) : List Byte := bytesOf 4 pass ++ [byteOf rs.length] ++ rs.flatMap UseRecord.bytes

/-- Five rides, the last of them today, day 100. -/
def fiveRides : List UseRecord := [ride 90 0, ride 92 1, ride 94 2, ride 98 3, ride 100 1]

/-- A RESTORE of 5 records and 25 lost days, all 30 days bought. -/
def restoreTop : List Byte := restoreOf (fields 1025 15 0 90 60 30 4000000) 25 fiveRides

/-- A RESTORE of a CONTROL pass without any use. -/
def restoreStaff : List Byte := restoreOf (fields 1025 0 1 90 60 30 0) 0 []

/-- Witness of RestoreRebuildsAnEntry, its first clause: 5 records and 25 lost days of 30 bought, and a CONTROL pass without use. -/
theorem witness_Restore :
    ∀ p ∈ [restoreTop, restoreStaff],
      (asked .office 20 p site).grants .restore (first .office 20 p) ∧ (asked .office 20 p site).clock.state = .running
        ∧ (issueFields p).Valid ∧ restoreLost p ≤ 30 ∧ restoreCount p ≤ 5 ∧ RecordsValid (restoreRecords p)
        ∧ DaysValid (issueFields p).validFrom (issueFields p).validTo (asked .office 20 p site).clock.day (restoreRecords p)
        ∧ restoreCount p + restoreLost p ≤ (issueFields p).bought
        ∧ (site.product (Fin.ofNat 64 (issueFields p).product)).defined = true
        ∧ ((site.product (Fin.ofNat 64 (issueFields p).product)).kind = .rider ∨ restoreCount p + restoreLost p = 0)
        ∧ (asked .office 20 p site).findPass (issueFields p).pass = none
        ∧ (asked .office 20 p site).LowestFree (issueFields p).pass 17
        ∧ (restoreCount p = 0 ∨ (asked .office 20 p site).history.free.head? = some 0) := by
  have hl : ∀ p ∈ [restoreTop, restoreStaff], (asked .office 20 p site).LowestFree (issueFields p).pass 17 := by
    intro p hp
    have h : (asked .office 20 p site).slots = [(16, pass1)] ∧ (issueFields p).pass = 1025 := by
      revert p; decide +kernel
    rw [h.2]
    exact lowestFree_17 h.1
  intro p hp
  have hl := hl p hp
  revert p
  unfold State.grants IssueFields.Valid RecordsValid DaysValid
  intro p hp hl
  refine ⟨?_, ?_, ?_, ?_, ?_, ?_, ?_, ?_, ?_, ?_, ?_, hl, ?_⟩ <;> revert hp <;> clear hl <;> revert p <;> decide +kernel

/-- The refused RESTOREs of the witness, in the order of R18: 31 lost days, a day of class 4, a day outside the window, 31 days
counted, an undefined product, a CONTROL pass with a use. -/
def restoreRefused : List (List Byte) :=
  [restoreOf (fields 1025 0 0 90 60 30 0) 31 [], fields 1025 0 0 90 60 30 0 ++ [0, 1, 0, 90, 0x82, 0, 0, 1],
   restoreOf (fields 1025 0 0 90 60 30 0) 0 [ride 89 0], restoreOf (fields 1025 0 0 90 60 30 0) 26 fiveRides,
   restoreOf (fields 1025 0 2 90 60 30 0) 0 [], restoreOf (fields 1025 0 1 90 60 30 0) 1 []]

/-- Witness of RestoreRebuildsAnEntry, its refusals. -/
theorem witness_Restore_refused :
    (∀ p ∈ restoreRefused, (asked .office 20 p site).grants .restore (first .office 20 p))
      ∧ ¬restoreLost (restoreRefused.getD 0 []) ≤ 30 ∧ ¬RecordsValid (restoreRecords (restoreRefused.getD 1 []))
      ∧ ¬DaysValid 90 149 100 (restoreRecords (restoreRefused.getD 2 []))
      ∧ 30 < restoreCount (restoreRefused.getD 3 []) + restoreLost (restoreRefused.getD 3 [])
      ∧ RecordsValid (restoreRecords (restoreRefused.getD 3 [])) ∧ DaysValid 90 149 100 (restoreRecords (restoreRefused.getD 3 []))
      ∧ (site.product 2).defined = false ∧ (site.product 1).kind = .control
      ∧ (State.reset.clock.state = .unset
          ∧ (asked .office 20 restoreTop State.reset).grants .restore (first .office 20 restoreTop))
      ∧ (let p := restoreOf (fields 16385 0 0 90 60 30 0) 0 []
        (asked .office 20 p fullBucket).grants .restore (first .office 20 p) ∧ fullBucket.findPass 16385 = none)
      ∧ fullBucket.BucketFull 16385
      ∧ (let s := site.withHistory { site.history with free := [] }
        (asked .office 20 restoreTop s).grants .restore (first .office 20 restoreTop) ∧ s.history.free = []) := by
  unfold State.grants RecordsValid DaysValid
  refine ⟨?_, ?_, ?_, ?_, ?_, ?_, ?_, ?_, ?_, ?_, ?_, fullBucket_full, ?_⟩ <;> decide +kernel

/-- A pass with 25 of 30 days used, last on day 95, in a state. -/
def used25 (x : PassState) : Entry := { pass1 with used := 25, bought := 30, lost := 25, lastUse := some 95, state := x }

/-- An ADD_USE of five records, the last of them today. -/
def addFive : List Byte := addUseOf 1 [ride 96 0, ride 97 1, ride 98 2, ride 99 3, ride 100 1]

/-- Witness of AddUseAppendsRecords, its first clause: five records that use up every day, of an ACTIVE pass and of a suspended
one. -/
theorem witness_AddUse :
    ∀ e ∈ [used25 (.live .active), used25 (.suspended .active)],
      let s := asked .office 21 addFive (siteOf e)
      s.grants .addUse (first .office 21 addFive) ∧ s.clock.state = .running ∧ 1 ≤ addCount addFive ∧ addCount addFive ≤ 5
        ∧ RecordsValid (addRecords addFive) ∧ s.findPass (passArg addFive) = some (16, e)
        ∧ (s.product e.product).defined = true ∧ (s.product e.product).kind = .rider
        ∧ DaysValid e.validFrom e.validTo s.clock.day (addRecords addFive)
        ∧ (∀ d x, e.lastUse = some d → (addRecords addFive).head? = some x → d < x.day)
        ∧ e.used + addCount addFive ≤ e.bought
        ∧ (s.history.append e.chain ((addRecords addFive).map RawRecord.record)).isSome = true := by
  have hd : ∀ e ∈ [used25 (.live .active), used25 (.suspended .active)], ∀ d x, e.lastUse = some d →
      (addRecords addFive).head? = some x → d < x.day := by
    intro e he d x h1 h2
    have h3 : e.lastUse = some 95 := by clear h1 h2; revert e; decide
    have h4 : ((addRecords addFive).head?.map RawRecord.day) = some 96 := by decide +kernel
    rw [h2] at h4
    rw [h3] at h1
    simp only [Option.map_some, Option.some.injEq] at h1 h4
    omega
  intro e he
  have hd := hd e he
  unfold State.grants RecordsValid DaysValid
  refine ⟨?_, ?_, ?_, ?_, ?_, ?_, ?_, ?_, ?_, hd, ?_, ?_⟩ <;> clear hd <;> revert e <;> decide +kernel

/-- Witness of AddUseAppendsRecords, its refusals: no records, UNSET, no entry, REFUNDED, an undefined and a CONTROL product, a first
record on the last-use day, 31 days counted, and a free queue that is empty. -/
theorem witness_AddUse_refused :
    (∀ p ∈ [bytesOf 4 1 ++ [0] ++ (ride 90 0).bytes, addUseOf 1 [ride 95 0], addUseOf 2 [ride 95 0], addFive],
        (asked .office 21 p (siteOf (used25 (.live .active)))).grants .addUse (first .office 21 p))
      ∧ addCount (bytesOf 4 1 ++ [0] ++ (ride 90 0).bytes) = 0
      ∧ (asked .office 21 addFive State.reset).grants .addUse (first .office 21 addFive) ∧ State.reset.clock.state = .unset
      ∧ (siteOf (used25 (.live .active))).findPass 2 = none
      ∧ (∀ e ∈ [used25 (.refunded 95 0), { used25 (.live .active) with product := 2 }, { used25 (.live .active) with product := 1 },
            { used25 (.live .active) with used := 26 }],
          (asked .office 21 addFive (siteOf e)).grants .addUse (first .office 21 addFive) ∧ (siteOf e).findPass 1 = some (16, e))
      ∧ (∀ q, (used25 (.refunded 95 0)).state ≠ .live q ∧ (used25 (.refunded 95 0)).state ≠ .suspended q)
      ∧ ((addRecords (addUseOf 1 [ride 95 0])).head?.map RawRecord.day) = (used25 (.live .active)).lastUse
      ∧ 30 < 26 + addCount addFive
      ∧ (let s := (siteOf (used25 (.live .active))).withHistory { site.history with free := [] }
        (asked .office 21 addFive s).grants .addUse (first .office 21 addFive)
          ∧ s.history.append none ((addRecords addFive).map RawRecord.record) = none) := by
  unfold State.grants
  refine ⟨?_, ?_, ?_, ?_, ?_, ?_, by simp [used25], ?_, ?_, ?_⟩ <;> decide +kernel

/-- Witness of InquireReportsTheEntry: pass X with three records from start index 0, and a pass without entry. -/
theorem witness_Inquire :
    (asked .office 22 [0, 0, 0, 1, 0] siteX).grants .inquire (first .office 22 [0, 0, 0, 1, 0])
      ∧ (asked .office 22 [0, 0, 0, 1, 0] siteX).findPass (passArg [0, 0, 0, 1, 0]) = some (16, passX) ∧ passX.Ok siteX.clock.day
      ∧ siteX.clock.day ≤ Config.lastDay ∧ (siteX.history.records passX.chain).length ≤ 30
      ∧ (∀ c, passX.chain = some c → c.head < 16384 ∧ c.tail < 16384 ∧ c.fill ≤ 6)
      ∧ (asked .office 22 [0, 0, 0, 2, 0] siteX).grants .inquire (first .office 22 [0, 0, 0, 2, 0])
      ∧ siteX.findPass (passArg [0, 0, 0, 2, 0]) = none := by
  unfold State.grants
  refine ⟨by decide +kernel, by decide +kernel, by simp [Entry.Ok, passX, pass1, siteX, State.withClock, Config.lastDay],
    by decide +kernel, by decide +kernel, ?_, by decide +kernel, by decide +kernel⟩
  intro c hc
  cases hc
  decide

/-- Witness of RecordAndCardBytesRoundTrip, its images: one of 14 bytes, one bad at each step of R11 in turn, and a good one. -/
theorem witness_Images :
    let sum (b : List Byte) : Nat := ((List.range 13).map fun i => byteAt i b).sum + fieldAt 13 2 b
    let marker := [0xC5] ++ card1.bytes.drop 1
    let format := [0xC6, 2] ++ card1.bytes.drop 2
    let length := [0xC6, 1, 9] ++ card1.bytes.drop 3
    let check := [0xC6, 1, 10, 1] ++ card1.bytes.drop 4
    (card1.bytes.take 14).length ≠ 15 ∧ (∀ b ∈ [marker, format, length, check, card1.bytes], b.length = 15)
      ∧ byteAt 0 marker ≠ 198 ∧ (byteAt 0 format = 198 ∧ byteAt 1 format ≠ 1)
      ∧ (byteAt 0 length = 198 ∧ byteAt 1 length = 1 ∧ byteAt 2 length ≠ 10)
      ∧ (∀ b ∈ [check, card1.bytes], byteAt 0 b = 198 ∧ byteAt 1 b = 1 ∧ byteAt 2 b = 10)
      ∧ sum check ≠ 65535 ∧ sum card1.bytes = 65535 := by decide +kernel

/-- Witness of RecordAndCardBytesRoundTrip: every field at the top of its range. -/
theorem witness_RecordAndCard :
    let x : UseRecord := { day := 65535, cls := 3, first := 131071, admits := 255, lifts := 15 }
    let c : Card := { pass := 4294967295, seq := 255, product := 255, validFrom := 65535, resort := 65535 }
    x.day < 65536 ∧ x.first < 131072 ∧ x.admits < 256
      ∧ c.pass < 4294967296 ∧ c.seq < 256 ∧ c.product < 256 ∧ c.validFrom < 65536 ∧ c.resort < 65536 := by decide

/-! ### Use history and holds -/

/-- Witness of AppendedRecordsReadBack: six records behind three, so that a granule is allocated; and one record. -/
theorem witness_AppendedRecords :
    siteX.StoreOk ∧ siteX.HistoryOk ∧ siteX.entryAt 16 = some passX
      ∧ ∀ k ∈ [1, 6], 1 ≤ (List.replicate k (ride 44 0)).length ∧ (List.replicate k (ride 44 0)).length ≤ 6
        ∧ (siteX.history.append passX.chain (List.replicate k (ride 44 0))).isSome = true :=
  ⟨siteX_storeOk, siteX_historyOk, by decide +kernel, by decide +kernel⟩

/-- Witness of AppendedRecordsReadBack, where the records go: granule 1 at the head of the free queue; three records fill the tail granule
of pass X, four do not fit; and an empty free queue. -/
theorem witness_AppendPlaces :
    siteX.history.free.head? = some 1 ∧ passX.chain = some { head := 0, tail := 0, fill := 3 }
      ∧ siteX.history.granule 0 = some { link := .last 3, records := [ride 40 2, ride 41 1, ride 43 1] }
      ∧ 3 + (List.replicate 3 (ride 44 0)).length ≤ 6 ∧ 6 < 3 + (List.replicate 4 (ride 44 0)).length
      ∧ ({ siteX.history with free := [] } : History).free = [] := by decide +kernel

/-- Witness of DebitAndUpdateTables: an append, an append without a free granule, no chain, and a tail record of today and of an
earlier day with an admit count of 255. -/
theorem witness_DebitAndUpdate :
    (siteX.history.append passX.chain [ride 44 0]).isSome = true
      ∧ ({ siteX.history with free := [] } : History).append none [ride 44 0] = none ∧ pass1.chain = none
      ∧ (∀ x ∈ [ride 43 1, { ride 43 1 with admits := 255 }, ride 42 1],
        (oneChain [ride 41 1, x]).granule 0 = some { link := .last 2, records := [ride 41 1] ++ [x] })
      ∧ (ride 43 1).day = 43 ∧ (ride 42 1).day ≠ 43 := by decide +kernel

/-- Witness of RollbackUndoesTheGrant. -/
theorem witness_Rollback :
    siteX.StoreOk ∧ siteX.HistoryOk ∧ siteX.entryAt 16 = some passX ∧ passX.state = .live .active ∧ passX.marker = none :=
  ⟨siteX_storeOk, siteX_historyOk, by decide +kernel, rfl, rfl⟩

/-- `pass1` after a grant at lane 0 that debited day 100 and wrote its first record. -/
def heldPass : Entry :=
  { pass1 with
    used := 1, state := .live .active, lastUse := some 100, lastAdmit := some { lift := 0, lane := 0, day := 100, sec := 1000 }
    chain := some { head := 0, tail := 0, fill := 1 }, marker := some 0 }

/-- The hold of that grant, whose deadline is second 1008. -/
def heldHold : Hold :=
  { slot := 16, pass := 1, kind := .rider, deadline := { day := 100, sec := 1008 }, lift := 0, order := 1
    facts := { debitMade := true, recordWritten := true, granuleAllocated := true, debitLost := false, countRaised := false,
               liftNewlySet := true }
    prevState := .issued, prevLastUse := none, prevLastAdmit := none, pendingExpiry := false }

/-- `site` with that hold open at lane 0. -/
def heldSite : State :=
  ((((siteOf heldPass).withHistory (oneChain [ride 100 1])).setLane 0 { openLane with hold := some heldHold }).withArbiter
    { site.arbiter with nextGrant := 1 }).countLane 0 .granted

/-! ### The tick, the clock and the calendar -/

/-- `s` at a day and second of a running clock. -/
def at_ (s : State) (day sec : Nat) : State :=
  s.withClock { state := .running, day := day, sec := sec, stalled := false, ticks := 4294967295 }

/-- Witness of TickAdvancesTheClock: UNSET; second 86,398; a tick that rolls, on day 65,533; a tick that stalls. -/
theorem witness_TickAdvances :
    State.reset.clock.state ≠ .running
      ∧ (∀ x ∈ [(100, 86398), (65533, 86399), (65534, 86399)],
        (at_ site x.1 x.2).clock.state = .running ∧ (at_ site x.1 x.2).clock.stalled = false
          ∧ (at_ site x.1 x.2).clock.day = x.1 ∧ (at_ site x.1 x.2).clock.sec = x.2)
      ∧ (86398 < 86399 ∧ 65533 < 65534) := by decide +kernel

/-- Witness of DeadlinesAndDueHolds: the tick to second 1008 makes the hold of lane 0 due; instants at the edges of their ranges. -/
theorem witness_DueHolds :
    (let s := at_ heldSite 100 1007
      ∃ l, (s.lane l).hold.any (fun h => !h.pendingExpiry
        && h.deadline.le { day := s.clock.ticked.day, sec := s.clock.ticked.sec }) = true)
      ∧ (86398 + 1 ≤ 86399 ∧ 86399 < 86398 + 2 ∧ 65533 < 65534 ∧ 86399 < 86399 + 86399) := by decide +kernel

/-- Witness of TickRunsTheReportTimer: MANUAL, AUTO with 2 and with 1 tick remaining, a tick that rolls and one that does not, and an
unread snapshot. -/
theorem witness_TickTimer :
    (at_ site 100 86399).clock.rolls = true ∧ (at_ site 100 86398).clock.rolls = false ∧ site.counts.mode = .manual
      ∧ (∀ n ∈ [1, 2], (site.withCounts { site.counts with mode := .auto n, snapUnread := true }).counts.mode = .auto n) := by
  decide +kernel

/-- Witness of TickStartsAndHurriesTheSweep: at a deadline of 21,600 a walk at MAY is late at the tick to second 21,600 and not one
second before; with a deadline of 0 the walk that a rollover starts is late at once; a walk at a rollover. -/
theorem witness_TickSweep :
    (let s := (at_ site 100 21599).setWalk (some { cursor := 64, urgency := .may });
      s.clock.rolls = false ∧ s.sweep.deadline ≤ s.clock.ticked.sec ∧ s.sweep.walk.map Walk.urgency = some .may)
      ∧ (let s := (at_ site 100 21598).setWalk (some { cursor := 64, urgency := .may })
        ¬s.sweep.deadline ≤ s.clock.ticked.sec)
      ∧ (let s := (at_ site 100 86399).withSweep { site.sweep with deadline := 0 }
        s.clock.rolls = true ∧ s.sweep.walk = none ∧ s.sweep.deadline ≤ s.clock.ticked.sec)
      ∧ (let s := (at_ site 100 86399).setWalk (some { cursor := 64, urgency := .must 4 })
        s.clock.rolls = true ∧ s.sweep.walk.isSome = true) := by decide +kernel

/-- Day and second as a SET_CLOCK carries them. -/
def target (day sec : Nat) : List Byte := bytesOf 2 day ++ bytesOf 3 sec

/-- Witness of SetClockSetsOrTrims: day 65,535 and second 86,400; a target in UNSET; 121 seconds off and another day; 120 seconds off
in either direction, with and without a walk at MAY whose deadline is reached. -/
theorem witness_SetClock :
    (∀ p ∈ [target 65535 0, target 100 86400, target 65534 86399, target 100 1121, target 100 879, target 101 1000, target 100 1120,
        target 100 880], (asked .office 34 p site).serves .office .setClock 0 (frameOf 34 p))
      ∧ fieldAt 0 2 (target 65535 0) = 65535 ∧ fieldAt 2 3 (target 100 86400) = 86400 ∧ fieldAt 0 2 (target 65534 86399) = 65534
      ∧ fieldAt 2 3 (target 65534 86399) = 86399
      ∧ (asked .office 34 (target 65534 86399) State.reset).serves .office .setClock 0 (frameOf 34 (target 65534 86399))
      ∧ State.reset.clock.state = .unset ∧ site.clock.state = .running ∧ site.clock.day = 100 ∧ site.clock.sec = 1000
      ∧ fieldAt 2 3 (target 100 1121) = 1121 ∧ fieldAt 2 3 (target 100 879) = 879 ∧ fieldAt 0 2 (target 101 1000) = 101
      ∧ fieldAt 2 3 (target 100 1120) = 1120 ∧ fieldAt 2 3 (target 100 880) = 880
      ∧ (let s := (site.withSweep { site.sweep with deadline := 1120 }).setWalk (some { cursor := 0, urgency := .may })
        s.sweep.deadline ≤ 1120 ∧ s.sweep.walk.map Walk.urgency = some .may) := by
  unfold State.serves; decide +kernel

/-- Witness of ReadsChangeNothing: every read, with the day set's part 8. -/
theorem witness_Reads :
    (asked .office 35 [] site).serves .office .readClock 0 (frameOf 35 [])
      ∧ (asked .office 40 [] site).serves .office .readLanes 0 (frameOf 40 [])
      ∧ (asked .office 46 [] site).serves .office .readStore 0 (frameOf 46 [])
      ∧ (asked (.gate 0) 4 [1, 2] site).grantable (isReport 2) = some (first (.gate 0) 4 [1, 2])
      ∧ (asked .office 43 [1, 8] site).serves .office .readCounts 0 (frameOf 43 [1, 8])
      ∧ byteAt 0 [1, 8] = 1 ∧ byteAt 1 [1, 8] ≤ 8 := by
  unfold State.serves; decide +kernel

/-- A LOAD_CALENDAR in the RUNS form with `n` runs, each (510, 512, 7). -/
def runsOf (n : Nat) : List Byte :=
  [1, byteOf n] ++ (List.replicate n (bytesOf 2 510 ++ bytesOf 2 512 ++ [7])).flatten

/-- Witness of CalendarAndItsRequests: the BASE form; 1 and 8 runs, which reach entry 511 and not entry 509; run counts 0 and 9; form
code 2; and days at the edges of the calendar. -/
theorem witness_Calendar :
    (asked .office 36 [0, 255, 255] site).servable .office (isCalendarForm 1) = some (0, frameOf 36 [0, 255, 255])
      ∧ (∀ p ∈ [runsOf 1, runsOf 8, [1, 0, 0], [1, 9, 0]],
        (asked .office 36 p site).servable .office (isCalendarForm 0) = some (0, frameOf 36 p) ∧ byteAt 0 p = 1)
      ∧ byteAt 1 (runsOf 1) = 1 ∧ byteAt 1 (runsOf 8) = 8 ∧ byteAt 1 [1, 0, 0] = 0 ∧ byteAt 1 [1, 9, 0] = 9
      ∧ fieldAt 2 2 (runsOf 1) = 510 ∧ fieldAt 4 2 (runsOf 1) = 512
      ∧ (asked .office 36 [2, 0, 0] site).servable .office (isCalendarForm 1) = some (0, frameOf 36 [2, 0, 0])
      ∧ (asked .office 36 [2, 0, 0] site).servable .office (isCalendarForm 0) = some (0, frameOf 36 [2, 0, 0])
      ∧ 1 < byteAt 0 [2, 0, 0]
      ∧ (let c : Calendar := { site.calendar with base := 400 }
        911 = c.base + (511 : Fin 512).val ∧ 399 < c.base ∧ c.base + 512 ≤ 912) := by decide +kernel

/-! ### Validation -/

/-- The PRESENT of a card at lane 0, waiting at gate port G0. -/
def presented (s : State) (c : Card) : State := asked (.gate 0) 1 ([0] ++ c.bytes) s

/-- That request. -/
def presentReq (c : Card) : StoreReq := first (.gate 0) 1 ([0] ++ c.bytes)

/-- A staff pass: `pass1` of the CONTROL product. -/
def staffPass : Entry := { pass1 with product := 1 }

/-- Its card. -/
def staffCard : Card := { card1 with product := 1 }

/-- `s` with a dwell of pass 1 at lane 0 that started 3 s ago and was last tracked 1 s ago, the toggle enabled. -/
def dwelling (s : State) : State :=
  s.modLane 0 fun r =>
    { r with
      profile := { r.profile with toggle := true }
      dwell := some { pass := 1, start := { day := 100, sec := 997 }, last := { day := 100, sec := 999 }, spent := false } }

/-- The hold of a staff pass, whose grant did no history work. -/
def staffHold : Hold := { heldHold with kind := .control, facts := .none }

/-- The staff pass with an open hold at lane 0, in a dwell. -/
def staffHeld : State :=
  dwelling ((siteOf { staffPass with marker := some 0 }).setLane 0 { openLane with hold := some staffHold })

/-- The staff pass at an OPEN lane 0, in a dwell. -/
def staffOpen : State := dwelling ((siteOf staffPass).modLane 0 fun r => { r with state := .work .opened })

/-- States and cards whose PRESENT at lane 0 gives each kind of verdict: before an entry is found, refused with an entry, at a hold,
and admitted. -/
def presents : List (State × Card × Code) :=
  [(State.reset, card1, .clockUnset), (site, { card1 with resort := 8 }, .foreign), (site, { card1 with pass := 2 }, .unknown),
   (site, { card1 with seq := 1 }, .superseded), (site, { card1 with validFrom := 91 }, .mismatch), (heldSite, card1, .held),
   (siteOf { pass1 with validTo := 99 }, card1, .expired), (siteOf { pass1 with validTo := 100 }, card1, .admitted),
   (site.setLift 0 { site.lift 0 with level := 59 }, card1, .pace), (site.setLift 0 { site.lift 0 with level := 60 }, card1, .admitted),
   (siteOf { pass1 with lastAdmit := some { lift := 0, lane := 1, day := 100, sec := 700 } }, card1, .passback),
   (siteOf { pass1 with lastAdmit := some { lift := 0, lane := 1, day := 100, sec := 699 } }, card1, .admitted)]

/-- Witness of PresentAnswersTheFirstVerdict: the PRESENTs above are granted with their verdicts, at the edges of the window of days,
of the pace level and of the passback too. -/
theorem witness_Present :
    ∀ x ∈ presents, (presented x.1 x.2.1).grants .present (presentReq x.2.1)
      ∧ laneArg (presentReq x.2.1).frame.payload = 0 ∧ imageArg (presentReq x.2.1).frame.payload = .card x.2.1
      ∧ (presented x.1 x.2.1).verdict 0 (.card x.2.1) = x.2.2 := by
  unfold State.grants; decide +kernel

/-- Witness of RefusedPresentTouchesOnlyItsLane: an image with a wrong sum, and a held RIDER and a held staff pass without a toggle. -/
theorem witness_RefusedPresent :
    (let p : List Byte := [0, 0xC6, 1, 10, 1] ++ card1.bytes.drop 4;
      imageArg p = .bad .check ∧ (asked (.gate 0) 1 p site).grants .present (first (.gate 0) 1 p)
        ∧ (asked (.gate 0) 1 p site).verdict 0 (.bad .check) = .unreadable
        ∧ (asked (.gate 0) 1 p site).presented (.bad .check) = none)
      ∧ ((presented heldSite card1).grants .present (presentReq card1)
        ∧ (presented heldSite card1).verdict 0 (.card card1) = .held
        ∧ (presented heldSite card1).presented (.card card1) = some (16, heldPass)
        ∧ (presented heldSite card1).tracked .held heldPass = false)
      ∧ (let s := presented (staffHeld.setLane 0 { openLane with hold := some staffHold }) staffCard
        s.grants .present (presentReq staffCard) ∧ s.verdict 0 (.card staffCard) = .held
          ∧ s.presented (.card staffCard) = some (16, { staffPass with marker := some 0 })
          ∧ s.tracked .held staffPass = true ∧ s.toggling 0 1 = false) := by
  unfold State.grants; decide +kernel

/-- Witness of AdmissionOpensAHold: a first admission of the day that uses up the last day bought, a second admission of the same day,
and a staff pass outside a dwell. -/
theorem witness_Admission :
    (∀ e ∈ [{ pass1 with bought := 1 }, { passX with validFrom := 90, validTo := 120, lastUse := some 100 }],
        (presented (siteOf e) card1).grants .present (presentReq card1)
          ∧ (presented (siteOf e) card1).verdict 0 (.card card1) = .admitted
          ∧ (presented (siteOf e) card1).presented (.card card1) = some (16, e)
          ∧ ((siteOf e).product e.product).kind = .rider)
      ∧ ((presented (siteOf staffPass) staffCard).grants .present (presentReq staffCard)
        ∧ (presented (siteOf staffPass) staffCard).verdict 0 (.card staffCard) = .admitted
        ∧ (presented (siteOf staffPass) staffCard).presented (.card staffCard) = some (16, staffPass)
        ∧ ((siteOf staffPass).product staffPass.product).kind = .control
        ∧ (presented (siteOf staffPass) staffCard).toggling 0 1 = false) := by
  unfold State.grants; decide +kernel

/-- Witness of DwellsAndToggles: a staff pass toggles its lane at ADMIT, at HELD and at CONTROL, 3 s after the start of its dwell and
1 s after its last presentation; the boundary of 2 s starts a new dwell. -/
theorem witness_Dwells :
    (∀ x ∈ [(dwelling (siteOf staffPass), staffPass, Code.admitted), (staffHeld, { staffPass with marker := some 0 }, .held),
          (staffOpen, staffPass, .control)],
        (presented x.1 staffCard).grants .present (presentReq staffCard)
          ∧ (presented x.1 staffCard).verdict 0 (.card staffCard) = x.2.2
          ∧ (presented x.1 staffCard).presented (.card staffCard) = some (16, x.2.1)
          ∧ (presented x.1 staffCard).tracked x.2.2 x.2.1 = true ∧ (presented x.1 staffCard).toggling 0 x.2.1.pass = true)
      ∧ ((presented staffHeld staffCard).lane 0).hold = some staffHold ∧ staffHold.facts = .none
      ∧ (presented staffHeld staffCard).entryAt staffHold.slot = some { staffPass with marker := some 0 }
      ∧ secondsFrom { day := 100, sec := 999 } { day := 100, sec := 1000 } = 1
      ∧ secondsFrom { day := 100, sec := 86399 } { day := 101, sec := 1 } = 2
      ∧ secondsFrom { day := 100, sec := 1000 } { day := 100, sec := 990 } = -10 := by
  unfold State.grants; decide +kernel

/-! ### Holds -/

theorem entryAt_held {s : State} (h : s.slots = [(16, heldPass)]) : s.entryAt 16 = some heldPass := by
  simp [State.entryAt, h, Table.get]

theorem heldHold_only {s : State} (hl : ∀ l, (s.lane l).hold = if l = 0 then some heldHold else none) {l : Lane} {h : Hold}
    (hh : (s.lane l).hold = some h) : heldHold = h := by
  rw [hl l] at hh
  by_cases h0 : l = 0
  · simpa [h0] using hh
  · simp [h0] at hh

theorem heldHold_fit : heldHold.facts.Fit heldPass :=
  ⟨by decide, by decide, fun _ => ⟨_, rfl, by decide⟩, by decide⟩

theorem holdsOk_held {s : State} (hs : s.slots = [(16, heldPass)])
    (hl : ∀ l, (s.lane l).hold = if l = 0 then some heldHold else none) (hw : (s.lane 0).state = .work .normal)
    (hg : s.arbiter.nextGrant = 1) : s.HoldsOk := by
  have key : ∀ l h, (s.lane l).hold = some h → l = 0 ∧ h = heldHold := by
    intro l h hh
    rw [hl l] at hh
    by_cases h0 : l = 0
    · simp only [h0, if_true, Option.some.injEq] at hh
      exact ⟨h0, hh.symm⟩
    · simp [h0] at hh
  refine ⟨?_, ?_, ?_, ?_⟩
  · intro l h hh
    obtain ⟨rfl, rfl⟩ := key l h hh
    exact ⟨hw, heldPass, entryAt_held hs, rfl, rfl, .active, rfl⟩
  · intro n e l he hm
    obtain ⟨rfl, rfl⟩ := (entryAt_one hs n e).1 he
    obtain rfl : (0 : Lane) = l := by simpa [heldPass] using hm
    exact ⟨heldHold, by simp [hl], rfl⟩
  · intro l h hh
    obtain ⟨rfl, rfl⟩ := key l h hh
    rw [hg]
    decide
  · intro l m h h' hh hh' _
    exact ((key l h hh).1).trans ((key m h' hh').1).symm

/-- `s` with a late record at lane 0 that expired `ago` seconds ago. -/
def lateBy (s : State) (ago : Nat) : State :=
  s.setLane 0 { openLane with late := some { pass := 1, expired := { day := 100, sec := 1000 - ago } } }

/-- Witness of PassedCommitsOrIsLateOrUnpaired: an open hold; a late record at the end of the late window of 10 s and 1 s after it; an
OPEN lane. -/
theorem witness_Passed :
    ((asked (.gate 0) 2 [0] heldSite).grants .passed (first (.gate 0) 2 [0])
        ∧ ((asked (.gate 0) 2 [0] heldSite).lane 0).hold = some heldHold)
      ∧ (∀ ago ∈ [10, 11], (asked (.gate 0) 2 [0] (lateBy site ago)).grants .passed (first (.gate 0) 2 [0])
        ∧ ((lateBy site ago).lane 0).hold = none
        ∧ ((lateBy site ago).lane 0).late = some { pass := 1, expired := { day := 100, sec := 1000 - ago } })
      ∧ ((lateBy site 10).lane 0).profile.lateWindow = 10
      ∧ (asked (.gate 0) 2 [0] staffOpen).grants .passed (first (.gate 0) 2 [0]) ∧ (staffOpen.lane 0).hold = none
      ∧ (staffOpen.lane 0).state = .work .opened := by
  unfold State.grants; decide +kernel

/-- `heldSite` with the expiry of its hold pending and waiting. -/
def heldDue : State :=
  withExpiries (heldSite.setLane 0 { openLane with hold := some { heldHold with pendingExpiry := true } }) 1 [{ lane := 0, stamp := 0 }]

/-- Witness of ReleaseAndExpiryRollTheHoldBack: a RELEASE with and without a hold; an expiry that is pending, and one whose hold has
ended. -/
theorem witness_ReleaseAndExpiry :
    ((asked (.gate 0) 3 [0] heldSite).grants .release (first (.gate 0) 3 [0])
        ∧ ((asked (.gate 0) 3 [0] heldSite).lane 0).hold = some heldHold
        ∧ (asked (.gate 0) 3 [0] heldSite).entryAt heldHold.slot = some heldPass)
      ∧ ((asked (.gate 0) 3 [0] site).grants .release (first (.gate 0) 3 [0]) ∧ (site.lane 0).hold = none)
      ∧ (heldDue.select = some (.expiry { lane := 0, stamp := 0 })
        ∧ (heldDue.lane 0).hold = some { heldHold with pendingExpiry := true } ∧ heldDue.entryAt heldHold.slot = some heldPass)
      ∧ (withExpiries site 1 [{ lane := 0, stamp := 0 }]).select = some (.expiry { lane := 0, stamp := 0 }) := by
  unfold State.grants; decide +kernel

/-! ### Lanes, lifts and pacing -/

/-- A SET_LANE that closes every lane, its profile above every range. -/
def closeAll : List Byte := [2, 0, 0, 21, 31, 16, 1]

/-- Witness of SetLaneActsOnEveryTarget: with a hold open at lane 0 every lane is closed; lane 0 is kept as it is; the lanes of lift 3
are named. -/
theorem witness_SetLane :
    ∀ p ∈ [closeAll, [0, 0, 3, 2, 0, 0, 0], [1, 3, 2, 8, 10, 7, 0]],
      (asked .office 37 p heldSite).grants .setLane (first .office 37 p) ∧ (asked .office 37 p heldSite).StoreOk
        ∧ (asked .office 37 p heldSite).HoldsOk ∧ (asked .office 37 p heldSite).HistoryOk ∧ ∀ f, ((asked .office 37 p heldSite).lift f).ok := by
  intro p hp
  have h : (asked .office 37 p heldSite).slots = [(16, heldPass)] ∧ (asked .office 37 p heldSite).freeSlots = 16383
      ∧ (∀ l, ((asked .office 37 p heldSite).lane l).hold = if l = 0 then some heldHold else none)
      ∧ ((asked .office 37 p heldSite).lane 0).state = .work .normal ∧ (asked .office 37 p heldSite).arbiter.nextGrant = 1
      ∧ (asked .office 37 p heldSite).grantable (isKind .setLane) = some (first .office 37 p)
      ∧ ∀ f, ((asked .office 37 p heldSite).lift f).ok := by
    revert p; decide +kernel
  obtain ⟨hs, hf, hl, hw, hg, hr, hlift⟩ := h
  have hh : (asked .office 37 p heldSite).history = heldSite.history := by
    simp only [List.mem_cons, List.not_mem_nil, or_false] at hp
    rcases hp with rfl | rfl | rfl <;> rfl
  refine ⟨hr, storeOk_one hs (by decide) (by decide) hf, holdsOk_held hs hl hw hg, ?_, hlift⟩
  exact historyOk_one (rs := [ride 100 1]) hs hh rfl (by decide) (by decide) rfl fun l h hh => heldHold_only hl hh ▸ heldHold_fit

/-- `site` with lane 0 in a state. -/
def laneIn (x : LaneState) : State := site.setLane 0 { openLane with state := x }

/-- Witness of LaneReportJamAndClear: both reports in every lane state, and a jam with a hold open. -/
theorem witness_LaneReport :
    (∀ x ∈ [LaneState.work .closed, .work .normal, .work .opened, .fault .closed, .fault .normal, .fault .opened],
        (asked (.gate 0) 4 [0, 0] (laneIn x)).grantable (isReport 0) = some (first (.gate 0) 4 [0, 0])
          ∧ (asked (.gate 0) 4 [0, 1] (laneIn x)).grantable (isReport 1) = some (first (.gate 0) 4 [0, 1])
          ∧ ((laneIn x).lane 0).state = x)
      ∧ (asked (.gate 0) 4 [0, 0] heldSite).grantable (isReport 0) = some (first (.gate 0) 4 [0, 0])
      ∧ (heldSite.lane 0).state = .work .normal ∧ (heldSite.lane 0).hold = some heldHold
      ∧ heldSite.entryAt heldHold.slot = some heldPass := by decide +kernel

/-- Witness of ReaderMonitor: the seventh unreadable image in a row makes the condition true, the sixth does not; a parsed image, and a
threshold below the run count. -/
theorem witness_ReaderMonitor :
    (∀ n ∈ [5, 6], let s := site.setLane 0 { openLane with unreadRun := n }
      ((s.raiseRun 0).lane 0).suspect = (n == 6) ∧ ((s.clearRun 0).lane 0).suspect = false
        ∧ ((s.writeProfile 0 { Profile.powerOn with threshold := 5 }).lane 0).suspect = true) := by decide +kernel

/-- Witness of SetSchemeAndSetLift: scheme codes 3 and 4 with every lane CLOSED and with lanes NORMAL; lift numbers 3 and 4. -/
theorem witness_SetScheme :
    (∀ p ∈ ([[3], [4]] : List (List Byte)), (asked .office 38 p State.reset).serves .office .setScheme 0 (frameOf 38 p)
        ∧ (asked .office 38 p site).serves .office .setScheme 0 (frameOf 38 p))
      ∧ (∀ l, (State.reset.lane l).state = .work .closed) ∧ (site.lane 0).state ≠ .work .closed
      ∧ byteAt 0 [3] = Scheme.s3.code ∧ 3 < byteAt 0 [4]
      ∧ (∀ p ∈ ([[3, 0, 33], [4, 30, 8]] : List (List Byte)), (asked .office 39 p site).serves .office .setLift 0 (frameOf 39 p))
      ∧ byteAt 0 [3, 0, 33] = (3 : Lift).val := by
  unfold State.serves; decide +kernel

/-! ### Products, tariff, counts and store policy -/

/-- A LOAD_PRODUCT with every value above its range. -/
def productTop (code kind : Nat) : List Byte := [byteOf code, 1, byteOf kind] ++ List.replicate 15 255

/-- Witness of LoadProductResortAndTariff: product codes 63 and 64, kind codes 1 and 2, a product that is not defined; a resort code;
tariff rows 7 and 8. -/
theorem witness_LoadProduct :
    (∀ p ∈ [productTop 63 1, productTop 64 0, productTop 0 2, [63, 0, 1] ++ List.replicate 15 255],
        (asked .office 32 p site).serves .office .loadProduct 0 (frameOf 32 p))
      ∧ byteAt 0 (productTop 63 1) = (63 : Fin 64).val ∧ byteAt 2 (productTop 63 1) ≤ 1 ∧ 63 < byteAt 0 (productTop 64 0)
      ∧ 1 < byteAt 2 (productTop 0 2)
      ∧ (asked .office 33 [255, 255] site).serves .office .setResort 0 (frameOf 33 [255, 255])
      ∧ (∀ row ∈ ([7, 8] : List Byte),
        (asked .office 44 (row :: List.replicate 12 255) site).serves .office .loadTariff 0 (frameOf 44 (row :: List.replicate 12 255)))
      ∧ byteAt 0 (7 :: List.replicate 12 255) = (7 : Fin 8).val ∧ 7 < byteAt 0 (8 :: List.replicate 12 255) := by
  unfold State.serves; decide +kernel

/-- `site` with every running counter of lane 0 at `n`. -/
def countsAt (n : Nat) : State :=
  site.withCounts { site.counts with running := { CountSet.zero with lanes := CountSet.zero.lanes.set 0 (Vector.replicate 11 n) } }

/-- Witness of CountingAndSaturation: an addition at 65,534 and one at 65,535, and one to a lift counter. -/
theorem witness_Counting :
    (∀ n ∈ [65534, 65535], ∃ l k, (countsAt n).countLane 0 .refused = (countsAt n).countLane l k
        ∧ n = (countsAt n).counts.running.lane l k)
      ∧ (∃ f k, site.countLift 3 .distinct = site.countLift f k ∧ 0 = site.counts.running.lift f k)
      ∧ (countsAt 65535).counts.saturated = false := by
  refine ⟨fun n hn => ⟨0, .refused, rfl, ?_⟩, ⟨3, .distinct, rfl, ?_⟩, ?_⟩
  · revert n; decide +kernel
  · decide +kernel
  · decide +kernel

/-- Witness of CountRequests: a TAKE_SNAPSHOT in MANUAL and in AUTO; mode codes 0, 1 and 2; parts 7, 8 and 9 and set code 2. -/
theorem witness_CountRequests :
    (asked .office 42 [] site).serves .office .takeSnapshot 0 (frameOf 42 []) ∧ site.counts.mode = .manual
      ∧ (let s := site.withCounts { site.counts with mode := .auto 1 }
        (asked .office 42 [] s).serves .office .takeSnapshot 0 (frameOf 42 []) ∧ s.counts.mode = .auto 1)
      ∧ (∀ p ∈ ([[0, 61], [1, 0], [2, 15]] : List (List Byte)), (asked .office 41 p site).serves .office .setReport 0 (frameOf 41 p))
      ∧ (∀ p ∈ ([[0, 7], [0, 8], [0, 9], [2, 0]] : List (List Byte)),
        (asked .office 43 p site).serves .office .readCounts 0 (frameOf 43 p))
      ∧ byteAt 1 [0, 7] = (7 : Lane).val ∧ byteAt 0 [2, 0] = 2 := by
  unfold State.serves; decide +kernel

/-- A SET_STORE_POLICY with these values. -/
def policy (retention deadline floor limit : Nat) : List Byte :=
  [byteOf retention] ++ bytesOf 3 deadline ++ bytesOf 2 floor ++ [byteOf limit]

/-- Witness of SetStorePolicyWritesAndTests: values above every range, and values at 0. -/
theorem witness_SetStorePolicy :
    ∀ p ∈ [policy 61 86400 16385 16, policy 0 0 0 0],
      (asked .office 45 p site).serves .office .setStorePolicy 0 (frameOf 45 p) := by
  unfold State.serves; decide +kernel

/-! ### Refunds -/

/-- Witness of UsedValueAndRefundableDays: row 4 of worked case 1, whose last-use day is today and, on day 46, is not; on day 47 no day
of the window is left. -/
theorem witness_UsedValue :
    (∀ c : DayClass, siteX.rate 4 c ≤ 200000) ∧ (siteX.history.records passX.chain).length + passX.lost ≤ 30
      ∧ passX.lastUse = some 43 ∧ passX.lastUse ≠ some 46 ∧ passX.firstRefundable 46 ≤ passX.validTo
      ∧ passX.validTo < passX.firstRefundable 47 ∧ passX.validTo ≤ passX.validFrom + 59 ∧ passX.bought ≤ 30 := by decide +kernel

/-- Witness of RefundCapAndAmount: the tops of days bought and of the price. -/
theorem witness_RefundCap :
    (let e := { pass1 with bought := 30, price := 4000000 };
      1 ≤ e.bought ∧ e.bought ≤ 30 ∧ e.price ≤ 4000000) ∧ 1 ≤ rider.unit ∧ passX.refundableDays 47 = 0 := by decide +kernel

/-- A REFUND with options. -/
def refundOf (options : Byte) : List Byte := [0, 0, 0, 1, options]

/-- Witness of RefundValuesAndCloses: UNSET, no entry, a refunded pass, a product that is not refundable, a quote, an amount of 0 with
and without FORCE, and an amount above 0. -/
theorem witness_Refund :
    ((asked .office 23 (refundOf 0) State.reset).grants .refund (first .office 23 (refundOf 0))
        ∧ (asked .office 23 (refundOf 0) bareSite).grants .refund (first .office 23 (refundOf 0))
        ∧ bareSite.findPass (passArg (refundOf 0)) = none)
      ∧ (∀ e ∈ [{ pass1 with state := .refunded 95 100 }, staffPass],
        (asked .office 23 (refundOf 0) (siteOf e)).grants .refund (first .office 23 (refundOf 0))
          ∧ (siteOf e).findPass (passArg (refundOf 0)) = some (16, e))
      ∧ (site.product staffPass.product).refundable = false
      ∧ (∀ o ∈ ([0, 1, 2, 3] : List Byte), (asked .office 23 (refundOf o) siteX).grants .refund (first .office 23 (refundOf o)))
      ∧ siteX.clock.state = .running ∧ siteX.findPass 1 = some (16, passX)
      ∧ (siteX.product passX.product).amountOf 18500 19200 = 17000
      ∧ (∀ o ∈ ([0, 2] : List Byte),
        (asked .office 23 (refundOf o) (siteX.withClock { siteX.clock with day := 47 })).grants .refund (first .office 23 (refundOf o)))
      ∧ (siteX.product passX.product).amountOf 18500 (passX.refundCap 47) = 0 := by
  unfold State.grants; decide +kernel

/-! ### The day-close sweep -/

/-- Witness of SweepVisitAndRetirement: a free slot, a marker, and each state of an entry, on both sides of the valid-to day and of the
retention of 7 days; and a retirement. -/
theorem witness_SweepVisit :
    bareSite.entryAt 16 = none ∧ heldSite.entryAt 16 = some heldPass ∧ heldPass.marker.isSome = true
      ∧ (∀ last ∈ [100, 99, 93, 92], ∀ x ∈ [PassState.live .active, .suspended .active, .expired, .refunded 92 0],
        let e := { pass1 with validFrom := 90, validTo := last, state := x }
        (siteOf e).entryAt 16 = some e ∧ e.marker = none)
      ∧ site.sweep.retention = 7 ∧ site.clock.day = 100 ∧ siteX.StoreOk ∧ siteX.entryAt 16 = some passX := by
  refine ⟨?_, ?_, ?_, ?_, ?_, ?_, siteX_storeOk, ?_⟩ <;> decide +kernel

/-- Witness of SweepBatchVisitsItsSlots: the first batch and the last one, at MAY and at MUST. -/
theorem witness_SweepBatch :
    ∀ x ∈ [(0, Urgency.may), (16256, .must 4), (16320, .may), (16320, .must 4)],
      (site.setWalk (some { cursor := x.1, urgency := x.2 })).select = some .batch := by decide +kernel

/-! ### The invariants of every step -/

/-- `heldSite` with a RELEASE waiting at gate port G0 and its grant at the front of the queue. -/
def releasing : State := (asked (.gate 0) 3 [0] heldSite).withPending [.release]

theorem releasing_parts :
    releasing.slots = [(16, heldPass)] ∧ releasing.freeSlots = 16383 ∧ releasing.arbiter.nextGrant = 1
      ∧ (∀ l, (releasing.lane l).hold = if l = 0 then some heldHold else none)
      ∧ (releasing.lane 0).state = .work .normal ∧ releasing.clock.day = 100 := by decide +kernel

theorem releasing_steps : ∃ t, step releasing = .next t ∧ t.entryAt 16 = some pass1 := ⟨_, rfl, by decide +kernel⟩

theorem releasing_storeOk : releasing.StoreOk :=
  storeOk_one releasing_parts.1 (by decide) (by decide) releasing_parts.2.1

theorem releasing_holdsOk : releasing.HoldsOk :=
  holdsOk_held releasing_parts.1 releasing_parts.2.2.2.1 releasing_parts.2.2.2.2.1 releasing_parts.2.2.1

theorem releasing_onlyHold (l : Lane) (h : Hold) (hl : (releasing.lane l).hold = some h) : h = heldHold :=
  (heldHold_only releasing_parts.2.2.2.1 hl).symm

theorem releasing_historyOk : releasing.HistoryOk :=
  historyOk_one (rs := [ride 100 1]) releasing_parts.1 rfl rfl (by decide) (by decide) rfl fun l h hl => by
    rw [releasing_onlyHold l h hl]
    exact heldHold_fit

/-- Witness of WarmResetByLineAndRestart, the pass store: a hold whose grant took a granule, and an entry without a hold. -/
theorem witness_WarmReset_store :
    (releasing.StoreOk ∧ releasing.HoldsOk ∧ releasing.HistoryOk ∧ (releasing.lane 0).hold = some heldHold
        ∧ releasing.entryAt heldHold.slot = some heldPass)
      ∧ (siteX.StoreOk ∧ siteX.HoldsOk ∧ siteX.HistoryOk ∧ siteX.entryAt 16 = some passX
        ∧ ∀ l h, (siteX.lane l).hold = some h → h.slot ≠ 16) := by
  have hn : ∀ l, (siteX.lane l).hold = none := by decide +kernel
  refine ⟨⟨releasing_storeOk, releasing_holdsOk, releasing_historyOk, by simp [releasing_parts.2.2.2.1], entryAt_held releasing_parts.1⟩,
    siteX_storeOk, ⟨?_, ?_, ?_, ?_⟩, siteX_historyOk, by decide +kernel, ?_⟩
  · simp [hn]
  · intro n e l he hm
    obtain ⟨-, rfl⟩ := (entryAt_one (s := siteX) (n := 16) (e := passX) rfl n e).1 he
    cases hm
  all_goals simp [hn]

theorem countsAtMost {c : CountSet} {top : Nat}
    (h : (∀ (l : Fin 8) (k : Fin 11), c.lanes[l][k] ≤ top) ∧ ∀ (f : Fin 4) (k : Fin 3), c.lifts[f][k] ≤ top) : c.atMost top :=
  ⟨fun l k hl hk => h.1 ⟨l, hl⟩ ⟨k, hk⟩, fun f k hf hk => h.2 ⟨f, hf⟩ ⟨k, hk⟩⟩

theorem releasing_inRange : releasing.InRange := by
  refine ⟨?_, ?_, ?_, ?_, ?_, ?_, ?_, ?_, ?_, ?_, ?_, ?_, ?_, ?_⟩
  · intro p
    cases p with
    | gate k => revert k; decide +kernel
    | office => decide +kernel
  · intro p
    have : (releasing.port p).transaction = none := by
      cases p with
      | gate k => revert k; decide +kernel
      | office => decide +kernel
    simp [PortRec.TransactionOk, this]
  · refine ⟨?_, ?_, ?_, ?_, ?_⟩ <;> decide +kernel
  · decide +kernel
  · intro l
    have hn : ∀ l, (releasing.lane l).late = none ∧ (releasing.lane l).dwell = none := by decide +kernel
    refine ⟨by simp [(hn l).1], by simp [(hn l).2], fun h hl => ?_⟩
    rw [releasing_onlyHold l h hl]
    decide
  · decide +kernel
  · have hm : releasing.counts.mode = .manual := by decide +kernel
    refine ⟨countsAtMost ?_, countsAtMost ?_, countsAtMost ?_, ?_, ?_, ?_, ?_, fun n hn => ?_⟩
    rotate_left 7
    · rw [hm] at hn
      cases hn
    all_goals decide +kernel
  · refine ⟨?_, ?_, ?_, ?_⟩
    · decide +kernel
    · decide +kernel
    · decide +kernel
    · intro x hx
      have : releasing.sweep.walk = none := by decide +kernel
      rw [this] at hx
      cases hx
  · decide +kernel
  · decide +kernel
  · decide +kernel
  · decide +kernel
  · decide +kernel
  · decide +kernel

/-- Witness of ReadsChangeNothing, its layouts: the store's counts within their ranges. -/
theorem witness_Reads_layouts : releasing.InRange ∧ releasing.freeSlots ≤ 16384 ∧ releasing.history.free.length ≤ 16384 :=
  ⟨releasing_inRange, by decide +kernel, by decide +kernel⟩

theorem releasing_entriesOk : releasing.EntriesOk := by
  have hd := releasing_parts.2.2.2.2.2
  have hr : releasing.history.records heldPass.chain = [ride 100 1] := by decide +kernel
  refine ⟨?_, ?_, ?_, ?_⟩
  · intro n e he
    obtain ⟨rfl, rfl⟩ := (entryAt_one releasing_parts.1 n e).1 he
    rw [hd]
    simp [Entry.Ok, heldPass, pass1, Config.lastDay, Config.lastSecond]
  · intro n e he
    obtain ⟨rfl, rfl⟩ := (entryAt_one releasing_parts.1 n e).1 he
    rw [hd, hr]
    simp [DaysInOrder, ride, heldPass]
  · intro l h e hl he
    obtain rfl := releasing_onlyHold l h hl
    obtain ⟨-, rfl⟩ := (entryAt_one releasing_parts.1 _ e).1 he
    rw [hd, hr]
    simp [DaysInOrder, heldHold]
  · intro l h e hl he
    obtain rfl := releasing_onlyHold l h hl
    obtain ⟨-, rfl⟩ := (entryAt_one releasing_parts.1 _ e).1 he
    rw [hd]
    simp [Hold.PrevOk, heldHold, heldPass, pass1]

theorem releasing_queuesOk : releasing.QueuesOk := by
  have hq : ∀ p, (releasing.port p).requests
      = if p = .gate 0 then [{ frame := frameOf 3 [0], role := .store 0 }] else [] := by
    intro p
    cases p with
    | gate k => revert k; decide +kernel
    | office => decide +kernel
  refine ⟨?_, ?_, ?_, ?_⟩
  · intro p w hw
    rw [hq p] at hw
    by_cases h0 : p = .gate 0
    · simp only [h0, if_true, List.mem_singleton] at hw
      subst hw h0
      exact ⟨by decide, ⟨.release, by decide, by decide⟩, by decide +kernel⟩
    · simp [h0] at hw
  · decide +kernel
  · intro p
    cases p with
    | gate k => revert k; decide +kernel
    | office => decide +kernel
  · have : releasing.arbiter.expiries = [] := by decide +kernel
    intro x hx
    rw [this] at hx
    cases hx

/-- Witness of the seven statements on steps: the RELEASE of an open hold, which takes back a debit, meets every hypothesis. -/
theorem witness_Steps :
    releasing.InRange ∧ releasing.QueuesOk ∧ releasing.StoreOk ∧ releasing.HoldsOk ∧ (∀ l, releasing.Balanced l)
      ∧ releasing.EntriesOk ∧ releasing.HistoryOk ∧ ∃ t, step releasing = .next t ∧ t.entryAt 16 = some pass1 :=
  ⟨releasing_inRange, releasing_queuesOk, releasing_storeOk, releasing_holdsOk, by unfold State.Balanced; decide +kernel,
    releasing_entriesOk, releasing_historyOk, releasing_steps⟩

end Sys2Proof.Tests
end

/-! The scheme in force: the rows of the table of R109 as the lane number gives them, and what the two resets do to the scheme. -/

namespace Sys2Proof.Machine

/-! ### The rows of the table -/

@[simp] theorem Scheme.liftOf_s0_val (l : Lane) : (Scheme.s0.liftOf l).val = 0 := rfl

@[simp] theorem Scheme.liftOf_s1_val (l : Lane) : (Scheme.s1.liftOf l).val = if l.val < 4 then 0 else 1 := by
  fin_cases l <;> rfl

@[simp] theorem Scheme.liftOf_s2_val (l : Lane) : (Scheme.s2.liftOf l).val = l.val / 2 := by
  fin_cases l <;> rfl

@[simp] theorem Scheme.liftOf_s3_val (l : Lane) :
    (Scheme.s3.liftOf l).val = if l.val < 4 then 0 else if l.val < 6 then 1 else if l.val = 6 then 2 else 3 := by
  fin_cases l <;> rfl

/-! ### The scheme at the resets -/

/-- A warm reset leaves alone everything that it neither rolls back nor restarts: the scheme in force among the rest (R109). -/
@[simp] theorem State.warmReset_frame (s : State) :
    (s.warmReset).pending = s.pending ∧ (s.warmReset).pins = s.pins ∧ (s.warmReset).freeSlots = s.freeSlots
    ∧ (s.warmReset).products = s.products ∧ (s.warmReset).resort = s.resort ∧ (s.warmReset).clock = s.clock
    ∧ (s.warmReset).calendar = s.calendar ∧ (s.warmReset).scheme = s.scheme ∧ (s.warmReset).tariff = s.tariff
    ∧ (s.warmReset).orderIndex = s.orderIndex ∧ (∀ z, (s.warmReset).product z = s.product z)
    ∧ (∀ z, (s.warmReset).liftOf z = s.liftOf z) := by
  simp [State.warmReset]

@[simp] theorem State.powerOn_scheme (s : State) : s.powerOn.scheme = .s0 := rfl

/-- Settles O43: the table row by row, by the scheme in force; the resets by what they do to the scheme. -/
theorem schemeGivesTheLiftOfEachLane : Obligations.SchemeGivesTheLiftOfEachLane := by
  unfold Obligations.SchemeGivesTheLiftOfEachLane
  have warmKeepsScheme (s : State) : s.warmReset.scheme = s.scheme := by simp only [State.warmReset_frame]
  refine ⟨fun s l => ?_, fun s => ⟨s.powerOn_scheme, warmKeepsScheme s⟩⟩
  unfold State.liftOf
  cases s.scheme with
  | s0 => exact Scheme.liftOf_s0_val l
  | s1 => exact Scheme.liftOf_s1_val l
  | s2 => exact Scheme.liftOf_s2_val l
  | s3 => exact Scheme.liftOf_s3_val l

end Sys2Proof.Machine

/-! Refunds: the valuation stage by stage, as bounds and equations of each stage that the next stages rest on. -/

namespace Sys2Proof.Machine

/-! ### Stage 1: the used value -/

theorem State.rate_le_highestRate (s : State) (row : Fin 8) (c : DayClass) : s.rate row c ≤ s.highestRate row := by
  unfold State.highestRate
  fin_cases c <;> simp

theorem State.exists_highestRate_eq (s : State) (row : Fin 8) : ∃ c : DayClass, s.highestRate row = s.rate row c := by
  unfold State.highestRate
  rcases max_choice (max (s.rate row 0) (s.rate row 1)) (max (s.rate row 2) (s.rate row 3)) with h | h <;> rw [h]
  · rcases max_choice (s.rate row 0) (s.rate row 1) with h | h <;> exact ⟨_, h⟩
  · rcases max_choice (s.rate row 2) (s.rate row 3) with h | h <;> exact ⟨_, h⟩

/-- Every used day, recorded or lost, is valued at no more than the bound on the rates of the row (R148). -/
theorem State.usedValue_le_mul (s : State) (e : Entry) (row : Fin 8) (top : Nat) (hrate : ∀ c : DayClass, s.rate row c ≤ top) :
    s.usedValue e row ≤ ((s.history.records e.chain).length + e.lost) * top := by
  have recorded : ((s.history.records e.chain).map fun x => s.rate row x.cls).sum ≤ (s.history.records e.chain).length * top := by
    simpa using List.sum_le_card_nsmul ((s.history.records e.chain).map fun x => s.rate row x.cls) top (by simp [hrate])
  have lost : e.lost * s.highestRate row ≤ e.lost * top := by
    obtain ⟨c, hc⟩ := s.exists_highestRate_eq row
    exact Nat.mul_le_mul_left _ (hc ▸ hrate c)
  rw [Nat.add_mul]
  exact Nat.add_le_add recorded lost

/-! ### Stages 3 to 5: the refundable days -/

theorem Entry.validFrom_le_firstRefundable (e : Entry) (today : Nat) : e.validFrom ≤ e.firstRefundable today := le_max_left ..

/-- Truncated subtraction has both cases of stage 4 in it: past valid-to no day is left. -/
theorem Entry.windowDays_eq_sub (e : Entry) (today : Nat) : e.windowDays today = e.validTo + 1 - e.firstRefundable today := by
  unfold Entry.windowDays
  split <;> omega

/-- Stage 4 counts days: those below `n` that are no earlier than `f`. -/
theorem length_filter_le_range (f n : Nat) : ((List.range n).filter fun day => f ≤ day).length = n - f := by
  induction n with
  | zero => simp
  | succ n ih =>
    rw [List.range_succ, List.filter_append, List.length_append, ih]
    by_cases h : f ≤ n
    · have counted : n + 1 - f = n - f + 1 := by omega
      simp [h, counted]
    · have skipped : n + 1 - f = n - f := by omega
      simp [h, skipped]

theorem Entry.refundableDays_le_bought (e : Entry) (today : Nat) : e.refundableDays today ≤ e.bought :=
  (min_le_left ..).trans (Nat.sub_le ..)

/-- Settles O48: stage 1 by the bound on each used day, stages 3 and 4 by the window as one subtraction, stage 5 as a minimum. -/
theorem usedValueAndRefundableDays : Obligations.UsedValueAndRefundableDays := by
  unfold Obligations.UsedValueAndRefundableDays
  refine ⟨fun s e row => ⟨s.rate_le_highestRate row, s.exists_highestRate_eq row, rfl, fun hrate hdays => ?_⟩, fun e today => ?_⟩
  · calc s.usedValue e row
      _ ≤ ((s.history.records e.chain).length + e.lost) * 200000 := s.usedValue_le_mul e row 200000 hrate
      _ ≤ 30 * 200000 := Nat.mul_le_mul_right _ hdays
  · have hfrom := e.validFrom_le_firstRefundable today
    have hwindow := e.windowDays_eq_sub today
    have hbought := e.refundableDays_le_bought today
    refine ⟨⟨hfrom, fun h => ?_, fun h => ?_, max_choice ..⟩, ?_, by omega, by omega, min_le_left .., min_le_right .., min_choice ..,
      by omega, by omega⟩
    · simp [Entry.firstRefundable, h]
    · simp [Entry.firstRefundable, h]
    · rw [hwindow, length_filter_le_range]

/-! ### Stages 6 to 10: the cap and the amount -/

/-- The cap is at most the price, since the refundable days are at most the days bought (R152). -/
theorem Entry.refundCap_le_price (e : Entry) (today : Nat) : e.refundCap today ≤ e.price :=
  Nat.div_le_of_le_mul <| by
    rw [Nat.mul_comm e.bought]
    exact Nat.mul_le_mul_left _ (e.refundableDays_le_bought today)

/-- The rounding of stage 9 gives the multiple of the unit that lies less than one unit below the credit after the fee; stage 10 pays
it or 0 (R154). -/
theorem Product.amountOf_rounds (p : Product) (credit cap : Nat) (hunit : 1 ≤ p.unit) :
    ∃ a, p.unit ∣ a ∧ a ≤ min credit cap - p.fee ∧ min credit cap - p.fee < a + p.unit
      ∧ p.amountOf credit cap = if a < p.minPayout then 0 else a :=
  ⟨(min credit cap - p.fee) / p.unit * p.unit, Nat.dvd_mul_left .., Nat.div_mul_le_self .., Nat.lt_div_mul_add hunit, rfl⟩

/-- Fee, rounding and minimum payout only take away from the capped credit (R153, R154). -/
theorem Product.amountOf_le_cap (p : Product) (credit cap : Nat) : p.amountOf credit cap ≤ cap := by
  have hround : (min credit cap - p.fee) / p.unit * p.unit ≤ min credit cap - p.fee := Nat.div_mul_le_self ..
  simp only [Product.amountOf]
  split
  · exact Nat.zero_le _
  · omega

/-- Settles O49: the cap by the division of stage 6, the amount by the rounding of stage 9. -/
theorem refundCapAndAmount : Obligations.RefundCapAndAmount := by
  unfold Obligations.RefundCapAndAmount
  refine ⟨fun e today hbought => ⟨Nat.div_mul_le_self .., ?_, fun hdays hprice => ?_, e.refundCap_le_price today, fun h => ?_⟩,
    fun s e p _ hunit => ?_⟩
  · rw [Nat.mul_comm (_ + 1)]
    exact Nat.lt_mul_div_succ _ hbought
  · exact Nat.mul_le_mul hprice ((e.refundableDays_le_bought today).trans hdays)
  · simp [Entry.refundCap, h]
  · have hcap : (s.valuation e p).amount ≤ e.refundCap s.clock.day := p.amountOf_le_cap ..
    have hfee (c : Nat) : (if p.fee ≤ c then c - p.fee else 0) = c - p.fee := by split <;> omega
    refine ⟨rfl, ?_, hcap, hcap.trans (e.refundCap_le_price _)⟩
    simp only [hfee]
    exact p.amountOf_rounds (e.price - s.usedValue e p.row) (e.refundCap s.clock.day) hunit

end Sys2Proof.Machine

/-! What a step takes, and the frame of every command: the parts of the state that it leaves alone, put together from the frames of
the operations that it is made of. -/

namespace Sys2Proof.Machine

/-! ### The front of the queue -/

theorem step_of_pending_nil {s : State} (h : s.pending = []) : step s = .next s := by
  simp only [step, h]

theorem step_of_pending_cons {s : State} {c : Instr} {rest : List Instr} (h : s.pending = c :: rest) :
    step s = exec c (s.withPending rest) := by
  simp only [step, h]

theorem State.withPending_withPending (s : State) (x y : List Instr) : (s.withPending x).withPending y = s.withPending y := rfl

/-- Settles O1: the two cases of the queue; the queue that the command leaves takes the place of the one it stood in. -/
theorem stepTakesTheFrontCommand : Obligations.StepTakesTheFrontCommand := by
  unfold Obligations.StepTakesTheFrontCommand
  refine ⟨fun c rest s => ?_, fun s => step_of_pending_nil (s.withPending_fields []).1⟩
  rw [step_of_pending_cons (s.withPending_fields (c :: rest)).1, State.withPending_withPending]

/-! ### Frames as such -/

/-- A frame field by field, for `simp` to settle from the frames of the operations. -/
theorem onlyChanges_iff (ps : List Part) (s t : State) :
    onlyChanges ps s t ↔
      (.pending ∉ ps → t.pending = s.pending) ∧ (.pins ∉ ps → t.pins = s.pins) ∧ (.gates ∉ ps → t.gates = s.gates)
      ∧ (.office ∉ ps → t.office = s.office) ∧ (.slots ∉ ps → t.slots = s.slots)
      ∧ (.freeSlots ∉ ps → t.freeSlots = s.freeSlots) ∧ (.products ∉ ps → t.products = s.products)
      ∧ (.resort ∉ ps → t.resort = s.resort) ∧ (.history ∉ ps → t.history = s.history) ∧ (.clock ∉ ps → t.clock = s.clock)
      ∧ (.calendar ∉ ps → t.calendar = s.calendar) ∧ (.lanes ∉ ps → t.lanes = s.lanes) ∧ (.lifts ∉ ps → t.lifts = s.lifts)
      ∧ (.scheme ∉ ps → t.scheme = s.scheme) ∧ (.counts ∉ ps → t.counts = s.counts) ∧ (.tariff ∉ ps → t.tariff = s.tariff)
      ∧ (.arbiter ∉ ps → t.arbiter = s.arbiter) ∧ (.sweep ∉ ps → t.sweep = s.sweep)
      ∧ (.orderIndex ∉ ps → t.orderIndex = s.orderIndex) := by
  constructor
  · intro h
    exact ⟨h _, h _, h _, h _, h _, h _, h _, h _, h _, h _, h _, h _, h _, h _, h _, h _, h _, h _, h _⟩
  · rintro ⟨h1, h2, h3, h4, h5, h6, h7, h8, h9, h10, h11, h12, h13, h14, h15, h16, h17, h18, h19⟩ p
    cases p <;> assumption

@[refl] theorem onlyChanges.refl {ps : List Part} (s : State) : onlyChanges ps s s := by
  simp [onlyChanges_iff]

theorem onlyChanges.trans {ps : List Part} {s t u : State} (h : onlyChanges ps s t) (h' : onlyChanges ps t u) :
    onlyChanges ps s u := by
  intro p hp
  have hst := h p hp
  have htu := h' p hp
  cases p <;> exact htu.trans hst

theorem onlyChanges.mono {ps qs : List Part} {s t : State} (h : onlyChanges ps s t) (hsub : ps ⊆ qs) : onlyChanges qs s t :=
  fun p hp => h p fun hmem => hp (hsub hmem)

section

/-! ### Ports, grants and services -/

variable {ps : List Part} {p : Port} {s : State}

theorem State.modPort_onlyChanges (hp : portPart p ∈ ps) {f : PortRec → PortRec} : onlyChanges ps s (s.modPort p f) :=
  s.setPort_onlyChanges p _ hp

theorem State.charge_onlyChanges (s : State) (g : Grant) : onlyChanges [.arbiter, .sweep] s (s.charge g) := by
  simp [onlyChanges_iff]

theorem portPart_mem_grantParts (p : Port) : portPart p ∈ grantParts := by
  cases p <;> simp [portPart, grantParts]

/-- A grant charges the arbiter, and adds to what the evaluation of its request changes only the port that is answered. -/
theorem State.grantTo_onlyChanges {sel : Frame → Bool} {eval : State → List Byte → State × List Byte} (hgrant : grantParts ⊆ ps)
    (heval : ∀ t bs, onlyChanges ps t (eval t bs).1) : onlyChanges ps s (s.grantTo sel eval) := by
  unfold State.grantTo
  split
  · rfl
  next r _ =>
    have hcharge : onlyChanges ps s (s.charge (.request r)) := (s.charge_onlyChanges _).mono (by simp_all [grantParts])
    exact (hcharge.trans (heval _ _)).trans (State.modPort_onlyChanges (hgrant (portPart_mem_grantParts _)))

/-- A service adds to what the evaluation of its request changes only its own port. -/
theorem State.serve_onlyChanges {sel : Frame → Bool} {eval : State → List Byte → State × List Byte} (hp : portPart p ∈ ps)
    (heval : ∀ t bs, onlyChanges ps t (eval t bs).1) : onlyChanges ps s (s.serve p sel eval) := by
  unfold State.serve
  split
  · rfl
  · exact (heval _ _).trans (State.modPort_onlyChanges hp)

theorem State.answerFrame_onlyChanges (hp : portPart p ∈ ps) : onlyChanges ps s (s.answerFrame p) := by
  unfold State.answerFrame
  split
  · exact State.modPort_onlyChanges hp
  · rfl

/-! ### Transactions -/

/-- The first command of a transaction opens it at its own port; a further one opens nothing. -/
theorem State.ifOpened_onlyChanges (hp : portPart p ∈ ps) (begins : Bool) (code : Byte) :
    onlyChanges ps s (if begins then s.opened p code else s) := by
  split
  · exact State.modPort_onlyChanges hp
  · rfl

theorem State.shiftOut_onlyChanges (hp : portPart p ∈ ps) (n : Nat) (ends : Bool) : onlyChanges ps s (s.shiftOut p n ends) := by
  unfold State.shiftOut
  split
  · exact State.modPort_onlyChanges hp
  · rfl

theorem State.fetch_onlyChanges (hp : portPart p ∈ ps) (n : Piece Nat) : onlyChanges ps s (s.fetch p n) :=
  (State.ifOpened_onlyChanges hp _ _).trans (State.shiftOut_onlyChanges hp _ _)

theorem State.warmReset_onlyChanges (s : State) : onlyChanges warmParts s s.warmReset := by
  simp [onlyChanges_iff, warmParts]

/-- RESTART is not permitted on a gate port, so no frame that a gate port takes makes a warm reset (R184). -/
theorem checkFrame_gate_restart {k : Fin 4} {f : Frame} (n : Nat) (h : ReqKind.ofCode f.kind = some .restart) :
    checkFrame (.gate k) f n = some .notPermitted := by
  simp [checkFrame, h, ReqKind.permitted]

/-- A SEND can change its own port, whichever port it is. -/
theorem portPart_mem_send (p : Port) (bytes : Piece (List Byte)) : portPart p ∈ touches (.send p bytes) := by
  cases p <;> simp [touches, portPart, warmParts]

theorem arbiter_mem_send (p : Port) (bytes : Piece (List Byte)) : .arbiter ∈ touches (.send p bytes) := by
  cases p <;> simp [touches, warmParts]

/-- A frame that is taken changes its port and the arbiter's stamp, or makes the warm reset that the office can ask for. -/
theorem State.takeFrame_onlyChanges (s : State) (p : Port) (f : Frame) (n : Nat) (bytes : Piece (List Byte)) :
    onlyChanges (touches (.send p bytes)) s (s.takeFrame p f n) := by
  have hport := portPart_mem_send p bytes
  unfold State.takeFrame
  split
  · exact State.modPort_onlyChanges hport
  next hcheck hrestart =>
    cases p with
    | office => exact s.warmReset_onlyChanges
    | gate k => simp [checkFrame_gate_restart n hrestart] at hcheck
  · split
    · have hstamp (t : State) (a : Arbiter) : onlyChanges [.arbiter] t (t.withArbiter a) := by simp [onlyChanges_iff]
      exact (State.modPort_onlyChanges hport).trans ((hstamp _ _).mono (by simp [arbiter_mem_send]))
    · exact State.modPort_onlyChanges hport
  · rfl

theorem State.shiftIn_onlyChanges (s : State) (p : Port) (bytes : Piece (List Byte)) :
    onlyChanges (touches (.send p bytes)) s (s.shiftIn p bytes.data bytes.ends) := by
  have hprogress (x : Option Transaction) : onlyChanges (touches (.send p bytes)) s (s.inProgress p x) :=
    State.modPort_onlyChanges (portPart_mem_send p bytes)
  unfold State.shiftIn
  split
  · split
    · exact hprogress _
    · dsimp only
      split
      · exact hprogress _
      · exact (hprogress _).trans (State.takeFrame_onlyChanges _ _ _ _ _)
  · exact hprogress _
  · rfl

theorem State.send_onlyChanges (s : State) (p : Port) (bytes : Piece (List Byte)) :
    onlyChanges (touches (.send p bytes)) s (s.send p bytes) :=
  (State.ifOpened_onlyChanges (portPart_mem_send p bytes) _ _).trans (State.shiftIn_onlyChanges _ p bytes)

/-! ### Evaluations of granted requests -/

theorem State.present_onlyChanges (s : State) (l : Lane) (x : Image) : onlyChanges (touches .present) s (s.present l x).1 := by
  simp [onlyChanges_iff, touches, grantParts]

theorem State.passed_onlyChanges (s : State) (bs : List Byte) : onlyChanges (touches .passed) s (s.passed bs).1 := by
  unfold State.passed
  dsimp only
  split
  · simp [onlyChanges_iff, touches, grantParts]
  split
  · simp [onlyChanges_iff, touches, grantParts]
  · simp [onlyChanges_iff, touches, grantParts]

theorem State.release_onlyChanges (s : State) (bs : List Byte) : onlyChanges (touches .release) s (s.release bs).1 := by
  unfold State.release
  dsimp only
  split
  · simp [onlyChanges_iff, touches, grantParts]
  · rfl

theorem State.moveLane_onlyChanges (s : State) (l : Lane) (x : LaneState) (d : Option Dwell) :
    onlyChanges [.slots, .history, .lanes, .lifts, .counts, .gates, .office] s (s.moveLane l x d) := by
  simp [onlyChanges_iff]

theorem State.jam_onlyChanges (s : State) (bs : List Byte) : onlyChanges (touches .laneReportJam) s (s.jam bs).1 := by
  unfold State.jam
  dsimp only
  split
  · rfl
  · rfl
  · exact (s.moveLane_onlyChanges _ _ _).mono (by decide)

/-- A lane that leaves FAULT releases no hold, so its change of state reaches the lane and the event unit alone (R104). -/
theorem State.moveLane_fault_onlyChanges {l : Lane} {w : WorkState} (h : (s.lane l).state = .fault w) (x : LaneState) (d : Option Dwell) :
    onlyChanges [.lanes, .gates, .office] s (s.moveLane l x d) := by
  simp [onlyChanges_iff, State.moveLane, h]

theorem State.clearJam_onlyChanges (s : State) (bs : List Byte) : onlyChanges (touches .laneReportClear) s (s.clearJam bs).1 := by
  unfold State.clearJam
  dsimp only
  split
  next hfault => exact (State.moveLane_fault_onlyChanges hfault _ _).mono (by decide)
  · rfl

theorem State.place_onlyChanges (s : State) (n : Nat) (e : Entry) :
    onlyChanges [.slots, .freeSlots, .office, .sweep] s (s.place n e) := by
  simp [onlyChanges_iff, State.place]

theorem State.toMust_onlyChanges (s : State) : onlyChanges [.sweep] s s.toMust := by
  simp [onlyChanges_iff]

theorem State.issue_onlyChanges (s : State) (bs : List Byte) : onlyChanges (touches .issue) s (s.issue bs).1 := by
  unfold State.issue
  dsimp only
  split
  · rfl
  split
  · rfl
  split
  · rfl
  split
  · exact s.toMust_onlyChanges.mono (by decide)
  · exact (s.place_onlyChanges _ _).mono (by decide)

theorem State.reissue_onlyChanges (s : State) (bs : List Byte) : onlyChanges (touches .reissue) s (s.reissue bs).1 := by
  unfold State.reissue
  split
  · rfl
  · split
    · rfl
    · simp [onlyChanges_iff, touches, grantParts]

theorem State.suspend_onlyChanges (s : State) (bs : List Byte) : onlyChanges (touches .suspend) s (s.suspend bs).1 := by
  unfold State.suspend
  split
  · rfl
  · split
    · simp [onlyChanges_iff, touches, grantParts]
    · rfl

theorem State.resume_onlyChanges (s : State) (bs : List Byte) : onlyChanges (touches .resume) s (s.resume bs).1 := by
  unfold State.resume
  split
  · rfl
  · split
    · simp [onlyChanges_iff, touches, grantParts]
    · rfl

theorem State.restore_onlyChanges (s : State) (bs : List Byte) : onlyChanges (touches .restore) s (s.restore bs).1 := by
  unfold State.restore
  dsimp only
  split
  · rfl
  split
  · rfl
  split
  · exact s.toMust_onlyChanges.mono (by decide)
  split
  · exact (s.place_onlyChanges _ _).mono (by decide)
  split
  · rfl
  · simp [onlyChanges_iff, touches, grantParts, State.place]

/-- Of the nine answers, eight are refusals; the ninth writes the chain and the entry (R20, R21). -/
theorem State.addUse_onlyChanges (s : State) (bs : List Byte) : onlyChanges (touches .addUse) s (s.addUse bs).1 := by
  unfold State.addUse
  dsimp only
  repeat' split
  all_goals simp [onlyChanges_iff, touches, grantParts]

theorem State.refundValued_onlyChanges (s : State) (n : Nat) (e : Entry) (v : Valued) (quote force : Bool) :
    onlyChanges (touches .refund) s (s.refundValued n e v quote force).1 := by
  unfold State.refundValued
  split
  · rfl
  split
  · rfl
  · simp [onlyChanges_iff, touches, grantParts]

theorem State.refund_onlyChanges (s : State) (bs : List Byte) : onlyChanges (touches .refund) s (s.refund bs).1 := by
  unfold State.refund
  split
  · rfl
  split
  · rfl
  dsimp only
  split
  · rfl
  split
  · rfl
  · exact State.refundValued_onlyChanges _ _ _ _ _ _

theorem State.setLaneRequest_onlyChanges (s : State) (bs : List Byte) :
    onlyChanges (touches .setLane) s (s.setLaneRequest bs).1 := by
  simp [onlyChanges_iff, touches, grantParts, State.setLaneRequest]

/-! ### Evaluations of served requests -/

theorem State.loadProduct_onlyChanges (s : State) (bs : List Byte) : onlyChanges (touches .loadProduct) s (s.loadProduct bs).1 := by
  unfold State.loadProduct
  dsimp only
  split
  · rfl
  · simp [onlyChanges_iff, touches]

theorem State.setResort_onlyChanges (s : State) (bs : List Byte) : onlyChanges (touches .setResort) s (s.setResort bs).1 := by
  simp [onlyChanges_iff, touches, State.setResort]

theorem State.setClock_onlyChanges (s : State) (bs : List Byte) : onlyChanges (touches .setClock) s (s.setClock bs).1 := by
  unfold State.setClock
  dsimp only
  split
  · rfl
  split
  · simp [onlyChanges_iff, touches]
  split
  · rfl
  · simp [onlyChanges_iff, touches]

theorem State.loadCalendar_onlyChanges (s : State) (bs : List Byte) : onlyChanges [.calendar, .office] s (s.loadCalendar bs).1 := by
  unfold State.loadCalendar
  split
  · simp [onlyChanges_iff, State.loadCalendarBase]
  split
  · unfold State.loadCalendarRuns
    dsimp only
    split
    · rfl
    · simp [onlyChanges_iff]
  · rfl

theorem State.setScheme_onlyChanges (s : State) (bs : List Byte) : onlyChanges (touches .setScheme) s (s.setScheme bs).1 := by
  unfold State.setScheme
  split
  · rfl
  · split
    · rfl
    · simp [onlyChanges_iff, touches]

theorem State.setLiftRequest_onlyChanges (s : State) (bs : List Byte) : onlyChanges (touches .setLift) s (s.setLiftRequest bs).1 := by
  unfold State.setLiftRequest
  split
  · rfl
  · simp [onlyChanges_iff, touches]

theorem State.setReport_onlyChanges (s : State) (bs : List Byte) : onlyChanges (touches .setReport) s (s.setReport bs).1 := by
  unfold State.setReport
  dsimp only
  split
  · simp [onlyChanges_iff, touches]
  · simp [onlyChanges_iff, touches]
  · rfl

theorem State.readCounts_onlyChanges (s : State) (bs : List Byte) : onlyChanges (touches .readCounts) s (s.readCounts bs).1 := by
  unfold State.readCounts
  dsimp only
  split
  · rfl
  split
  · split <;> simp [onlyChanges_iff, touches]
  · rfl
  · rfl

theorem State.loadTariff_onlyChanges (s : State) (bs : List Byte) : onlyChanges (touches .loadTariff) s (s.loadTariff bs).1 := by
  unfold State.loadTariff
  dsimp only
  split
  · rfl
  · simp [onlyChanges_iff, touches]

theorem State.setStorePolicy_onlyChanges (s : State) (bs : List Byte) : onlyChanges (touches .setStorePolicy) s (s.setStorePolicy bs).1 := by
  simp [onlyChanges_iff, touches, State.setStorePolicy]

theorem State.setEvents_onlyChanges (s : State) (bs : List Byte) : onlyChanges (touches .setEvents) s (s.setEvents bs).1 := by
  unfold State.setEvents
  split
  next port edges _ _ =>
    have hport : portPart port ∈ touches .setEvents := by cases port <;> simp [portPart, touches]
    exact State.modPort_onlyChanges hport
  · rfl

theorem State.takeSnapshot_onlyChanges (s : State) : onlyChanges (touches .takeSnapshot) s s.takeSnapshot.1 := by
  unfold State.takeSnapshot
  split
  · rfl
  · simp [onlyChanges_iff, touches]

theorem State.readEvents_onlyChanges (s : State) (p : Port) (bs : List Byte) :
    onlyChanges [portPart p] s (s.readEvents p bs).1 := by
  cases p with
  | gate k => exact State.modPort_onlyChanges (by simp)
  | office =>
    unfold State.readEvents State.readOfficeEvents
    dsimp only
    split
    · rfl
    · exact State.modPort_onlyChanges (by simp)

/-! ### Internal events -/

theorem State.tickAll_onlyChanges (s : State) (lines : LiftLines) : onlyChanges tickParts s (s.tickAll lines) := by
  simp [onlyChanges_iff, tickParts]

/-- A command that names a kind of tick is the whole tick or nothing (log entry 2). -/
theorem State.ifTick_onlyChanges (s : State) (lines : LiftLines) (due : Bool) :
    onlyChanges tickParts s (if due then s.tickAll lines else s) := by
  split
  · exact s.tickAll_onlyChanges lines
  · rfl

theorem State.expire_onlyChanges (s : State) (x : Expiry) : onlyChanges (touches .expiry) s (s.expire x) := by
  unfold State.expire
  dsimp only
  split
  · split
    · simp [onlyChanges_iff, touches, grantParts]
    · simp [onlyChanges_iff, touches, grantParts]
  · simp [onlyChanges_iff, touches, grantParts]

theorem State.sweepBatch_onlyChanges (s : State) :
    onlyChanges [.slots, .freeSlots, .history, .sweep, .office] s s.sweepBatch := by
  simp [onlyChanges_iff]

theorem State.powerOn_onlyChanges (s : State) : onlyChanges (touches .powerOnReset) s s.powerOn := by
  simp [onlyChanges_iff, touches, State.powerOn]

end

/-! ### Every command -/

/-- Every command answers a next state, within its frame: the ports' own commands, the grants, the services, the internal events and
the resets. -/
theorem exec_next_onlyChanges (c : Instr) (s : State) : ∃ t, exec c s = .next t ∧ onlyChanges (touches c) s t := by
  have unchanged {c : Instr} (t : State) (_ : List Byte) : onlyChanges (touches c) t t := .refl t
  cases c with
  | send p bytes => exact ⟨_, rfl, s.send_onlyChanges p bytes⟩
  | restart tag => exact ⟨_, rfl, s.send_onlyChanges .office _⟩
  | fetch p n => exact ⟨_, rfl, State.fetch_onlyChanges (by simp [touches]) n⟩
  | status p code =>
    have hp : portPart p ∈ [portPart p] := by simp
    exact ⟨_, rfl, (State.modPort_onlyChanges hp).trans (State.modPort_onlyChanges hp)⟩
  | answeredFrame p => exact ⟨_, rfl, State.answerFrame_onlyChanges (by simp [touches])⟩
  | readEvents p => exact ⟨_, rfl, State.serve_onlyChanges (by simp [touches]) fun t => t.readEvents_onlyChanges p⟩
  | present => exact ⟨_, rfl, State.grantTo_onlyChanges (by decide) fun t _ => t.present_onlyChanges _ _⟩
  | passed => exact ⟨_, rfl, State.grantTo_onlyChanges (by decide) State.passed_onlyChanges⟩
  | release => exact ⟨_, rfl, State.grantTo_onlyChanges (by decide) State.release_onlyChanges⟩
  | laneReportJam => exact ⟨_, rfl, State.grantTo_onlyChanges (by decide) State.jam_onlyChanges⟩
  | laneReportClear => exact ⟨_, rfl, State.grantTo_onlyChanges (by decide) State.clearJam_onlyChanges⟩
  | laneReportQuery => exact ⟨_, rfl, State.grantTo_onlyChanges (by decide) unchanged⟩
  | issue => exact ⟨_, rfl, State.grantTo_onlyChanges (by decide) State.issue_onlyChanges⟩
  | reissue => exact ⟨_, rfl, State.grantTo_onlyChanges (by decide) State.reissue_onlyChanges⟩
  | suspend => exact ⟨_, rfl, State.grantTo_onlyChanges (by decide) State.suspend_onlyChanges⟩
  | resume => exact ⟨_, rfl, State.grantTo_onlyChanges (by decide) State.resume_onlyChanges⟩
  | restore => exact ⟨_, rfl, State.grantTo_onlyChanges (by decide) State.restore_onlyChanges⟩
  | addUse => exact ⟨_, rfl, State.grantTo_onlyChanges (by decide) State.addUse_onlyChanges⟩
  | inquire =>
    refine ⟨_, rfl, State.grantTo_onlyChanges (by decide) fun t bs => ?_⟩
    unfold State.inquire
    split <;> rfl
  | refund => exact ⟨_, rfl, State.grantTo_onlyChanges (by decide) State.refund_onlyChanges⟩
  | setLane => exact ⟨_, rfl, State.grantTo_onlyChanges (by decide) State.setLaneRequest_onlyChanges⟩
  | loadProduct => exact ⟨_, rfl, State.serve_onlyChanges (by decide) State.loadProduct_onlyChanges⟩
  | setResort => exact ⟨_, rfl, State.serve_onlyChanges (by decide) State.setResort_onlyChanges⟩
  | setClock => exact ⟨_, rfl, State.serve_onlyChanges (by decide) State.setClock_onlyChanges⟩
  | readClock => exact ⟨_, rfl, State.serve_onlyChanges (by decide) unchanged⟩
  | loadCalendarBase => exact ⟨_, rfl, State.serve_onlyChanges (by decide) State.loadCalendar_onlyChanges⟩
  | loadCalendarRuns => exact ⟨_, rfl, State.serve_onlyChanges (by decide) State.loadCalendar_onlyChanges⟩
  | setScheme => exact ⟨_, rfl, State.serve_onlyChanges (by decide) State.setScheme_onlyChanges⟩
  | setLift => exact ⟨_, rfl, State.serve_onlyChanges (by decide) State.setLiftRequest_onlyChanges⟩
  | readLanes => exact ⟨_, rfl, State.serve_onlyChanges (by decide) unchanged⟩
  | setReport => exact ⟨_, rfl, State.serve_onlyChanges (by decide) State.setReport_onlyChanges⟩
  | takeSnapshot => exact ⟨_, rfl, State.serve_onlyChanges (by decide) fun t _ => t.takeSnapshot_onlyChanges⟩
  | readCounts => exact ⟨_, rfl, State.serve_onlyChanges (by decide) State.readCounts_onlyChanges⟩
  | loadTariff => exact ⟨_, rfl, State.serve_onlyChanges (by decide) State.loadTariff_onlyChanges⟩
  | setStorePolicy => exact ⟨_, rfl, State.serve_onlyChanges (by decide) State.setStorePolicy_onlyChanges⟩
  | readStore => exact ⟨_, rfl, State.serve_onlyChanges (by decide) unchanged⟩
  | setEvents => exact ⟨_, rfl, State.serve_onlyChanges (by decide) State.setEvents_onlyChanges⟩
  | tick lines => exact ⟨_, rfl, s.tickAll_onlyChanges lines⟩
  | dayRollover lines => exact ⟨_, rfl, s.ifTick_onlyChanges lines _⟩
  | clockStall lines => exact ⟨_, rfl, s.ifTick_onlyChanges lines _⟩
  | holdDue lines => exact ⟨_, rfl, s.ifTick_onlyChanges lines _⟩
  | autoTransfer lines => exact ⟨_, rfl, s.ifTick_onlyChanges lines _⟩
  | sweepDeadlineReached lines => exact ⟨_, rfl, s.ifTick_onlyChanges lines _⟩
  | expiry =>
    refine ⟨_, rfl, ?_⟩
    split
    · exact ((s.charge_onlyChanges _).mono (by decide)).trans (State.expire_onlyChanges _ _)
    · rfl
  | sweepBatch =>
    refine ⟨_, rfl, ?_⟩
    split
    · exact ((s.charge_onlyChanges _).mono (by decide)).trans ((State.sweepBatch_onlyChanges _).mono (by decide))
    · rfl
  | resetLine =>
    refine ⟨_, rfl, ?_⟩
    split
    · rfl
    · simp [onlyChanges_iff, touches, warmParts]
  | resetLineInactive => exact ⟨_, rfl, by simp [onlyChanges_iff, touches]⟩
  | powerOnReset => exact ⟨_, rfl, s.powerOn_onlyChanges⟩

/-- Settles O2: a command has one answer, which is the next state within its frame. -/
theorem commandsCompleteAndChangeOnlyTheirParts : Obligations.CommandsCompleteAndChangeOnlyTheirParts := by
  unfold Obligations.CommandsCompleteAndChangeOnlyTheirParts
  refine ⟨fun c s => ?_, fun c s t hexec => ?_⟩
  · obtain ⟨t, hnext, -⟩ := exec_next_onlyChanges c s
    exact ⟨t, hnext⟩
  · obtain ⟨u, hnext, hframe⟩ := exec_next_onlyChanges c s
    obtain rfl : u = t := by simpa [hnext] using hexec
    exact hframe

end Sys2Proof.Machine

/-! Further laws of the state: what the writes of entries, counters and lanes read as, and that no work of the event unit touches the
transaction in progress at a port. -/

namespace Sys2Proof.Machine

/-! ### Entries and products -/

@[simp] theorem State.putEntry_entryAt (s : State) (n m : Nat) (e : Entry) :
    (s.putEntry n e).entryAt m = if m = n then some e else s.entryAt m := by
  simp [State.putEntry, State.entryAt]

theorem State.modEntry_entryAt (s : State) (n m : Nat) (f : Entry → Entry) :
    (s.modEntry n f).entryAt m = if m = n then (s.entryAt n).map f else s.entryAt m := by
  unfold State.modEntry
  cases h : s.entryAt n with
  | none => by_cases hm : m = n <;> simp [hm, h]
  | some e => simp

/-! ### Counters -/

theorem LaneCounter.index_injective : Function.Injective LaneCounter.index := by
  intro a b h
  cases a <;> cases b <;> simp_all [LaneCounter.index]

theorem LiftCounter.index_injective : Function.Injective LiftCounter.index := by
  intro a b h
  cases a <;> cases b <;> simp_all [LiftCounter.index]

@[simp] theorem CountSet.setLane_lane (c : CountSet) (l m : Lane) (k j : LaneCounter) (n : Nat) :
    (c.setLane l k n).lane m j = if (m, j) = (l, k) then n else c.lane m j := by
  have hval : (k.index.val = j.index.val) ↔ j = k :=
    ⟨fun h => (LaneCounter.index_injective (Fin.ext h)).symm, fun h => h ▸ rfl⟩
  simp only [CountSet.setLane, CountSet.lane, Fin.getElem_fin, Vector.getElem_set, Prod.mk.injEq]
  by_cases hl : l.val = m.val
  · obtain rfl : l = m := Fin.ext hl
    simp [Vector.getElem_set, hval]
  · have hne : m ≠ l := fun h => hl (h ▸ rfl)
    simp [hl, hne]

@[simp] theorem CountSet.setLane_lift (c : CountSet) (l : Lane) (k : LaneCounter) (n : Nat) (f : Lift) (j : LiftCounter) :
    (c.setLane l k n).lift f j = c.lift f j := rfl

@[simp] theorem CountSet.setLift_lift (c : CountSet) (f g : Lift) (k j : LiftCounter) (n : Nat) :
    (c.setLift f k n).lift g j = if (g, j) = (f, k) then n else c.lift g j := by
  have hval : (k.index.val = j.index.val) ↔ j = k :=
    ⟨fun h => (LiftCounter.index_injective (Fin.ext h)).symm, fun h => h ▸ rfl⟩
  simp only [CountSet.setLift, CountSet.lift, Fin.getElem_fin, Vector.getElem_set, Prod.mk.injEq]
  by_cases hl : f.val = g.val
  · obtain rfl : f = g := Fin.ext hl
    simp [Vector.getElem_set, hval]
  · have hne : g ≠ f := fun h => hl (h ▸ rfl)
    simp [hl, hne]

@[simp] theorem CountSet.setLift_lane (c : CountSet) (f : Lift) (k : LiftCounter) (n : Nat) (l : Lane) (j : LaneCounter) :
    (c.setLift f k n).lane l j = c.lane l j := rfl

@[simp] theorem CountSet.zero_lane (l : Lane) (k : LaneCounter) : CountSet.zero.lane l k = 0 := by
  simp [CountSet.zero, CountSet.lane]

@[simp] theorem CountSet.zero_lift (f : Lift) (k : LiftCounter) : CountSet.zero.lift f k = 0 := by
  simp [CountSet.zero, CountSet.lift]

/-- The mark of R131 is all that a saturation changes in the count unit. -/
theorem State.noteSaturation_counts (s : State) (n : Nat) :
    (s.noteSaturation n).counts = { s.counts with saturated := s.counts.saturated || decide (Config.runningTop ≤ n) } := by
  unfold State.noteSaturation
  by_cases hn : Config.runningTop ≤ n <;> cases hs : s.counts.saturated <;> simp [hn] <;> rw [← hs]

/-- What a counting event of a lane leaves in the count unit (R130, R131). -/
theorem State.countLane_counts (s : State) (l : Lane) (k : LaneCounter) :
    (s.countLane l k).counts = { s.counts with
      running := s.counts.running.setLane l k (bump Config.runningTop (s.counts.running.lane l k))
      day := s.counts.day.setLane l k (bump Config.dayTop (s.counts.day.lane l k))
      saturated := s.counts.saturated || decide (Config.runningTop ≤ s.counts.running.lane l k) } := by
  simp [State.countLane, State.noteSaturation_counts]

/-- What a counting event of a lift leaves in the count unit (R130, R131). -/
theorem State.countLift_counts (s : State) (f : Lift) (k : LiftCounter) :
    (s.countLift f k).counts = { s.counts with
      running := s.counts.running.setLift f k (bump Config.runningTop (s.counts.running.lift f k))
      day := s.counts.day.setLift f k (bump Config.dayTop (s.counts.day.lift f k))
      saturated := s.counts.saturated || decide (Config.runningTop ≤ s.counts.running.lift f k) } := by
  simp [State.countLift, State.noteSaturation_counts]

@[simp] theorem State.countDayOnly_counts (s : State) (l : Lane) (k : LaneCounter) :
    (s.countDayOnly l k).counts
      = { s.counts with day := s.counts.day.setLane l k (bump Config.dayTop (s.counts.day.lane l k)) } := by
  simp [State.countDayOnly]

/-- What a transfer leaves in the count unit (R133, R134). -/
theorem State.transfer_counts (s : State) :
    s.transfer.counts = { s.counts with
      running := .zero, snapshot := s.counts.running, snapRound := s.counts.round, round := nextRound s.counts.round
      snapSaturated := s.counts.saturated, saturated := false, snapOverrun := s.counts.snapUnread, snapUnread := true } := by
  simp only [State.transfer]
  split <;> simp

@[simp] theorem State.dayCount_countLane (s : State) (l m : Lane) (k j : LaneCounter) :
    (s.countLane l k).dayCount m j = if (m, j) = (l, k) then bump Config.dayTop (s.dayCount l k) else s.dayCount m j := by
  simp [State.dayCount, State.countLane_counts]

@[simp] theorem State.dayCount_countDayOnly (s : State) (l m : Lane) (k j : LaneCounter) :
    (s.countDayOnly l k).dayCount m j = if (m, j) = (l, k) then bump Config.dayTop (s.dayCount l k) else s.dayCount m j := by
  simp [State.dayCount]

@[simp] theorem State.dayCount_countLift (s : State) (f : Lift) (k : LiftCounter) (m : Lane) (j : LaneCounter) :
    (s.countLift f k).dayCount m j = s.dayCount m j := by
  simp [State.dayCount, State.countLift_counts]

@[simp] theorem State.dayCount_transfer (s : State) (m : Lane) (j : LaneCounter) : s.transfer.dayCount m j = s.dayCount m j := by
  simp [State.dayCount, State.transfer_counts]

@[simp] theorem State.dayCount_tickTimer (s : State) (m : Lane) (j : LaneCounter) : s.tickTimer.dayCount m j = s.dayCount m j := by
  unfold State.tickTimer
  split
  · rfl
  · split
    · exact s.dayCount_transfer m j
    · rfl

/-- The day set is part of the count unit, so what leaves the count unit leaves it. -/
theorem State.dayCount_congr {s t : State} (h : t.counts = s.counts) (l : Lane) (k : LaneCounter) : t.dayCount l k = s.dayCount l k := by
  simp [State.dayCount, h]

/-! ### Lanes -/

@[simp] theorem State.setHold_lane (s : State) (l m : Lane) (h : Option Hold) :
    (s.setHold l h).lane m = if m = l then { s.lane l with hold := h } else s.lane m := by simp [State.setHold]

@[simp] theorem State.setLate_lane (s : State) (l m : Lane) (x : Option LateRecord) :
    (s.setLate l x).lane m = if m = l then { s.lane l with late := x } else s.lane m := by simp [State.setLate]

@[simp] theorem State.setDwell_lane (s : State) (l m : Lane) (d : Option Dwell) :
    (s.setDwell l d).lane m = if m = l then { s.lane l with dwell := d } else s.lane m := by simp [State.setDwell]

@[simp] theorem State.modReader_lane (s : State) (l m : Lane) (f : LaneRec → LaneRec) :
    (s.modReader l f).lane m = if m = l then f (s.lane l) else s.lane m := by simp [State.modReader]

@[simp] theorem State.raiseRun_lane (s : State) (l m : Lane) :
    (s.raiseRun l).lane m = if m = l then { s.lane l with unreadRun := bump 255 (s.lane l).unreadRun } else s.lane m := by
  simp [State.raiseRun]

@[simp] theorem State.clearRun_lane (s : State) (l m : Lane) :
    (s.clearRun l).lane m = if m = l then { s.lane l with unreadRun := 0 } else s.lane m := by simp [State.clearRun]

@[simp] theorem State.writeProfile_lane (s : State) (l m : Lane) (p : Profile) :
    (s.writeProfile l p).lane m = if m = l then { s.lane l with profile := p } else s.lane m := by simp [State.writeProfile]

/-- The dwell that a presentation which is not tracked leaves at its lane (R78, R121). -/
theorem State.endOtherDwell_lane (s : State) (l m : Lane) (pass : Nat) :
    (s.endOtherDwell l pass).lane m
      = if m = l then { s.lane l with dwell := (s.lane l).dwell.filter fun d => d.pass == pass } else s.lane m := by
  unfold State.endOtherDwell
  by_cases hm : m = l
  · subst hm
    cases hd : (s.lane m).dwell with
    | none =>
      simp only [if_pos, Option.filter_none]
      rw [← hd]
    | some d => by_cases hp : d.pass = pass <;> simp [hp, Option.filter, ← hd]
  · split
    · simp [hm]
    · split <;> simp [hm]

@[simp] theorem State.undoGrant_lane (s : State) (l m : Lane) (h : Hold) :
    (s.undoGrant l h).lane m = if m = l then { s.lane l with hold := none } else s.lane m := by
  unfold State.undoGrant
  split <;> simp

@[simp] theorem State.rollback_lane (s : State) (l m : Lane) (h : Hold) :
    (s.rollback l h).lane m = if m = l then { s.lane l with hold := none } else s.lane m := by
  simp [State.rollback]

/-- A release leaves its lane without a hold, and every other lane as it was (R90). -/
@[simp] theorem State.releaseHold_lane (s : State) (l m : Lane) :
    (s.releaseHold l).lane m = if m = l then { s.lane l with hold := none } else s.lane m := by
  unfold State.releaseHold
  cases h : (s.lane l).hold with
  | none => by_cases hm : m = l <;> simp [hm, ← h]
  | some x => simp

/-- A change of lane state leaves NORMAL without a hold (R104). -/
theorem State.moveLane_lane (s : State) (l m : Lane) (x : LaneState) (d : Option Dwell) :
    (s.moveLane l x d).lane m
      = if m = l then
          { s.lane l with
            state := x, dwell := d, hold := if (s.lane l).state = .work .normal then none else (s.lane l).hold }
        else s.lane m := by
  simp only [State.moveLane]
  by_cases hm : m = l
  · by_cases hn : (s.lane l).state = .work .normal <;> simp [hm, hn]
  · by_cases hn : (s.lane l).state = .work .normal <;> simp [hm, hn]

/-! ### The transaction in progress -/

@[simp] theorem PortRec.withFlag_transaction (r : PortRec) (e : Event) : (r.withFlag e).transaction = r.transaction := rfl

/-- The transactions in progress of two states are the same at every port. -/
def State.SameTransactions (s t : State) : Prop := ∀ p, (t.port p).transaction = (s.port p).transaction

theorem State.SameTransactions.of_ports {s t : State} (h : ∀ p, t.port p = s.port p) : s.SameTransactions t := fun p => by rw [h p]

@[simp, refl] theorem State.SameTransactions.refl (s : State) : s.SameTransactions s := fun _ => rfl

theorem State.SameTransactions.trans {s t u : State} (h : s.SameTransactions t) (h' : t.SameTransactions u) : s.SameTransactions u :=
  fun p => (h' p).trans (h p)

theorem State.SameTransactions.foldl {α : Type} {s t : State} (h : s.SameTransactions t) (f : State → α → State)
    (hf : ∀ u a, s.SameTransactions u → s.SameTransactions (f u a)) (l : List α) : s.SameTransactions (l.foldl f t) := by
  induction l generalizing t with
  | nil => exact h
  | cons a l ih => exact ih (hf t a h)

section

variable {s t : State}

@[simp] theorem State.SameTransactions.neutral (s t : State) :
    (∀ x, s.SameTransactions (t.withPending x) ↔ s.SameTransactions t) ∧ (∀ x, s.SameTransactions (t.withPins x) ↔ s.SameTransactions t)
    ∧ (∀ x, s.SameTransactions (t.withSlots x) ↔ s.SameTransactions t) ∧ (∀ x, s.SameTransactions (t.withFreeSlots x) ↔ s.SameTransactions t)
    ∧ (∀ x, s.SameTransactions (t.withProducts x) ↔ s.SameTransactions t) ∧ (∀ x, s.SameTransactions (t.withResort x) ↔ s.SameTransactions t)
    ∧ (∀ x, s.SameTransactions (t.withHistory x) ↔ s.SameTransactions t) ∧ (∀ x, s.SameTransactions (t.withClock x) ↔ s.SameTransactions t)
    ∧ (∀ x, s.SameTransactions (t.withCalendar x) ↔ s.SameTransactions t) ∧ (∀ x, s.SameTransactions (t.withLanes x) ↔ s.SameTransactions t)
    ∧ (∀ x, s.SameTransactions (t.withLifts x) ↔ s.SameTransactions t) ∧ (∀ x, s.SameTransactions (t.withScheme x) ↔ s.SameTransactions t)
    ∧ (∀ x, s.SameTransactions (t.withCounts x) ↔ s.SameTransactions t) ∧ (∀ x, s.SameTransactions (t.withTariff x) ↔ s.SameTransactions t)
    ∧ (∀ x, s.SameTransactions (t.withArbiter x) ↔ s.SameTransactions t) ∧ (∀ x, s.SameTransactions (t.withSweep x) ↔ s.SameTransactions t)
    ∧ (∀ x, s.SameTransactions (t.withOrderIndex x) ↔ s.SameTransactions t) ∧ (∀ x y, s.SameTransactions (t.setLane x y) ↔ s.SameTransactions t)
    ∧ (∀ x y, s.SameTransactions (t.modLane x y) ↔ s.SameTransactions t) ∧ (∀ x y, s.SameTransactions (t.setLift x y) ↔ s.SameTransactions t)
    ∧ (∀ x y, s.SameTransactions (t.putEntry x y) ↔ s.SameTransactions t) ∧ (∀ x y, s.SameTransactions (t.modEntry x y) ↔ s.SameTransactions t)
    ∧ (∀ x y, s.SameTransactions (t.countDayOnly x y) ↔ s.SameTransactions t) ∧ (s.SameTransactions t.rollCounts ↔ s.SameTransactions t)
    ∧ (∀ x, s.SameTransactions (t.takePace x) ↔ s.SameTransactions t) ∧ (∀ x, s.SameTransactions (t.givePace x) ↔ s.SameTransactions t)
    ∧ (∀ x y, s.SameTransactions (t.setHold x y) ↔ s.SameTransactions t) ∧ (∀ x y, s.SameTransactions (t.setLate x y) ↔ s.SameTransactions t)
    ∧ (∀ x y, s.SameTransactions (t.setDwell x y) ↔ s.SameTransactions t) ∧ (∀ x y, s.SameTransactions (t.undoGrant x y) ↔ s.SameTransactions t)
    ∧ (∀ x, s.SameTransactions (t.makeDue x) ↔ s.SameTransactions t) ∧ (∀ x, s.SameTransactions (t.drewOrder x) ↔ s.SameTransactions t)
    ∧ (s.SameTransactions t.testHolds ↔ s.SameTransactions t) ∧ (∀ x y, s.SameTransactions (t.endOtherDwell x y) ↔ s.SameTransactions t)
    ∧ (∀ x, s.SameTransactions (t.setWalk x) ↔ s.SameTransactions t) ∧ (s.SameTransactions t.toMust ↔ s.SameTransactions t)
    ∧ (s.SameTransactions t.tableLowTest ↔ s.SameTransactions t) ∧ (∀ x, s.SameTransactions (t.charge x) ↔ s.SameTransactions t)
    ∧ (s.SameTransactions t.rollBackAll ↔ s.SameTransactions t) := by
  simp [State.SameTransactions]

@[simp] theorem State.SameTransactions.raise (h : s.SameTransactions t) (e : Event) : s.SameTransactions (t.raise e) := by
  refine h.trans fun p => ?_
  rw [State.raise_port]; split
  · rfl
  · rfl

@[simp] theorem State.SameTransactions.raiseDevice (h : s.SameTransactions t) (d : DeviceEvent) : s.SameTransactions (t.raiseDevice d) := by
  exact h.raise _

@[simp] theorem State.SameTransactions.handLevel (h : s.SameTransactions t) (e : Event) (before after : Bool) : s.SameTransactions (t.handLevel e before after) := by
  refine h.trans fun p => ?_
  rw [State.handLevel_port]; split
  · rfl
  · rfl

@[simp] theorem State.SameTransactions.judgeLevel (h : s.SameTransactions t) (e : Event) (before after : Bool) : s.SameTransactions (t.judgeLevel e before after) := by
  unfold State.judgeLevel; split
  · exact h
  · exact h.handLevel _ _ _

@[simp] theorem State.SameTransactions.writeHistory (h : s.SameTransactions t) (x : History) : s.SameTransactions (t.writeHistory x) := by
  simp (maxDischargeDepth := 12) [State.writeHistory, h]

@[simp] theorem State.SameTransactions.noteSaturation (h : s.SameTransactions t) (n : Nat) : s.SameTransactions (t.noteSaturation n) := by
  unfold State.noteSaturation
  repeat' split
  all_goals simp (maxDischargeDepth := 12) [h]

@[simp] theorem State.SameTransactions.countLane (h : s.SameTransactions t) (l : Lane) (k : LaneCounter) : s.SameTransactions (t.countLane l k) := by
  simp (maxDischargeDepth := 12) [State.countLane, h]

@[simp] theorem State.SameTransactions.countLift (h : s.SameTransactions t) (f : Lift) (k : LiftCounter) : s.SameTransactions (t.countLift f k) := by
  simp (maxDischargeDepth := 12) [State.countLift, h]

@[simp] theorem State.SameTransactions.transfer (h : s.SameTransactions t) : s.SameTransactions (t.transfer) := by
  simp only [State.transfer]
  split <;> simp (maxDischargeDepth := 12) [h]

@[simp] theorem State.SameTransactions.tickTimer (h : s.SameTransactions t) : s.SameTransactions (t.tickTimer) := by
  unfold State.tickTimer
  repeat' split
  all_goals simp (maxDischargeDepth := 12) [h]

@[simp] theorem State.SameTransactions.filterLift (h : s.SameTransactions t) (f : Lift) (x : LiftState) : s.SameTransactions (t.filterLift f x) := by
  simp only [State.filterLift]
  split <;> simp (maxDischargeDepth := 12) [h]

@[simp] theorem State.SameTransactions.tickLift (h : s.SameTransactions t) (x : LiftLines) (f : Lift) : s.SameTransactions (t.tickLift x f) := by
  simp (maxDischargeDepth := 12) [State.tickLift, h]

@[simp] theorem State.SameTransactions.rollback (h : s.SameTransactions t) (l : Lane) (x : Hold) : s.SameTransactions (t.rollback l x) := by
  simp (maxDischargeDepth := 12) [State.rollback, h]

@[simp] theorem State.SameTransactions.releaseHold (h : s.SameTransactions t) (l : Lane) : s.SameTransactions (t.releaseHold l) := by
  unfold State.releaseHold
  repeat' split
  all_goals simp (maxDischargeDepth := 12) [h]

@[simp] theorem State.SameTransactions.commitHold (h : s.SameTransactions t) (l : Lane) (x : Hold) : s.SameTransactions (t.commitHold l x) := by
  simp only [State.commitHold]
  split <;> split <;> simp (maxDischargeDepth := 12) [h]

@[simp] theorem State.SameTransactions.latePassage (h : s.SameTransactions t) (l : Lane) : s.SameTransactions (t.latePassage l) := by
  simp (maxDischargeDepth := 12) [State.latePassage, h]

@[simp] theorem State.SameTransactions.unpairedPassage (h : s.SameTransactions t) (l : Lane) : s.SameTransactions (t.unpairedPassage l) := by
  simp only [State.unpairedPassage]
  split <;> simp (maxDischargeDepth := 12) [h]

@[simp] theorem State.SameTransactions.expireHold (h : s.SameTransactions t) (l : Lane) (x : Hold) : s.SameTransactions (t.expireHold l x) := by
  simp (maxDischargeDepth := 12) [State.expireHold, h]

@[simp] theorem State.SameTransactions.moveLane (h : s.SameTransactions t) (l : Lane) (x : LaneState) (d : Option Dwell) : s.SameTransactions (t.moveLane l x d) := by
  simp only [State.moveLane]
  split <;> simp (maxDischargeDepth := 12) [h]

@[simp] theorem State.SameTransactions.modReader (h : s.SameTransactions t) (l : Lane) (f : LaneRec → LaneRec) : s.SameTransactions (t.modReader l f) := by
  simp (maxDischargeDepth := 12) [State.modReader, h]

@[simp] theorem State.SameTransactions.raiseRun (h : s.SameTransactions t) (l : Lane) : s.SameTransactions (t.raiseRun l) := by
  simp (maxDischargeDepth := 12) [State.raiseRun, h]

@[simp] theorem State.SameTransactions.clearRun (h : s.SameTransactions t) (l : Lane) : s.SameTransactions (t.clearRun l) := by
  simp (maxDischargeDepth := 12) [State.clearRun, h]

@[simp] theorem State.SameTransactions.writeProfile (h : s.SameTransactions t) (l : Lane) (p : Profile) : s.SameTransactions (t.writeProfile l p) := by
  simp (maxDischargeDepth := 12) [State.writeProfile, h]

@[simp] theorem State.SameTransactions.nameState (h : s.SameTransactions t) (l : Lane) (c : Option WorkState) : s.SameTransactions (t.nameState l c) := by
  unfold State.nameState
  repeat' split
  all_goals simp (maxDischargeDepth := 12) [h]

@[simp] theorem State.SameTransactions.track (h : s.SameTransactions t) (l : Lane) (n : Nat) : s.SameTransactions ((t.track l n).1) := by
  simp only [State.track]
  split <;> simp (maxDischargeDepth := 12) [h]

@[simp] theorem State.SameTransactions.setLanes (h : s.SameTransactions t) (ls : List Lane) (c : Option WorkState) (p : Profile) : s.SameTransactions (t.setLanes ls c p) := by
  exact State.SameTransactions.foldl (by simpa using h.foldl State.releaseHold (fun u a hu => hu.releaseHold a) _) _
    (fun u a hu => by simp (maxDischargeDepth := 12) [hu]) _

@[simp] theorem State.SameTransactions.deadlineTest (h : s.SameTransactions t) : s.SameTransactions (t.deadlineTest) := by
  unfold State.deadlineTest
  repeat' split
  all_goals simp (maxDischargeDepth := 12) [h]

@[simp] theorem State.SameTransactions.setFreeSlots (h : s.SameTransactions t) (n : Nat) : s.SameTransactions (t.setFreeSlots n) := by
  simp only [State.setFreeSlots]; simp (maxDischargeDepth := 12) [h]

@[simp] theorem State.SameTransactions.startSweep (h : s.SameTransactions t) : s.SameTransactions (t.startSweep) := by
  unfold State.startSweep
  repeat' split
  all_goals simp (maxDischargeDepth := 12) [h]

@[simp] theorem State.SameTransactions.retire (h : s.SameTransactions t) (n : Nat) (e : Entry) : s.SameTransactions (t.retire n e) := by
  simp only [State.retire]; simp (maxDischargeDepth := 12) [h]

@[simp] theorem State.SameTransactions.visitSlot (h : s.SameTransactions t) (n : Nat) : s.SameTransactions (t.visitSlot n) := by
  simp only [State.visitSlot]
  repeat' split
  all_goals simp (maxDischargeDepth := 12) [h]

@[simp] theorem State.SameTransactions.endBatch (h : s.SameTransactions t) (n : Nat) : s.SameTransactions (t.endBatch n) := by
  unfold State.endBatch
  repeat' split
  all_goals simp (maxDischargeDepth := 12) [h]

@[simp] theorem State.SameTransactions.sweepBatch (h : s.SameTransactions t) : s.SameTransactions (t.sweepBatch) := by
  unfold State.sweepBatch
  split
  · exact h
  · exact (h.foldl State.visitSlot (fun u n hu => hu.visitSlot n) _).endBatch _

@[simp] theorem State.SameTransactions.place (h : s.SameTransactions t) (n : Nat) (e : Entry) : s.SameTransactions (t.place n e) := by
  simp (maxDischargeDepth := 12) [State.place, h]

@[simp] theorem State.SameTransactions.grant (h : s.SameTransactions t) (l : Lane) (n : Nat) (e : Entry) (q : LiveState) : s.SameTransactions (t.grant l n e q) := by
  simp only [State.grant]; simp (maxDischargeDepth := 12) [h]

@[simp] theorem State.SameTransactions.countVerdict (h : s.SameTransactions t) (v : Code) (l : Lane) : s.SameTransactions (t.countVerdict v l) := by
  unfold State.countVerdict
  repeat' split
  all_goals simp (maxDischargeDepth := 12) [h]

@[simp] theorem State.SameTransactions.presentTracked (h : s.SameTransactions t) (v : Code) (l : Lane) (n pass : Nat) : s.SameTransactions ((t.presentTracked v l n pass).1) := by
  simp (maxDischargeDepth := 12) [State.presentTracked, h]

@[simp] theorem State.SameTransactions.presentAdmit (h : s.SameTransactions t) (l : Lane) (n : Nat) (e : Entry) (q : LiveState) : s.SameTransactions ((t.presentAdmit l n e q).1) := by
  unfold State.presentAdmit
  split <;> simp (maxDischargeDepth := 12) [h]

@[simp] theorem State.SameTransactions.presentFound (h : s.SameTransactions t) (v : Code) (l : Lane) (n : Nat) (e : Entry) : s.SameTransactions ((t.presentFound v l n e).1) := by
  unfold State.presentFound
  repeat' split
  all_goals simp (maxDischargeDepth := 12) [h]

@[simp] theorem State.SameTransactions.presentCard (h : s.SameTransactions t) (l : Lane) (c : Card) : s.SameTransactions ((t.presentCard l c).1) := by
  unfold State.presentCard
  repeat' split
  all_goals simp (maxDischargeDepth := 12) [h]

@[simp] theorem State.SameTransactions.present (h : s.SameTransactions t) (l : Lane) (x : Image) : s.SameTransactions ((t.present l x).1) := by
  unfold State.present State.presentUnreadable
  repeat' split
  all_goals simp (maxDischargeDepth := 12) [h]

@[simp] theorem State.SameTransactions.tickClock (h : s.SameTransactions t) : s.SameTransactions (t.tickClock) := by
  simp only [State.tickClock]
  split
  · simp (maxDischargeDepth := 12) [h]
  · split <;> simp (maxDischargeDepth := 12) [h]

@[simp] theorem State.SameTransactions.clocked (h : s.SameTransactions t) (x : LiftLines) : s.SameTransactions (t.clocked x) := by
  simp (maxDischargeDepth := 12) [State.clocked, h]

@[simp] theorem State.SameTransactions.tickSweep (h : s.SameTransactions t) (b : Bool) : s.SameTransactions (t.tickSweep b) := by
  unfold State.tickSweep
  repeat' split
  all_goals simp (maxDischargeDepth := 12) [h]

@[simp] theorem State.SameTransactions.tickAll (h : s.SameTransactions t) (x : LiftLines) : s.SameTransactions (t.tickAll x) := by
  simp (maxDischargeDepth := 12) [State.tickAll, allLifts, h]


@[simp] theorem State.SameTransactions.passed (h : s.SameTransactions t) (p : List Byte) : s.SameTransactions (t.passed p).1 := by
  simp only [State.passed]
  repeat' split
  all_goals simp (maxDischargeDepth := 12) [h]

@[simp] theorem State.SameTransactions.release (h : s.SameTransactions t) (p : List Byte) : s.SameTransactions (t.release p).1 := by
  simp only [State.release]
  repeat' split
  all_goals simp (maxDischargeDepth := 12) [h]

@[simp] theorem State.SameTransactions.jam (h : s.SameTransactions t) (p : List Byte) : s.SameTransactions (t.jam p).1 := by
  simp only [State.jam]
  repeat' split
  all_goals simp (maxDischargeDepth := 12) [h]

@[simp] theorem State.SameTransactions.clearJam (h : s.SameTransactions t) (p : List Byte) : s.SameTransactions (t.clearJam p).1 := by
  simp only [State.clearJam]
  repeat' split
  all_goals simp (maxDischargeDepth := 12) [h]

@[simp] theorem State.SameTransactions.issue (h : s.SameTransactions t) (p : List Byte) : s.SameTransactions (t.issue p).1 := by
  simp only [State.issue]
  repeat' split
  all_goals simp (maxDischargeDepth := 12) [h]

@[simp] theorem State.SameTransactions.reissue (h : s.SameTransactions t) (p : List Byte) : s.SameTransactions (t.reissue p).1 := by
  simp only [State.reissue]
  repeat' split
  all_goals simp (maxDischargeDepth := 12) [h]

@[simp] theorem State.SameTransactions.suspend (h : s.SameTransactions t) (p : List Byte) : s.SameTransactions (t.suspend p).1 := by
  simp only [State.suspend]
  repeat' split
  all_goals simp (maxDischargeDepth := 12) [h]

@[simp] theorem State.SameTransactions.resume (h : s.SameTransactions t) (p : List Byte) : s.SameTransactions (t.resume p).1 := by
  simp only [State.resume]
  repeat' split
  all_goals simp (maxDischargeDepth := 12) [h]

@[simp] theorem State.SameTransactions.restore (h : s.SameTransactions t) (p : List Byte) : s.SameTransactions (t.restore p).1 := by
  simp only [State.restore]
  repeat' split
  all_goals simp (maxDischargeDepth := 12) [h]

@[simp] theorem State.SameTransactions.addUse (h : s.SameTransactions t) (p : List Byte) : s.SameTransactions (t.addUse p).1 := by
  simp only [State.addUse]
  repeat' split
  all_goals simp (maxDischargeDepth := 12) [h]

@[simp] theorem State.SameTransactions.inquire (h : s.SameTransactions t) (p : List Byte) : s.SameTransactions (t.inquire p).1 := by
  simp only [State.inquire]
  repeat' split
  all_goals simp (maxDischargeDepth := 12) [h]

@[simp] theorem State.SameTransactions.refund (h : s.SameTransactions t) (p : List Byte) : s.SameTransactions (t.refund p).1 := by
  simp only [State.refund, State.refundValued]
  repeat' split
  all_goals simp (maxDischargeDepth := 12) [h]

@[simp] theorem State.SameTransactions.setLaneRequest (h : s.SameTransactions t) (p : List Byte) : s.SameTransactions (t.setLaneRequest p).1 := by
  simp only [State.setLaneRequest]
  all_goals simp (maxDischargeDepth := 12) [h]

@[simp] theorem State.SameTransactions.loadProduct (h : s.SameTransactions t) (p : List Byte) : s.SameTransactions (t.loadProduct p).1 := by
  simp only [State.loadProduct]
  repeat' split
  all_goals simp (maxDischargeDepth := 12) [h]

@[simp] theorem State.SameTransactions.setResort (h : s.SameTransactions t) (p : List Byte) : s.SameTransactions (t.setResort p).1 := by
  simp (maxDischargeDepth := 12) [State.setResort, h]

@[simp] theorem State.SameTransactions.setClock (h : s.SameTransactions t) (p : List Byte) : s.SameTransactions (t.setClock p).1 := by
  simp only [State.setClock]
  repeat' split
  all_goals simp (maxDischargeDepth := 12) [h]

@[simp] theorem State.SameTransactions.loadCalendar (h : s.SameTransactions t) (p : List Byte) : s.SameTransactions (t.loadCalendar p).1 := by
  simp only [State.loadCalendar, State.loadCalendarBase, State.loadCalendarRuns]
  repeat' split
  all_goals simp (maxDischargeDepth := 12) [h]

@[simp] theorem State.SameTransactions.setScheme (h : s.SameTransactions t) (p : List Byte) : s.SameTransactions (t.setScheme p).1 := by
  simp only [State.setScheme]
  repeat' split
  all_goals simp (maxDischargeDepth := 12) [h]

@[simp] theorem State.SameTransactions.setLiftRequest (h : s.SameTransactions t) (p : List Byte) : s.SameTransactions (t.setLiftRequest p).1 := by
  simp only [State.setLiftRequest]
  repeat' split
  all_goals simp (maxDischargeDepth := 12) [h]

@[simp] theorem State.SameTransactions.setReport (h : s.SameTransactions t) (p : List Byte) : s.SameTransactions (t.setReport p).1 := by
  simp only [State.setReport]
  repeat' split
  all_goals simp (maxDischargeDepth := 12) [h]

@[simp] theorem State.SameTransactions.readCounts (h : s.SameTransactions t) (p : List Byte) : s.SameTransactions (t.readCounts p).1 := by
  simp only [State.readCounts]
  repeat' split
  all_goals simp (maxDischargeDepth := 12) [h]

@[simp] theorem State.SameTransactions.loadTariff (h : s.SameTransactions t) (p : List Byte) : s.SameTransactions (t.loadTariff p).1 := by
  simp only [State.loadTariff]
  repeat' split
  all_goals simp (maxDischargeDepth := 12) [h]

@[simp] theorem State.SameTransactions.setStorePolicy (h : s.SameTransactions t) (p : List Byte) : s.SameTransactions (t.setStorePolicy p).1 := by
  simp (maxDischargeDepth := 12) [State.setStorePolicy, h]

@[simp] theorem State.SameTransactions.takeSnapshot (h : s.SameTransactions t) : s.SameTransactions t.takeSnapshot.1 := by
  simp only [State.takeSnapshot]
  split <;> simp [h]

@[simp] theorem State.SameTransactions.expire (h : s.SameTransactions t) (x : Expiry) : s.SameTransactions (t.expire x) := by
  simp only [State.expire]
  repeat' split
  all_goals simp (maxDischargeDepth := 12) [h]

end

end Sys2Proof.Machine

/-! The arbiter: what it can grant, and that what it grants is eligible (R164 to R167). -/

namespace Sys2Proof.Machine

/-! ### The member with the lowest stamp -/

theorem oldest_eq_none {α : Type} {stamp : α → Nat} {l : List α} : oldest stamp l = none ↔ l = [] := by
  cases l with
  | nil => simp [oldest]
  | cons x rest =>
    simp only [oldest, reduceCtorEq, iff_false]
    split
    · simp
    · split <;> simp

/-- The oldest is a member, and no member has a lower stamp (R167). -/
theorem oldest_spec {α : Type} {stamp : α → Nat} {l : List α} {x : α} (h : oldest stamp l = some x) :
    x ∈ l ∧ ∀ y ∈ l, stamp x ≤ stamp y := by
  induction l generalizing x with
  | nil => simp [oldest] at h
  | cons y rest ih =>
    simp only [oldest] at h
    split at h
    next hrest =>
      rw [oldest_eq_none] at hrest
      obtain rfl : y = x := by simpa using h
      simp [hrest]
    next z hz =>
      obtain ⟨hmem, hmin⟩ := ih hz
      split at h
      next hlt =>
        obtain rfl : z = x := by simpa using h
        refine ⟨List.mem_cons_of_mem _ hmem, fun w hw => ?_⟩
        rcases List.mem_cons.1 hw with rfl | hw
        · exact Nat.le_of_lt hlt
        · exact hmin w hw
      next hlt =>
        obtain rfl : y = x := by simpa using h
        refine ⟨List.mem_cons_self, fun w hw => ?_⟩
        rcases List.mem_cons.1 hw with rfl | hw
        · exact Nat.le_refl _
        · exact (Nat.le_of_not_lt hlt).trans (hmin w hw)

/-! ### Requests that wait for the store -/

theorem mem_storeReqsOf {p : Port} {ws : List Waiting} {i : Nat} {r : StoreReq} :
    r ∈ storeReqsOf p i ws ↔ r.port = p ∧ i ≤ r.index ∧ ws[r.index - i]? = some { frame := r.frame, role := .store r.stamp } := by
  induction ws generalizing i with
  | nil => simp [storeReqsOf]
  | cons w ws ih =>
    have hlater : i ≠ r.index → (i ≤ r.index ↔ i + 1 ≤ r.index) := by omega
    have hshift : i + 1 ≤ r.index → (w :: ws)[r.index - i]? = ws[r.index - (i + 1)]? := fun h => by
      rw [show r.index - i = (r.index - (i + 1)) + 1 by omega, List.getElem?_cons_succ]
    have hskip : r ∈ storeReqsOf p (i + 1) ws ↔
        i ≠ r.index ∧ r.port = p ∧ i ≤ r.index ∧ (w :: ws)[r.index - i]? = some { frame := r.frame, role := .store r.stamp } := by
      rw [ih]
      constructor
      · rintro ⟨hp, hi, hw⟩
        exact ⟨by omega, hp, by omega, (hshift hi).trans hw⟩
      · rintro ⟨hne, hp, hi, hw⟩
        have hi' : i + 1 ≤ r.index := (hlater hne).1 hi
        exact ⟨hp, hi', (hshift hi').symm.trans hw⟩
    obtain ⟨f, role⟩ := w
    cases role with
    | store stamp =>
      simp only [storeReqsOf, List.mem_cons, hskip]
      constructor
      · rintro (rfl | h)
        · simp
        · exact h.2
      · intro h
        by_cases hi : i = r.index
        · obtain ⟨port, index, frame, stamp'⟩ := r
          obtain ⟨rfl, -, hw⟩ := h
          subst hi
          simp at hw
          simp [hw]
        · exact .inr ⟨hi, h⟩
    | answered c | served =>
      simp only [storeReqsOf, hskip]
      refine ⟨And.right, fun h => ⟨fun hi => ?_, h⟩⟩
      simp [hi] at h

theorem mem_allPorts (p : Port) : p ∈ allPorts := by
  rcases p with k | _
  · revert k; decide
  · decide

/-- A request waits for the store where a place of a queue holds its frame with its stamp. -/
theorem State.mem_storeReqs {s : State} {r : StoreReq} :
    r ∈ s.storeReqs ↔ (s.port r.port).requests[r.index]? = some { frame := r.frame, role := .store r.stamp } := by
  simp only [State.storeReqs, List.mem_flatMap, mem_storeReqsOf]
  constructor
  · rintro ⟨p, -, rfl, -, h⟩
    exact h
  · intro h
    exact ⟨r.port, mem_allPorts _, rfl, Nat.zero_le _, h⟩

theorem State.mem_eligibleOf {s : State} {k : StoreClass} {r : StoreReq} :
    r ∈ s.eligibleOf k ↔ r ∈ s.storeReqs ∧ r.storeClass = some k ∧ s.eligible r = true := by
  simp [State.eligibleOf]

/-- What is eligible has a free response place (R164). -/
theorem State.eligible_hasPlace {s : State} {r : StoreReq} (h : s.eligible r = true) :
    (s.port r.port).responses.length < Config.queuePlaces := by
  simp only [State.eligible, Bool.and_eq_true] at h
  simpa [State.hasPlace] using h.1

/-- What waits for a hold is eligible only while no hold is open on its pass (R166). -/
theorem State.eligible_noHold {s : State} {r : StoreReq} {k : ReqKind} {n : Nat} (h : s.eligible r = true)
    (hk : r.kind? = some k) (hwaits : k.waitsForHold = true) (hn : r.pass? = some n) : s.holdOpenOn n = false := by
  simp only [State.eligible, hn, hk, Option.any_some, hwaits, Bool.true_and, Bool.and_eq_true, Bool.not_eq_true'] at h
  exact h.2.2

/-! ### What is selected -/

/-- The request that the arbiter selects waits and is eligible; in the B-or-C case it is of class B or C (R167, R168). -/
theorem State.select_request {s : State} {r : StoreReq} (h : s.select = some (.request r)) :
    r ∈ s.storeReqs ∧ s.eligible r = true ∧ s.batchDue = false
      ∧ (oldest StoreReq.stamp (s.eligibleOf .a) = some r ∧ (∀ x ∈ s.arbiter.expiries, r.stamp ≤ x.stamp)
        ∨ s.oldestA = none ∧ s.contested = some r) := by
  unfold State.select at h
  split at h
  · simp at h
  next hdue =>
    have hdue : s.batchDue = false := by simpa using hdue
    split at h
    next g hg =>
      obtain rfl : g = .request r := by simpa using h
      unfold State.oldestA at hg
      split at hg
      next r' x hr hx =>
        split at hg
        · simp at hg
        next hlt =>
          obtain rfl : r' = r := by simpa using hg
          have hmem := State.mem_eligibleOf.1 (oldest_spec hr).1
          exact ⟨hmem.1, hmem.2.2, hdue, .inl ⟨hr, fun y hy => by have := (oldest_spec hx).2 y hy; omega⟩⟩
      next r' hr hx =>
        obtain rfl : r' = r := by simpa using hg
        have hmem := State.mem_eligibleOf.1 (oldest_spec hr).1
        rw [oldest_eq_none] at hx
        exact ⟨hmem.1, hmem.2.2, hdue, .inl ⟨hr, by simp [hx]⟩⟩
      · simp at hg
      · simp at hg
    next ha =>
      split at h
      next r' hr =>
        obtain rfl : r' = r := by simpa using h
        refine ⟨?_, ?_, hdue, .inr ⟨ha, hr⟩⟩ <;>
        · unfold State.contested at hr
          split at hr
          next b c hb hc =>
            have hb := State.mem_eligibleOf.1 (oldest_spec hb).1
            have hc := State.mem_eligibleOf.1 (oldest_spec hc).1
            split at hr <;> simp_all
          next b hb hc =>
            have hb := State.mem_eligibleOf.1 (oldest_spec hb).1
            simp_all
          next c hb hc =>
            have hc := State.mem_eligibleOf.1 (oldest_spec hc).1
            simp_all
          · simp at hr
      · split at h <;> simp at h

theorem State.grantable_eq_some {s : State} {sel : Frame → Bool} {r : StoreReq} :
    s.grantable sel = some r ↔ s.select = some (.request r) ∧ sel r.frame = true := by
  unfold State.grantable
  split
  next q hq =>
    by_cases hsel : sel q.frame = true
    · simp only [hsel, if_true, Option.some.injEq, hq, Grant.request.injEq]
      exact ⟨fun h => ⟨h, h ▸ hsel⟩, And.left⟩
    · simp only [hsel, if_false, hq, Option.some.injEq, Grant.request.injEq, Bool.false_eq_true, reduceCtorEq, false_iff]
      rintro ⟨rfl, h⟩
      exact hsel h
  next hno =>
    simp only [reduceCtorEq, false_iff]
    rintro ⟨h, -⟩
    exact hno r h

/-- What the arbiter grants is eligible, waits for the store and is what was asked for (R164, R167). -/
theorem State.grantable_eligible {s : State} {sel : Frame → Bool} {r : StoreReq} (h : s.grantable sel = some r) :
    s.eligible r = true ∧ r ∈ s.storeReqs ∧ sel r.frame = true := by
  obtain ⟨hselect, hsel⟩ := State.grantable_eq_some.1 h
  obtain ⟨hmem, helig, -⟩ := State.select_request hselect
  exact ⟨helig, hmem, hsel⟩

theorem isKind_iff {k : ReqKind} {f : Frame} : isKind k f = true ↔ ReqKind.ofCode f.kind = some k := by
  simp [isKind]

/-- The expiry that the arbiter selects is the oldest that waits, with no older eligible class A request (R167). -/
theorem State.select_expiry {s : State} {x : Expiry} (h : s.select = some (.expiry x)) :
    x ∈ s.arbiter.expiries ∧ (∀ y ∈ s.arbiter.expiries, x.stamp ≤ y.stamp) ∧ s.batchDue = false
      ∧ ∀ r ∈ s.eligibleOf .a, x.stamp < r.stamp := by
  unfold State.select at h
  split at h
  · simp at h
  next hdue =>
    have hdue : s.batchDue = false := by simpa using hdue
    split at h
    next g hg =>
      obtain rfl : g = .expiry x := by simpa using h
      unfold State.oldestA at hg
      split at hg
      next r y hr hy =>
        split at hg
        next hlt =>
          obtain rfl : y = x := by simpa using hg
          exact ⟨(oldest_spec hy).1, (oldest_spec hy).2, hdue, fun q hq => hlt.trans_le ((oldest_spec hr).2 q hq)⟩
        · simp at hg
      · simp at hg
      next y hr hy =>
        obtain rfl : y = x := by simpa using hg
        rw [oldest_eq_none] at hr
        exact ⟨(oldest_spec hy).1, (oldest_spec hy).2, hdue, by simp [hr]⟩
      · simp at hg
    next ha =>
      split at h
      · simp at h
      · split at h <;> simp at h

theorem State.grantableExpiry_eq_some {s : State} {x : Expiry} : s.grantableExpiry = some x ↔ s.select = some (.expiry x) := by
  unfold State.grantableExpiry
  split
  next y hy => simp [hy]
  next hno =>
    simp only [reduceCtorEq, false_iff]
    exact hno x

end Sys2Proof.Machine

/-! What a step can do to the pass store, the use history, the holds and the balance of a lane: a path of the moves listed here, so
that each invariant of these is proved once for every move. -/

namespace Sys2Proof.Machine

/-! ### Changes that the invariants of the pass store do not see -/

/-- The counters in the balance of R140. -/
def balanceCounters : List LaneCounter := [.granted, .committed, .released, .expired]

/-- From `s` to `t` no entry, granule, hold, lane state or balance counter changes; the clock goes on. -/
structure State.Quiet (s t : State) : Prop where
  slots     : t.slots = s.slots
  freeSlots : t.freeSlots = s.freeSlots
  history   : t.history = s.history
  hold      : ∀ l, (t.lane l).hold = (s.lane l).hold
  state     : ∀ l, (t.lane l).state = (s.lane l).state
  day       : ∀ l, ∀ k ∈ balanceCounters, t.dayCount l k = s.dayCount l k
  grants    : s.arbiter.nextGrant ≤ t.arbiter.nextGrant
  clock     : s.clock.ok → t.clock.ok ∧ s.clock.day ≤ t.clock.day

@[refl] theorem State.Quiet.refl (s : State) : s.Quiet s :=
  ⟨rfl, rfl, rfl, fun _ => rfl, fun _ => rfl, fun _ _ _ => rfl, Nat.le_refl _, fun h => ⟨h, Nat.le_refl _⟩⟩

theorem State.Quiet.trans {s t u : State} (h : s.Quiet t) (h' : t.Quiet u) : s.Quiet u where
  slots := h'.slots.trans h.slots
  freeSlots := h'.freeSlots.trans h.freeSlots
  history := h'.history.trans h.history
  hold l := (h'.hold l).trans (h.hold l)
  state l := (h'.state l).trans (h.state l)
  day l k hk := (h'.day l k hk).trans (h.day l k hk)
  grants := h.grants.trans h'.grants
  clock hok := ⟨(h'.clock (h.clock hok).1).1, (h.clock hok).2.trans (h'.clock (h.clock hok).1).2⟩

theorem State.Quiet.entryAt {s t : State} (h : s.Quiet t) (n : Nat) : t.entryAt n = s.entryAt n := by
  simp [State.entryAt, h.slots]

/-- Most operations leave the count unit, the arbiter and the clock whole. -/
theorem State.Quiet.of_frame {s t : State} (hslots : t.slots = s.slots) (hfree : t.freeSlots = s.freeSlots)
    (hhistory : t.history = s.history) (hlane : ∀ l, (t.lane l).hold = (s.lane l).hold ∧ (t.lane l).state = (s.lane l).state)
    (hcounts : t.counts = s.counts) (harbiter : t.arbiter = s.arbiter) (hclock : t.clock = s.clock) : s.Quiet t where
  slots := hslots
  freeSlots := hfree
  history := hhistory
  hold l := (hlane l).1
  state l := (hlane l).2
  day l k _ := State.dayCount_congr hcounts l k
  grants := by rw [harbiter]
  clock hok := by rw [hclock]; exact ⟨hok, Nat.le_refl _⟩

/-- A change outside the pass store, the history, the lanes, the counts, the arbiter and the clock is quiet. -/
theorem State.Quiet.of_onlyChanges {ps : List Part} {s t : State} (h : onlyChanges ps s t)
    (hps : ∀ p ∈ [Part.slots, .freeSlots, .history, .lanes, .counts, .arbiter, .clock], p ∉ ps) : s.Quiet t := by
  simp only [List.forall_mem_cons, List.not_mem_nil, false_imp_iff, implies_true, and_true] at hps
  obtain ⟨hslots, hfree, hhistory, hlanes, hcounts, harbiter, hclock⟩ := hps
  refine .of_frame (h _ hslots) (h _ hfree) (h _ hhistory) (fun l => ?_) (h _ hcounts) (h _ harbiter) (h _ hclock)
  have hsame : t.lanes = s.lanes := h _ hlanes
  simp [State.lane, hsame]

section

variable (s : State)

theorem State.withPending_quiet (x : List Instr) : s.Quiet (s.withPending x) :=
  .of_frame (by simp) (by simp) (by simp) (by simp) (by simp) (by simp) (by simp)

theorem State.withPins_quiet (x : Pins) : s.Quiet (s.withPins x) :=
  .of_frame (by simp) (by simp) (by simp) (by simp) (by simp) (by simp) (by simp)

theorem State.raise_quiet (e : Event) : s.Quiet (s.raise e) :=
  .of_frame (by simp) (by simp) (by simp) (by simp) (by simp) (by simp) (by simp)

theorem State.raiseDevice_quiet (d : DeviceEvent) : s.Quiet (s.raiseDevice d) := s.raise_quiet _

theorem State.handLevel_quiet (e : Event) (before after : Bool) : s.Quiet (s.handLevel e before after) :=
  .of_frame (by simp) (by simp) (by simp) (by simp) (by simp) (by simp) (by simp)

theorem State.judgeLevel_quiet (e : Event) (before after : Bool) : s.Quiet (s.judgeLevel e before after) :=
  .of_frame (by simp) (by simp) (by simp) (by simp) (by simp) (by simp) (by simp)

theorem State.modPort_quiet (p : Port) (f : PortRec → PortRec) : s.Quiet (s.modPort p f) :=
  .of_frame (by simp) (by simp) (by simp) (by simp) (by simp) (by simp) (by simp)

theorem State.setLift_quiet (f : Lift) (r : LiftRec) : s.Quiet (s.setLift f r) :=
  .of_frame (by simp) (by simp) (by simp) (by simp) (by simp) (by simp) (by simp)

theorem State.takePace_quiet (f : Lift) : s.Quiet (s.takePace f) := s.setLift_quiet _ _

theorem State.givePace_quiet (f : Lift) : s.Quiet (s.givePace f) := s.setLift_quiet _ _

theorem State.toMust_quiet : s.Quiet s.toMust :=
  .of_frame (by simp) (by simp) (by simp) (by simp) (by simp) (by simp) (by simp)

theorem State.tableLowTest_quiet : s.Quiet s.tableLowTest :=
  .of_frame (by simp) (by simp) (by simp) (by simp) (by simp) (by simp) (by simp)

theorem State.deadlineTest_quiet : s.Quiet s.deadlineTest :=
  .of_frame (by simp) (by simp) (by simp) (by simp) (by simp) (by simp) (by simp)

theorem State.startSweep_quiet : s.Quiet s.startSweep :=
  .of_frame (by simp) (by simp) (by simp) (by simp) (by simp) (by simp) (by simp)

theorem State.tickSweep_quiet (rolled : Bool) : s.Quiet (s.tickSweep rolled) :=
  .of_frame (by simp) (by simp) (by simp) (by simp) (by simp) (by simp) (by simp)

theorem State.endBatch_quiet (cursor : Nat) : s.Quiet (s.endBatch cursor) :=
  .of_frame (by simp) (by simp) (by simp) (by simp) (by simp) (by simp) (by simp)

theorem State.drewOrder_quiet (ls : List Lane) : s.Quiet (s.drewOrder ls) :=
  .of_frame (by simp) (by simp) (by simp) (by simp) (by simp) (by simp) (by simp)

theorem State.tickLift_quiet (lines : LiftLines) (f : Lift) : s.Quiet (s.tickLift lines f) :=
  .of_frame (by simp) (by simp) (by simp) (by simp) (by simp) (by simp) (by simp)

/-- A lane whose hold record and state stay. -/
theorem State.modLane_quiet (l : Lane) (f : LaneRec → LaneRec) (hold : (f (s.lane l)).hold = (s.lane l).hold)
    (hstate : (f (s.lane l)).state = (s.lane l).state) : s.Quiet (s.modLane l f) := by
  refine .of_frame (by simp) (by simp) (by simp) (fun m => ?_) (by simp) (by simp) (by simp)
  by_cases hm : m = l <;> simp [hm, hold, hstate]

theorem State.modReader_quiet (l : Lane) (f : LaneRec → LaneRec) (hold : (f (s.lane l)).hold = (s.lane l).hold)
    (hstate : (f (s.lane l)).state = (s.lane l).state) : s.Quiet (s.modReader l f) :=
  (s.modLane_quiet l f hold hstate).trans (State.judgeLevel_quiet _ _ _ _)

theorem State.raiseRun_quiet (l : Lane) : s.Quiet (s.raiseRun l) := s.modReader_quiet l _ rfl rfl

theorem State.clearRun_quiet (l : Lane) : s.Quiet (s.clearRun l) := s.modReader_quiet l _ rfl rfl

theorem State.writeProfile_quiet (l : Lane) (p : Profile) : s.Quiet (s.writeProfile l p) := s.modReader_quiet l _ rfl rfl

theorem State.setLate_quiet (l : Lane) (x : Option LateRecord) : s.Quiet (s.setLate l x) := s.modLane_quiet l _ rfl rfl

theorem State.setDwell_quiet (l : Lane) (d : Option Dwell) : s.Quiet (s.setDwell l d) := s.modLane_quiet l _ rfl rfl

theorem State.endOtherDwell_quiet (l : Lane) (pass : Nat) : s.Quiet (s.endOtherDwell l pass) := by
  unfold State.endOtherDwell
  split
  · rfl
  · split
    · rfl
    · exact s.setDwell_quiet l none

/-- What changes the count unit alone and leaves the balance counters of the day set is quiet. -/
theorem State.Quiet.of_counts {s t : State} (h : onlyChanges [.counts, .gates, .office] s t)
    (hday : ∀ l, ∀ k ∈ balanceCounters, t.dayCount l k = s.dayCount l k) : s.Quiet t := by
  have hlanes : t.lanes = s.lanes := h .lanes (by decide)
  have harbiter : t.arbiter = s.arbiter := h .arbiter (by decide)
  have hclock : t.clock = s.clock := h .clock (by decide)
  exact ⟨h .slots (by decide), h .freeSlots (by decide), h .history (by decide), fun l => by simp [State.lane, hlanes],
    fun l => by simp [State.lane, hlanes], hday, by rw [harbiter], fun hok => by rw [hclock]; exact ⟨hok, Nat.le_refl _⟩⟩

theorem State.countLane_quiet (l : Lane) {k : LaneCounter} (hk : k ∉ balanceCounters) : s.Quiet (s.countLane l k) := by
  refine .of_counts (by simp [onlyChanges_iff]) fun m j hj => ?_
  have hne : j ≠ k := fun h => hk (h ▸ hj)
  simp [hne]

theorem State.countLift_quiet (f : Lift) (k : LiftCounter) : s.Quiet (s.countLift f k) :=
  .of_counts (by simp [onlyChanges_iff]) (by simp)

/-- To the balance it makes no difference whether an event is counted in both sets or in the day set alone. -/
theorem State.countDayOnly_quiet_countLane (l : Lane) (k : LaneCounter) : (s.countDayOnly l k).Quiet (s.countLane l k) :=
  .of_counts (by simp [onlyChanges_iff]) (by simp)

theorem State.transfer_quiet : s.Quiet s.transfer := .of_counts (by simp [onlyChanges_iff]) (by simp)

theorem State.tickTimer_quiet : s.Quiet s.tickTimer := .of_counts (by simp [onlyChanges_iff]) (by simp)

theorem State.countVerdict_quiet (v : Code) (l : Lane) : s.Quiet (s.countVerdict v l) := by
  unfold State.countVerdict
  split
  · rfl
  · rfl
  · rfl
  · exact (s.countLane_quiet l (by decide)).trans (State.countLift_quiet _ _ _)
  · exact s.countLane_quiet l (by decide)

/-- A grant raises the grant number, and nothing else that the invariants of the pass store see. -/
theorem State.charge_quiet (g : Grant) : s.Quiet (s.charge g) := by
  refine ⟨by simp, by simp, by simp, by simp, by simp, fun l k _ => State.dayCount_congr (by simp) l k, ?_, ?_⟩
  · simp [State.charge, State.setWalk]
  · simp

@[simp] theorem State.charge_nextGrant (g : Grant) : (s.charge g).arbiter.nextGrant = s.arbiter.nextGrant + 1 := by
  simp [State.charge, State.setWalk]

theorem State.complete_quiet (p : Port) (i : Nat) (f : Frame) (bs : List Byte) : s.Quiet (s.complete p i f bs) := s.modPort_quiet _ _

/-! ### The clock -/

theorem Clock.ticked_ok {c : Clock} (h : c.ok) : c.ticked.ok ∧ c.day ≤ c.ticked.day := by
  obtain ⟨hday, hsec, hticks, hunset, hstalled⟩ := h
  have hcount : (c.ticks + 1) % 4294967296 < 4294967296 := Nat.mod_lt _ (by decide)
  unfold Clock.ticked
  dsimp only
  split
  next hrolls =>
    simp only [Clock.rolls, Bool.and_eq_true, beq_iff_eq, decide_eq_true_eq, Bool.not_eq_true'] at hrolls
    obtain ⟨⟨⟨hrun, hgoes⟩, -⟩, hlast⟩ := hrolls
    exact ⟨⟨by dsimp only; omega, by simp, hcount, by simp [hrun], by simp [hgoes]⟩, by simp⟩
  split
  next hstalls =>
    simp only [Clock.stalls, Bool.and_eq_true, beq_iff_eq, decide_eq_true_eq, Bool.not_eq_true'] at hstalls
    obtain ⟨⟨⟨hrun, -⟩, hlast⟩, htop⟩ := hstalls
    exact ⟨⟨hday, hsec, hcount, by simp [hrun], fun _ => ⟨by dsimp only; omega, by dsimp only; omega⟩⟩, Nat.le_refl _⟩
  split
  next hadv =>
    simp only [Clock.advances, Bool.and_eq_true, beq_iff_eq, decide_eq_true_eq, Bool.not_eq_true'] at hadv
    obtain ⟨⟨hrun, hgoes⟩, hlt⟩ := hadv
    exact ⟨⟨hday, by dsimp only; omega, hcount, by simp [hrun], by simp [hgoes]⟩, Nat.le_refl _⟩
  · exact ⟨⟨hday, hsec, hcount, hunset, hstalled⟩, Nat.le_refl _⟩

theorem State.withClock_quiet {x : Clock} (h : s.clock.ok → x.ok ∧ s.clock.day ≤ x.day) : s.Quiet (s.withClock x) :=
  ⟨by simp, by simp, by simp, by simp, by simp, fun l k _ => State.dayCount_congr (by simp) l k, by simp, by simpa using h⟩

/-- SET_CLOCK sets the clock within its range, and never back to an earlier day (R45, R46). -/
theorem State.setClock_quiet (p : List Byte) : s.Quiet (s.setClock p).1 := by
  unfold State.setClock
  dsimp only
  split
  · rfl
  next hok =>
    have hok : targetDay p ≤ Config.lastDay ∧ targetSecond p ≤ Config.lastSecond := by simpa [targetOk] using hok
    split
    next hunset =>
      refine s.withClock_quiet fun h => ⟨⟨hok.1, hok.2, h.2.2.1, by simp, by simp⟩, ?_⟩
      have := (h.2.2.2.1 hunset).1
      dsimp only
      omega
    next hrun =>
      split
      · rfl
      · refine .trans (s.withClock_quiet fun h => ?_) (State.deadlineTest_quiet _)
        refine ⟨⟨h.1, hok.2, h.2.2.1, by simp [hrun], ?_⟩, Nat.le_refl _⟩
        dsimp only
        split
        · simp
        · intro hst
          have := h.2.2.2.2 hst
          omega

theorem State.setReport_quiet (p : List Byte) : s.Quiet (s.setReport p).1 := by
  refine .of_counts ((s.setReport_onlyChanges p).mono (by decide)) fun l k _ => ?_
  unfold State.setReport
  dsimp only
  split <;> rfl

theorem State.readCounts_quiet (p : List Byte) : s.Quiet (s.readCounts p).1 := by
  refine .of_counts ((s.readCounts_onlyChanges p).mono (by decide)) fun l k _ => ?_
  unfold State.readCounts
  dsimp only
  split
  · rfl
  · split
    · split <;> rfl
    · rfl
    · rfl

theorem State.takeSnapshot_quiet : s.Quiet s.takeSnapshot.1 := by
  unfold State.takeSnapshot
  split
  · rfl
  · exact s.transfer_quiet

theorem State.setStorePolicy_quiet (p : List Byte) : s.Quiet (s.setStorePolicy p).1 := by
  have hwrite (w : Sweep) (b : Nat) : s.Quiet ((s.withSweep w).withArbiter { (s.withSweep w).arbiter with burstLimit := b }) :=
    ⟨by simp, by simp, by simp, by simp, by simp, fun l k _ => State.dayCount_congr (by simp) l k, by simp, by simp⟩
  exact (hwrite _ _).trans (((State.judgeLevel_quiet _ _ _ _).trans (State.tableLowTest_quiet _)).trans (State.deadlineTest_quiet _))

/-! ### Passages -/

theorem State.latePassage_quiet (l : Lane) : s.Quiet (s.latePassage l) :=
  (((s.countLane_quiet l (by decide)).trans (State.countLift_quiet _ _ _)).trans (State.takePace_quiet _ _)).trans
    (State.setLate_quiet _ _ _)

theorem State.unpairedPassage_quiet (l : Lane) : s.Quiet (s.unpairedPassage l) := by
  unfold State.unpairedPassage
  refine .trans ?_ (((State.countLift_quiet _ _ _).trans (State.takePace_quiet _ _)).trans (State.setLate_quiet _ _ _))
  split
  · exact s.countLane_quiet l (by decide)
  · exact (s.countLane_quiet l (by decide)).trans (State.raise_quiet _ _)

end

end Sys2Proof.Machine

/-! The moves of the pass store, the use history and the holds, and the path of moves that each command takes. -/

namespace Sys2Proof.Machine

/-! ### The moves -/

/-- The records that a request carries stand in order, from `after` (the last-use day of the entry) to `today` (R18, R20). -/
structure NewRecords (rs : List UseRecord) (last : Option Nat) (today : Nat) : Prop where
  nonempty : rs ≠ []
  few      : rs.length ≤ 5
  rising   : (rs.map UseRecord.day).Pairwise (· < ·)
  passed   : ∀ x ∈ rs, x.day ≤ today
  fresh    : ∀ d, last = some d → ∀ x ∈ rs, d < x.day

/-- What a new entry is before any passage: no admission, no marker, and in its ranges whatever the day (R13, R14, R19). -/
structure Entry.New (e : Entry) : Prop where
  marker : e.marker = none
  unused : e.lastAdmit = none
  live   : ∃ q, e.state = .live q
  ok     : ∀ today, (∀ d, e.lastUse = some d → d ≤ today) → e.Ok today

/-- Slot `n` is free, stands in the bucket of the pass, and no entry holds the pass number (R4, R13). -/
structure State.Vacant (s : State) (pass n : Nat) : Prop where
  free   : s.entryAt n = none
  bucket : n ∈ bucketSlots (bucketOf pass)
  absent : s.findSlot pass = none

/-- The conditions of an ADMIT that the invariants rest on (R64 to R76). -/
structure State.Admits (s : State) (l : Lane) (n : Nat) (e : Entry) (q : LiveState) : Prop where
  entry   : s.entryAt n = some e
  live    : e.state = .live q
  marker  : e.marker = none
  hold    : (s.lane l).hold = none
  normal  : (s.lane l).state = .work .normal
  days    : (s.product e.product).kind = .rider → q = .exhausted → e.lastUse = some s.clock.day

/-- What one change of the pass store, the use history, the holds and the balance of a lane can be. -/
inductive State.Move : State → State → Prop where
  /-- None of them changes. -/
  | quiet {s t : State} : s.Quiet t → Move s t
  /-- A grant is charged, and its PRESENT is answered ADMIT (R74 to R77, R83). -/
  | opens {s u : State} {l : Lane} {n : Nat} {e : Entry} {q : LiveState} : s.Quiet u → s.arbiter.nextGrant < u.arbiter.nextGrant →
      u.Admits l n e q → Move s ((u.grant l n e q).countDayOnly l .granted)
  /-- A hold is rolled back, and counted released or expired (R88 to R95). -/
  | drop {s : State} {l : Lane} {h : Hold} {k : LaneCounter} : (s.lane l).hold = some h → k ∈ [LaneCounter.released, .expired] →
      Move s ((s.undoGrant l h).countDayOnly l k)
  /-- A hold commits (R86). -/
  | commit {s : State} {l : Lane} {h : Hold} : (s.lane l).hold = some h →
      Move s (((s.modEntry h.slot fun e => { e with marker := none }).setHold l none).countDayOnly l .committed)
  /-- A lane without a hold changes its state (R104). -/
  | restate {s : State} {l : Lane} {x : LaneState} {d : Option Dwell} : (s.HoldsOk → (s.lane l).hold = none) →
      Move s (s.modLane l fun r => { r with state := x, dwell := d })
  /-- Every lane is reset, once no hold is open (R102, R126). -/
  | close {s : State} : (∀ l, (s.lane l).hold = none) → Move s (s.withLanes (Vector.ofFn fun l : Lane => (s.lane l).warm))
  /-- A hold becomes due (R94). -/
  | due {s : State} {l : Lane} : Move s (s.makeDue l)
  /-- The day set rolls over (R140). -/
  | roll {s : State} : Move s s.rollCounts
  /-- An entry without a hold changes its sequence number or its state (R15 to R17, R156, R175). -/
  | edit {s : State} {n : Nat} {e : Entry} {seq : Nat} {x : PassState} : s.entryAt n = some e → (s.HoldsOk → e.marker = none) →
      (e.Ok s.clock.day → Entry.Ok { e with seq := seq, state := x } s.clock.day) →
      Move s (s.putEntry n { e with seq := seq, state := x })
  /-- Records are added to an entry without a hold (R21). -/
  | use {s : State} {n : Nat} {e : Entry} {rs : List UseRecord} {a : Appended} : s.entryAt n = some e →
      (s.HoldsOk → e.marker = none) → e.state.takesRecords = true → s.history.append e.chain rs = some a →
      NewRecords rs e.lastUse s.clock.day → e.used + rs.length ≤ e.bought →
      Move s ((s.withHistory a.history).putEntry n { e with
        chain := some a.chain, used := e.used + rs.length, state := e.state.added (e.used + rs.length) e.bought
        lastUse := rs.getLast?.map UseRecord.day })
  /-- A new entry without records is placed (R14, R19). -/
  | place {s : State} {n : Nat} {e : Entry} : s.Vacant e.pass n → e.New → e.chain = none → e.lastUse = none → e.used = e.lost →
      Move s (s.place n e)
  /-- A new entry is placed with its records (R19, R39). -/
  | restore {s : State} {n : Nat} {e : Entry} {rs : List UseRecord} {a : Appended} : s.Vacant e.pass n → e.New →
      s.history.append none rs = some a → e.chain = some a.chain → NewRecords rs none s.clock.day →
      e.lastUse = rs.getLast?.map UseRecord.day → e.used = rs.length + e.lost → Move s ((s.withHistory a.history).place n e)
  /-- An entry without a hold is retired (R177); the sweep has looked at its state, which the retirement does not read. -/
  | retire {s : State} {n : Nat} {e e' : Entry} : s.entryAt n = some e → e.marker = none → e'.chain = e.chain →
      Move s (s.retire n e')
  /-- Power-on reset. -/
  | powerOn {s : State} : Move s s.powerOn

/-- A sequence of moves. -/
abbrev State.Path : State → State → Prop := Relation.ReflTransGen State.Move

theorem State.Quiet.path {s t : State} (h : s.Quiet t) : s.Path t := .single (.quiet h)

theorem State.Move.path {s t : State} (h : s.Move t) : s.Path t := .single h

theorem State.Path.quiet {s t u : State} (h : s.Path t) (h' : t.Quiet u) : s.Path u := h.trans h'.path

/-- A fold whose every step is a path is a path. -/
theorem State.Path.foldl {α : Type} (f : State → α → State) (hf : ∀ (t : State) (a : α), t.Path (f t a)) (l : List α) (s : State) :
    s.Path (l.foldl f s) := by
  induction l generalizing s with
  | nil => exact .refl
  | cons a l ih => exact (hf s a).trans (ih _)

/-! ### Holds and lanes -/

section

variable (s : State)

/-- A rollback is its undo, but for the event unit and the pace bucket (R88, R89). -/
theorem State.rollback_quiet (l : Lane) (h : Hold) : (s.undoGrant l h).Quiet (s.rollback l h) :=
  (State.judgeLevel_quiet _ _ _ _).trans (State.givePace_quiet _ _)

/-- Counting is quiet wherever the states before it are. -/
theorem State.Quiet.countDayOnly {s t : State} (h : s.Quiet t) (l : Lane) (k : LaneCounter) :
    (s.countDayOnly l k).Quiet (t.countDayOnly l k) := by
  refine ⟨by simpa using h.slots, by simpa using h.freeSlots, by simpa using h.history, by simpa using h.hold, by simpa using h.state,
    fun m j hj => ?_, by simpa using h.grants, by simpa using h.clock⟩
  by_cases hk : (m, j) = (l, k)
  · obtain ⟨rfl, rfl⟩ := Prod.mk.inj hk
    simp [h.day m j hj]
  · simp [hk, h.day m j hj]

theorem State.releaseHold_path (l : Lane) : s.Path (s.releaseHold l) := by
  unfold State.releaseHold
  split
  · exact .refl
  next h hh =>
    exact (Move.drop hh (k := .released) (by simp)).path.quiet
      (((s.rollback_quiet l h).countDayOnly l _).trans (State.countDayOnly_quiet_countLane _ _ _))

theorem State.expireHold_path {l : Lane} {h : Hold} (hh : (s.lane l).hold = some h) : s.Path (s.expireHold l h) :=
  (Move.drop hh (k := .expired) (by simp)).path.quiet <|
    ((((s.rollback_quiet l h).countDayOnly l _).trans (State.countDayOnly_quiet_countLane _ _ _)).trans
      (State.setLate_quiet _ _ _)).trans (State.raise_quiet _ _)

theorem State.commitHold_path {l : Lane} {h : Hold} (hh : (s.lane l).hold = some h) : s.Path (s.commitHold l h) := by
  refine (Move.commit hh).path.quiet ?_
  have hstart := (State.setLate_quiet ((s.modEntry h.slot fun e => { e with marker := none }).setHold l none) l none).countDayOnly l
    .committed
  refine (hstart.trans (State.countDayOnly_quiet_countLane _ _ _)).trans ?_
  have hstaff (t : State) : t.Quiet (if h.kind = .control then t.countLane l .staff else t) := by
    split
    · exact t.countLane_quiet l (by decide)
    · rfl
  have hdistinct (t : State) : t.Quiet (if h.facts.liftNewlySet then t.countLift h.lift .distinct else t) := by
    split
    · exact t.countLift_quiet _ _
    · rfl
  exact ((hstaff _).trans (State.countLift_quiet _ _ _)).trans (hdistinct _)

theorem State.moveLane_path (l : Lane) (x : LaneState) (d : Option Dwell) : s.Path (s.moveLane l x d) := by
  simp only [State.moveLane]
  split
  next hn =>
    have hnone : ((s.releaseHold l).lane l).hold = none := by simp
    exact State.Path.quiet ((s.releaseHold_path l).tail (.restate fun _ => hnone)) (State.handLevel_quiet _ _ _ _)
  next hn =>
    refine (Move.path (.restate fun hok => ?_)).quiet (State.handLevel_quiet _ _ _ _)
    cases hh : (s.lane l).hold with
    | none => rfl
    | some h => exact absurd (hok.hold l h hh).1 hn

theorem State.nameState_path (l : Lane) (code : Option WorkState) : s.Path (s.nameState l code) := by
  unfold State.nameState
  split
  · exact .refl
  split
  next w _ hf =>
    refine Move.path (.restate (d := (s.lane l).dwell) fun hok => ?_)
    cases hh : (s.lane l).hold with
    | none => rfl
    | some h => simpa [hf] using (hok.hold l h hh).1
  · split
    · exact .refl
    · exact s.moveLane_path l _ _

theorem State.setLanes_path (ls : List Lane) (code : Option WorkState) (p : Profile) : s.Path (s.setLanes ls code p) := by
  have hrelease := State.Path.foldl State.releaseHold (fun t l => t.releaseHold_path l) (s.freeOrder (ls.filter (s.losesHold code))) s
  exact (State.Path.quiet hrelease (State.drewOrder_quiet _ _)).trans <|
    State.Path.foldl _ (fun t l => State.Path.quiet (t.nameState_path l code) (State.writeProfile_quiet _ l p)) ls _

theorem State.track_path (l : Lane) (pass : Nat) : s.Path (s.track l pass).1 := by
  unfold State.track
  dsimp only
  split
  · exact s.moveLane_path l _ _
  · exact (s.setDwell_quiet l _).path

/-! ### The requests that the arbiter grants -/

theorem State.passed_path (bs : List Byte) : s.Path (s.passed bs).1 := by
  unfold State.passed
  dsimp only
  split
  next h hh => exact s.commitHold_path hh
  · split
    · exact (s.latePassage_quiet _).path
    · exact (s.unpairedPassage_quiet _).path

theorem State.release_path (bs : List Byte) : s.Path (s.release bs).1 := by
  unfold State.release
  dsimp only
  split
  · exact s.releaseHold_path _
  · exact .refl

theorem State.jam_path (bs : List Byte) : s.Path (s.jam bs).1 := by
  unfold State.jam
  dsimp only
  split
  · exact .refl
  · exact .refl
  · exact s.moveLane_path _ _ _

theorem State.clearJam_path (bs : List Byte) : s.Path (s.clearJam bs).1 := by
  unfold State.clearJam
  dsimp only
  split
  · exact s.moveLane_path _ _ _
  · exact .refl

theorem State.presentTracked_path (v : Code) (l : Lane) (n pass : Nat) : s.Path (s.presentTracked v l n pass).1 := s.track_path l pass

/-- ADMIT from the grant on. -/
theorem State.presentAdmit_path {u : State} {l : Lane} {n : Nat} {e : Entry} {q : LiveState} (hu : s.Quiet u)
    (hgrant : s.arbiter.nextGrant < u.arbiter.nextGrant) (ha : u.Admits l n e q) : s.Path (u.presentAdmit l n e q).1 := by
  have hadmit : s.Path ((u.grant l n e q).countLane l .granted) :=
    (Move.opens hu hgrant ha).path.quiet (State.countDayOnly_quiet_countLane _ _ _)
  unfold State.presentAdmit
  dsimp only
  split
  · exact hadmit.trans (State.presentTracked_path _ _ _ _ _)
  · exact hadmit.quiet (State.endOtherDwell_quiet _ _ _)

/-- The evaluation of an entry that was found; only ADMIT is a grant. -/
theorem State.presentFound_path {u : State} {v : Code} {l : Lane} {n : Nat} {e : Entry} (hu : s.Quiet u)
    (hgrant : s.arbiter.nextGrant < u.arbiter.nextGrant) (ha : ∀ q, v = .admitted → e.state = .live q → u.Admits l n e q) :
    s.Path (u.presentFound v l n e).1 := by
  unfold State.presentFound
  split
  next q hlive => exact s.presentAdmit_path hu hgrant (ha q rfl hlive)
  · exact hu.path.trans (u.presentTracked_path _ _ _ _)
  · exact hu.path.quiet ((u.setDwell_quiet l none).trans (State.countLane_quiet _ l (by decide)))
  · split
    · exact hu.path.trans (u.presentTracked_path _ _ _ _)
    · exact hu.path.quiet (u.endOtherDwell_quiet l _)
  · exact hu.path.quiet ((u.endOtherDwell_quiet l _).trans (State.countVerdict_quiet _ _ _))

/-- EXHAUSTED bars a RIDER pass that has not been used today (R71). -/
theorem State.judgeEntry_exhausted {l : Lane} {c : Card} {e : Entry} (h : s.judgeEntry l c e = .admitted)
    (hlive : e.state = .live .exhausted) (hrider : (s.product e.product).kind = .rider) : e.lastUse = some s.clock.day := by
  obtain ⟨hopen, hmarker, hhold, -, -, hdefined⟩ := State.judgeEntry_admit h
  by_contra hlast
  simp [State.judgeEntry, State.judgeGrant, hmarker, hhold, hopen, hlive, hrider, hdefined, hlast] at h
  split_ifs at h

/-- What the checks of a PRESENT guarantee where they give ADMIT, in a lane in NORMAL or OPEN. -/
theorem State.judgeEntry_admits {l : Lane} {c : Card} {n : Nat} {e : Entry} {q : LiveState} (h : s.judgeEntry l c e = .admitted)
    (he : s.entryAt n = some e) (hlane : (s.lane l).state = .work .normal ∨ (s.lane l).state = .work .opened)
    (hlive : e.state = .live q) : s.Admits l n e q := by
  obtain ⟨hopen, hmarker, hhold, -, -, -⟩ := State.judgeEntry_admit h
  exact ⟨he, hlive, hmarker, hhold, hlane.resolve_right hopen,
    fun hrider hq => s.judgeEntry_exhausted h (hq ▸ hlive) hrider⟩

theorem State.present_path {u : State} (hu : s.Quiet u) (hgrant : s.arbiter.nextGrant < u.arbiter.nextGrant) (l : Lane) (x : Image) :
    s.Path (u.present l x).1 := by
  have refused (t : State) : t.Quiet (t.countLane l .refused) := t.countLane_quiet l (by decide)
  rcases u.present_cases l x with ⟨-, -, h⟩ | ⟨-, -, -, h⟩ | ⟨-, -, -, h⟩ | ⟨-, hlane, h⟩
  · rw [h]
    exact (hu.trans (refused u)).path
  · rw [h]
    exact (hu.trans (refused u)).path
  · rw [h]
    exact (hu.trans (refused u)).path
  · have hclear := u.clearRun_quiet l
    rcases h with ⟨r, -, -, h⟩ | ⟨c, -, ⟨-, -, h⟩ | ⟨-, -, -, h⟩ | ⟨n, e, hf, hfind, hv, h⟩⟩
    · have hrun : u.Quiet (((u.raiseRun l).countLane l .refused).countLane l .unreadable) :=
        ((u.raiseRun_quiet l).trans (refused _)).trans (State.countLane_quiet _ l (by decide))
      rw [h, State.presentUnreadable]
      dsimp only
      exact (hu.trans hrun).path
    · have hend := (hclear.trans (State.endOtherDwell_quiet _ l c.pass)).trans (refused _)
      rw [h]
      dsimp only
      exact (hu.trans hend).path
    · have hend := (hclear.trans (State.endOtherDwell_quiet _ l c.pass)).trans (refused _)
      rw [h]
      dsimp only
      exact (hu.trans hend).path
    · rw [h, hv]
      have harbiter : (u.clearRun l).arbiter = u.arbiter := by simp
      have hentry : (u.clearRun l).entryAt n = some e := (hclear.entryAt n).trans (State.findPass_pass hfind).1
      have hlane' : ((u.clearRun l).lane l).state = .work .normal ∨ ((u.clearRun l).lane l).state = .work .opened := by
        rwa [hclear.state l]
      refine s.presentFound_path (hu.trans hclear) (harbiter ▸ hgrant) fun q hadmit hlive => ?_
      rw [← State.clearRun_judgeEntry u l l c e] at hadmit
      exact (u.clearRun l).judgeEntry_admits hadmit hentry hlane' hlive

/-! ### Requests on entries -/

/-- A pass on which no hold is open has no marker in its entry (R3, R83). -/
theorem State.HoldsOk.marker_none {s : State} (hok : s.HoldsOk) {n : Nat} {e : Entry} (he : s.entryAt n = some e)
    (hno : s.holdOpenOn e.pass = false) : e.marker = none := by
  cases hm : e.marker with
  | none => rfl
  | some l =>
    obtain ⟨h, hh, rfl⟩ := hok.marker n e l he hm
    obtain ⟨-, e', he', hpass, -⟩ := hok.hold l h hh
    obtain rfl : e' = e := by simpa [he] using he'.symm
    simp only [State.holdOpenOn, List.any_eq_false] at hno
    have hlane : l ∈ allLanes := by fin_cases l <;> simp [allLanes]
    exact absurd (by simp [hh, hpass]) (hno l hlane)

theorem State.reissue_path (bs : List Byte) (hno : s.holdOpenOn (passArg bs) = false) : s.Path (s.reissue bs).1 := by
  unfold State.reissue
  split
  · exact .refl
  next n e hfind =>
    obtain ⟨he, hpass⟩ := State.findPass_pass hfind
    split
    · exact .refl
    next hseq =>
      refine Move.path (.edit (x := e.state) he (fun hok => hok.marker_none he (hpass ▸ hno)) fun hok => ?_)
      obtain ⟨h1, h2, h3, hrest⟩ := hok
      exact ⟨h1, h2, by dsimp only; omega, hrest⟩

theorem State.suspend_path (bs : List Byte) (hno : s.holdOpenOn (passArg bs) = false) : s.Path (s.suspend bs).1 := by
  unfold State.suspend
  split
  · exact .refl
  next n e hfind =>
    obtain ⟨he, hpass⟩ := State.findPass_pass hfind
    split
    next q hlive =>
      refine Move.path (.edit (seq := e.seq) he (fun hok => hok.marker_none he (hpass ▸ hno)) fun hok => ?_)
      simpa only [Entry.Ok, hlive] using hok
    · exact .refl

theorem State.resume_path (bs : List Byte) (hno : s.holdOpenOn (passArg bs) = false) : s.Path (s.resume bs).1 := by
  unfold State.resume
  split
  · exact .refl
  next n e hfind =>
    obtain ⟨he, hpass⟩ := State.findPass_pass hfind
    split
    next q hsusp =>
      refine Move.path (.edit (seq := e.seq) he (fun hok => hok.marker_none he (hpass ▸ hno)) fun hok => ?_)
      simpa only [Entry.Ok, hsusp] using hok
    · exact .refl

theorem State.refund_path (bs : List Byte) (hno : s.holdOpenOn (passArg bs) = false) : s.Path (s.refund bs).1 := by
  unfold State.refund
  split
  · exact .refl
  split
  · exact .refl
  next n e hfind =>
    obtain ⟨he, hpass⟩ := State.findPass_pass hfind
    split
    · exact .refl
    dsimp only
    split
    · exact .refl
    unfold State.refundValued
    split
    · exact .refl
    split
    · exact .refl
    refine Move.path (.edit (seq := e.seq) he (fun hok => hok.marker_none he (hpass ▸ hno)) fun hok => ?_)
    have hamount : (s.valuation e (s.product e.product)).amount ≤ e.price :=
      (Product.amountOf_le_cap _ _ _).trans (e.refundCap_le_price _)
    unfold Entry.Ok at hok ⊢
    obtain ⟨h1, h2, h3, h4, h5, h6, h7, h8, h9, h10, h11, h12, h13, -⟩ := hok
    exact ⟨h1, h2, h3, h4, h5, h6, h7, h8, h9, h10, h11, h12, h13, Nat.le_refl _, hamount⟩

end

end Sys2Proof.Machine

/-! The path of moves that each command takes, and each step with it. -/

namespace Sys2Proof.Machine

/-! ### Records and issue fields of a request -/

theorem rawRecords_length (at_ n : Nat) (p : List Byte) : (rawRecords at_ n p).length = n := by
  induction n generalizing at_ with
  | zero => rfl
  | succ n ih => simp [rawRecords, ih]

/-- Neighbours in rising order are all in rising order. -/
theorem zip_tail_rising (rs : List RawRecord) :
    ((rs.zip rs.tail).all fun q => q.1.day < q.2.day) = true ↔ (rs.map RawRecord.day).Pairwise (· < ·) := by
  rw [← List.isChain_iff_pairwise]
  induction rs with
  | nil => simp
  | cons r rs ih =>
    cases rs with
    | nil => simp
    | cons r' rest => simpa [List.isChain_cons_cons] using fun _ => ih

theorem recordDaysOk_iff {lo hi today : Nat} {rs : List RawRecord} : recordDaysOk lo hi today rs = true ↔ DaysValid lo hi today rs := by
  simp only [recordDaysOk, Bool.and_eq_true, zip_tail_rising, DaysValid]
  simp [and_assoc]

theorem record_days (rs : List RawRecord) : (rs.map RawRecord.record).map UseRecord.day = rs.map RawRecord.day := by
  simp [RawRecord.record]

/-- Records that a request carries in valid days, after the last-use day, are new records. -/
theorem NewRecords.of_raw {lo hi today : Nat} {rs : List RawRecord} {last : Option Nat} (hvalid : DaysValid lo hi today rs)
    (hsome : rs ≠ []) (hfew : rs.length ≤ 5) (hhead : ∀ d r, last = some d → rs.head? = some r → d < r.day) :
    NewRecords (rs.map RawRecord.record) last today := by
  obtain ⟨hrange, hrising⟩ := hvalid
  refine ⟨by simpa using hsome, by simpa using hfew, by rwa [record_days], ?_, fun d hd => ?_⟩
  · simpa [RawRecord.record] using fun r hr => (hrange r hr).2.2
  · obtain ⟨r, rest, rfl⟩ := List.exists_cons_of_ne_nil hsome
    have hr : d < r.day := hhead d r hd rfl
    simp only [List.map_cons, List.pairwise_cons, List.mem_map, forall_exists_index, and_imp, forall_apply_eq_imp_iff₂] at hrising
    simp only [List.map_cons, List.forall_mem_cons, List.mem_map, forall_exists_index, and_imp, forall_apply_eq_imp_iff₂, RawRecord.record]
    exact ⟨hr, fun a ha => hr.trans (hrising.1 a ha)⟩

theorem IssueFields.ok_iff (f : IssueFields) : f.ok = true ↔ f.Valid := by
  simp [IssueFields.ok, IssueFields.Valid, and_assoc]

/-- Valid issue fields make a new entry, whatever use it starts with (R13, R14, R19). -/
theorem IssueFields.new_of_valid {f : IssueFields} (h : f.Valid) {used lost : Nat} {q : LiveState} {last : Option Nat}
    {c : Option Chain} (hlost : lost ≤ used) (hused : used ≤ f.bought) (hq : q = .exhausted ↔ used = f.bought) :
    Entry.New { f.entry with used := used, lost := lost, state := .live q, lastUse := last, chain := c } := by
  obtain ⟨h1, h2, h3, -, -, h6, h7, h8, h9, h10, -, h12⟩ := h
  refine ⟨rfl, rfl, ⟨q, rfl⟩, fun today hlast => ⟨h1, h2, h3, ?_, ?_, ?_, h9, h10, hused, hlost, h12, hlast, by simp [IssueFields.entry], hq⟩⟩
  all_goals simp only [IssueFields.entry, IssueFields.validTo]; omega

theorem State.freeSlotFor_vacant {s : State} {pass n : Nat} (hfree : s.freeSlotFor pass = some n) (habsent : (s.findSlot pass).isSome = false) :
    s.Vacant pass n := by
  refine ⟨?_, List.mem_of_find?_eq_some hfree, by simpa using habsent⟩
  simpa using List.find?_some hfree

section

variable (s : State)

theorem State.issue_path (bs : List Byte) : s.Path (s.issue bs).1 := by
  unfold State.issue
  dsimp only
  split
  · exact .refl
  next hok =>
    split
    · exact .refl
    split
    · exact .refl
    next habsent =>
      split
      · exact s.toMust_quiet.path
      next n hfree =>
        have hvalid := ((issueFields bs).ok_iff).1 (by simpa using hok)
        have hnew := IssueFields.new_of_valid hvalid (used := 0) (lost := 0) (q := .issued) (last := none) (c := none) (Nat.le_refl 0)
          (Nat.zero_le _) (by have := hvalid.2.2.2.2.2.2.2.2.1; simp; omega)
        exact (Move.place (State.freeSlotFor_vacant (pass := (issueFields bs).pass) hfree (by simpa using habsent)) hnew rfl rfl rfl).path

theorem restoredState_exhausted (used bought : Nat) (h : 1 ≤ bought) : restoredState used bought = .exhausted ↔ used = bought := by
  unfold restoredState
  by_cases h0 : used = 0
  · simp [h0]; omega
  · by_cases hb : used = bought <;> simp [h0, hb]
    omega

/-- What a RESTORE that passes the checks of its fields carries (R18). -/
theorem State.restoreCheck_ok {s : State} {bs : List Byte} (h : s.restoreCheck bs = .ok) :
    (issueFields bs).Valid ∧ restoreCount bs ≤ 5 ∧ DaysValid (issueFields bs).validFrom (issueFields bs).validTo s.clock.day (restoreRecords bs)
      ∧ restoreCount bs + restoreLost bs ≤ (issueFields bs).bought := by
  simp only [State.restoreCheck] at h
  split_ifs at h with h1 h2 h3 h4 h5 h6
  simp only [not_or, Bool.not_eq_false] at h2 h3
  exact ⟨(IssueFields.ok_iff _).1 h2.1, by omega, recordDaysOk_iff.1 h3.2, by omega⟩

theorem State.restore_path (bs : List Byte) : s.Path (s.restore bs).1 := by
  unfold State.restore
  dsimp only
  split
  · exact .refl
  next hcheck =>
    obtain ⟨hvalid, hcount, hdays, hroom⟩ := State.restoreCheck_ok (by simpa using hcheck)
    have hlength : ((restoreRecords bs).map RawRecord.record).length = restoreCount bs := by
      simp [restoreRecords, rawRecords_length]
    have hbought : 1 ≤ (issueFields bs).bought := hvalid.2.2.2.2.2.2.2.2.1
    have hnew (last : Option Nat) (c : Option Chain) := IssueFields.new_of_valid hvalid (last := last) (c := c)
      (Nat.le_add_left (restoreLost bs) (restoreCount bs)) hroom (restoredState_exhausted _ _ hbought)
    split
    · exact .refl
    next habsent =>
      split
      · exact s.toMust_quiet.path
      next n hfree =>
        have hvacant := State.freeSlotFor_vacant hfree (by simpa using habsent)
        split
        next hempty =>
          have hzero : restoreCount bs = 0 := by rw [← hlength, List.isEmpty_iff.1 hempty]; rfl
          exact (Move.place hvacant (hnew none none) rfl rfl (by simp [hzero])).path
        next hsome =>
          split
          · exact .refl
          next a happend =>
            have hrecords : NewRecords ((restoreRecords bs).map RawRecord.record) none s.clock.day := by
              refine .of_raw hdays (by simpa using hsome) ?_ (by simp)
              simpa [restoreRecords, rawRecords_length] using hcount
            exact (Move.restore hvacant (hnew _ _) happend rfl hrecords rfl (by simp [hlength])).path

theorem State.addUse_path (bs : List Byte) (hno : s.holdOpenOn (passArg bs) = false) : s.Path (s.addUse bs).1 := by
  unfold State.addUse
  dsimp only
  split
  · exact .refl
  split
  · exact .refl
  next hfields =>
    split
    · exact .refl
    next n e hfind =>
      obtain ⟨he, hpass⟩ := State.findPass_pass hfind
      split
      · exact .refl
      next htakes =>
        split
        · exact .refl
        split
        · exact .refl
        split
        · exact .refl
        next hdays =>
          split
          · exact .refl
          next a happend =>
            have hlength : (addRecords bs).length = addCount bs := rawRecords_length _ _ _
            simp only [Bool.not_eq_false, State.addDaysOk, Bool.and_eq_true, recordDaysOk_iff, decide_eq_true_eq] at hdays
            obtain ⟨⟨hvalid, hhead⟩, hroom⟩ := hdays
            simp only [not_or] at hfields
            have hrecords : NewRecords ((addRecords bs).map RawRecord.record) e.lastUse s.clock.day := by
              refine .of_raw hvalid (fun h => ?_) (by omega) fun d r hd hr => ?_
              · rw [h] at hlength; exact hfields.1 hlength.symm
              · simpa [hd, hr] using hhead
            have hmove := Move.use he (fun hok => hok.marker_none he (hpass ▸ hno)) (by simpa using htakes) happend hrecords
              (by simpa using hroom)
            simp only [List.length_map, hlength, List.getLast?_map, Option.map_map] at hmove
            exact hmove.path

/-! ### The sweep and the tick -/

theorem State.visitSlot_path (n : Nat) : s.Path (s.visitSlot n) := by
  unfold State.visitSlot
  split
  · exact .refl
  next e he =>
    split
    · exact .refl
    next hmarker =>
      have hmarker : e.marker = none := by simpa using hmarker
      have hchain : (e.lapsed s.clock.day).chain = e.chain := by unfold Entry.lapsed; split <;> rfl
      dsimp only
      split
      · exact (Move.retire he hmarker hchain).path
      split
      · exact .refl
      next hlapses =>
        unfold Entry.lapsed at hlapses ⊢
        split at hlapses
        next hlapsed =>
          rw [if_pos hlapsed]
          refine (Move.edit (seq := e.seq) (x := .expired) he (fun _ => hmarker) fun hok => ?_).path
          unfold Entry.Ok at hok ⊢
          obtain ⟨h1, h2, h3, h4, h5, h6, h7, h8, h9, h10, h11, h12, h13, -⟩ := hok
          exact ⟨h1, h2, h3, h4, h5, h6, h7, h8, h9, h10, h11, h12, h13, trivial⟩
        · exact absurd rfl hlapses

theorem State.sweepBatch_path : s.Path s.sweepBatch := by
  unfold State.sweepBatch
  split
  · exact .refl
  · exact State.Path.quiet (State.Path.foldl _ (fun t n => t.visitSlot_path n) _ s) (State.endBatch_quiet _ _)

theorem State.tickClock_path : s.Path s.tickClock := by
  have hclock : s.Quiet (s.withClock s.clock.ticked) := s.withClock_quiet Clock.ticked_ok
  unfold State.tickClock
  dsimp only
  split
  · exact State.Path.quiet ((hclock.trans (State.raiseDevice_quiet _ _)).path.tail .roll) (State.startSweep_quiet _)
  split
  · exact (hclock.trans (State.raiseDevice_quiet _ _)).path
  · exact hclock.path

theorem State.testHolds_path : s.Path s.testHolds :=
  State.Path.quiet (State.Path.foldl _ (fun _ _ => Move.path .due) _ s) (State.drewOrder_quiet _ _)

theorem State.tickAll_path (lines : LiftLines) : s.Path (s.tickAll lines) := by
  have hclock : s.Path ((s.clocked lines).tickSweep s.clock.rolls) :=
    State.Path.quiet ((s.withPins_quiet _).path.trans (State.tickClock_path _)) (State.tickSweep_quiet _ _)
  have hlifts := State.Path.foldl (fun u f => u.tickLift lines f) (fun t f => (t.tickLift_quiet lines f).path) allLifts
    ((s.clocked lines).tickSweep s.clock.rolls)
  exact State.Path.quiet ((hclock.trans hlifts).trans (State.testHolds_path _)) (State.tickTimer_quiet _)

theorem State.ifTick_path (lines : LiftLines) (due : Bool) : s.Path (if due then s.tickAll lines else s) := by
  split
  · exact s.tickAll_path lines
  · exact .refl

theorem State.expire_path (x : Expiry) : s.Path (s.expire x) := by
  have hwrite (a : Arbiter) (h : a.nextGrant = s.arbiter.nextGrant) : s.Quiet (s.withArbiter a) :=
    ⟨by simp, by simp, by simp, by simp, by simp, fun l k _ => State.dayCount_congr (by simp) l k, by simp [h], by simp⟩
  have hstart := (hwrite { s.arbiter with expiries := s.arbiter.expiries.erase x } rfl).path
  unfold State.expire
  dsimp only
  split
  next h hh =>
    split
    · exact hstart.trans (State.expireHold_path _ hh)
    · exact hstart
  · exact hstart

end

/-! ### The warm reset -/

theorem insertHold_perm (x : Lane × Hold) (l : List (Lane × Hold)) : (insertHold x l).Perm (x :: l) := by
  induction l with
  | nil => rfl
  | cons y rest ih =>
    simp only [insertHold]
    split
    · rfl
    · exact (ih.cons y).trans (.swap x y rest)

theorem newestFirst_perm (l : List (Lane × Hold)) : (newestFirst l).Perm l := by
  induction l with
  | nil => rfl
  | cons x rest ih => exact (insertHold_perm x _).trans (ih.cons x)

theorem mem_allLanes (l : Lane) : l ∈ allLanes := by fin_cases l <;> simp [allLanes]

theorem State.mem_openHolds {s : State} {l : Lane} {h : Hold} : (l, h) ∈ s.openHolds ↔ (s.lane l).hold = some h := by
  simp only [State.openHolds, List.mem_filterMap, Option.map_eq_some_iff, Prod.mk.injEq]
  constructor
  · rintro ⟨m, -, a, ha, rfl, rfl⟩
    exact ha
  · intro hh
    exact ⟨l, mem_allLanes l, h, hh, rfl, rfl⟩

theorem State.openHolds_lanes_nodup (s : State) : (s.openHolds.map Prod.fst).Nodup := by
  have hsub : (s.openHolds.map Prod.fst).Sublist allLanes := by
    have hmap : s.openHolds.map Prod.fst = allLanes.filter fun l => (s.lane l).hold.isSome := by
      simp only [State.openHolds, List.map_filterMap, Option.map_map]
      rw [← List.filterMap_eq_filter]
      refine List.filterMap_congr fun l _ => ?_
      cases hh : (s.lane l).hold <;> simp [Option.guard, hh]
    rw [hmap]
    exact List.filter_sublist
  exact hsub.nodup (by decide)

/-- The holds that a warm reset rolls back, in its order, are the open holds, one for a lane (R93). -/
theorem State.newestFirst_spec (s : State) :
    ((newestFirst s.openHolds).map Prod.fst).Nodup ∧ ∀ l h, (l, h) ∈ newestFirst s.openHolds ↔ (s.lane l).hold = some h := by
  have hperm := newestFirst_perm s.openHolds
  exact ⟨(hperm.map Prod.fst).nodup_iff.2 s.openHolds_lanes_nodup, fun l h => hperm.mem_iff.trans State.mem_openHolds⟩

/-- Rolled back one after the other, the holds of different lanes are all gone, and no other lane record changes. -/
theorem State.rollBacks_lane (xs : List (Lane × Hold)) (s : State) (m : Lane) :
    (xs.foldl (fun t x => (t.undoGrant x.1 x.2).countDayOnly x.1 .released) s).lane m
      = if m ∈ xs.map Prod.fst then { s.lane m with hold := none } else s.lane m := by
  induction xs generalizing s with
  | nil => simp
  | cons x xs ih =>
    rw [List.foldl_cons, ih]
    by_cases hm : m = x.1
    · subst hm; simp
    · have hmem : m ∈ (x :: xs).map Prod.fst ↔ m ∈ xs.map Prod.fst := by simp only [List.map_cons, List.mem_cons, hm, false_or]
      simp only [hmem, State.countDayOnly_frame, State.undoGrant_lane, hm, if_false]

theorem State.rollBackAll_lane (s : State) (m : Lane) : s.rollBackAll.lane m = { s.lane m with hold := none } := by
  rw [State.rollBackAll, State.rollBacks_lane]
  split
  · rfl
  next hno =>
    cases hh : (s.lane m).hold with
    | none => rw [← hh]
    | some h => exact absurd (List.mem_map.2 ⟨_, (s.newestFirst_spec.2 m h).2 hh, rfl⟩) hno

theorem State.rollBacks_path (xs : List (Lane × Hold)) (s : State) (hnodup : (xs.map Prod.fst).Nodup)
    (hopen : ∀ l h, (l, h) ∈ xs → (s.lane l).hold = some h) :
    s.Path (xs.foldl (fun t x => (t.undoGrant x.1 x.2).countDayOnly x.1 .released) s) := by
  induction xs generalizing s with
  | nil => exact .refl
  | cons x xs ih =>
    simp only [List.map_cons, List.nodup_cons] at hnodup
    refine .head (.drop (hopen x.1 x.2 (by simp)) (by simp)) (ih _ hnodup.2 fun l h hmem => ?_)
    have hne : l ≠ x.1 := fun he => hnodup.1 (he ▸ List.mem_map_of_mem (f := Prod.fst) hmem)
    simpa [hne] using hopen l h (by simp [hmem])

theorem State.rollBackAll_path (s : State) : s.Path s.rollBackAll :=
  s.rollBacks_path _ s.newestFirst_spec.1 fun l h => (s.newestFirst_spec.2 l h).1

theorem State.warmReset_path (s : State) : s.Path s.warmReset := by
  have hclosed : s.Path (s.rollBackAll.withLanes (Vector.ofFn fun l : Lane => (s.rollBackAll.lane l).warm)) :=
    s.rollBackAll_path.tail (.close fun l => by rw [State.rollBackAll_lane])
  refine hclosed.quiet ⟨?_, ?_, ?_, ?_, ?_, ?_, ?_, ?_⟩ <;> unfold State.warmReset
  · simp
  · simp
  · simp
  · simp
  · simp
  · intro l k _
    simp [State.dayCount, CountUnit.warm]
  · simp [Arbiter.warm]
  · simp

/-! ### Ports -/

theorem State.takeFrame_path (s : State) (p : Port) (f : Frame) (n : Nat) : s.Path (s.takeFrame p f n) := by
  have hstamp (t : State) (a : Arbiter) (h : a.nextGrant = t.arbiter.nextGrant) : t.Quiet (t.withArbiter a) :=
    ⟨by simp, by simp, by simp, by simp, by simp, fun l k _ => State.dayCount_congr (by simp) l k, by simp [h], by simp⟩
  unfold State.takeFrame
  split
  · exact (s.modPort_quiet _ _).path
  · exact s.warmReset_path
  · split
    · exact ((s.modPort_quiet _ _).trans (hstamp _ _ (by simp))).path
    · exact (s.modPort_quiet _ _).path
  · exact .refl

theorem State.shiftIn_path (s : State) (p : Port) (bytes : List Byte) (ends : Bool) : s.Path (s.shiftIn p bytes ends) := by
  unfold State.shiftIn
  split
  · split
    · exact (s.modPort_quiet _ _).path
    · dsimp only
      split
      · exact (s.modPort_quiet _ _).path
      · exact (s.modPort_quiet _ _).path.trans (State.takeFrame_path _ _ _ _)
  · exact (s.modPort_quiet _ _).path
  · exact .refl

theorem State.send_path (s : State) (p : Port) (bytes : Piece (List Byte)) : s.Path (s.send p bytes) := by
  have hopen : s.Quiet (if bytes.begins then s.opened p Config.sendCode else s) := by
    split
    · exact s.modPort_quiet _ _
    · rfl
  exact hopen.path.trans (State.shiftIn_path _ _ _ _)

/-- A grant is a path where its evaluation, from the charge on, is one. -/
theorem State.grantTo_path (s : State) {sel : Frame → Bool} {eval : State → List Byte → State × List Byte}
    (h : ∀ r, s.grantable sel = some r → s.Path (eval (s.charge (.request r)) r.frame.payload).1) : s.Path (s.grantTo sel eval) := by
  cases hg : s.grantable sel with
  | none => rw [State.grantTo_of_none hg]
  | some r =>
    rw [State.grantTo_of_grantable hg]
    exact (h r hg).quiet (State.complete_quiet _ _ _ _ _)

theorem State.grantTo_path_of_all (s : State) {sel : Frame → Bool} {eval : State → List Byte → State × List Byte}
    (h : ∀ (t : State) bs, t.Path (eval t bs).1) : s.Path (s.grantTo sel eval) :=
  s.grantTo_path fun _ _ => (s.charge_quiet _).path.trans (h _ _)

/-- The requests that wait while a hold is open on their pass are granted with none open (R166). -/
theorem State.grantTo_path_of_noHold (s : State) {k : ReqKind} {eval : State → List Byte → State × List Byte}
    (hk : k.waitsForHold = true) (h : ∀ (t : State) bs, t.holdOpenOn (passArg bs) = false → t.Path (eval t bs).1) :
    s.Path (s.grantTo (isKind k) eval) := by
  refine s.grantTo_path fun r hr => (s.charge_quiet _).path.trans (h _ _ ?_)
  obtain ⟨helig, -, hsel⟩ := State.grantable_eligible hr
  have hkind : r.kind? = some k := isKind_iff.1 hsel
  have hpass : r.pass? = some (passArg r.frame.payload) := by
    cases k <;> simp [ReqKind.waitsForHold] at hk <;> simp [StoreReq.pass?, hkind]
  have hno := State.eligible_noHold helig hkind hk hpass
  simpa [State.holdOpenOn] using hno

theorem State.serve_path (s : State) {p : Port} {sel : Frame → Bool} {eval : State → List Byte → State × List Byte}
    (h : ∀ (t : State) bs, t.Quiet (eval t bs).1) : s.Path (s.serve p sel eval) := by
  unfold State.serve
  split
  · exact .refl
  · exact ((h _ _).trans (State.complete_quiet _ _ _ _ _)).path

/-! ### Every command -/

/-- Every command is a path of moves. -/
theorem exec_path (c : Instr) (s t : State) (hexec : exec c s = .next t) : s.Path t := by
  have idle (t : State) (_ : List Byte) : t.Path t := .refl
  have framed (hdisjoint : ∀ p ∈ [Part.slots, .freeSlots, .history, .lanes, .counts, .arbiter, .clock], p ∉ touches c) : s.Path t := by
    obtain ⟨u, hnext, hframe⟩ := exec_next_onlyChanges c s
    obtain rfl : u = t := by simpa [hnext] using hexec
    exact (State.Quiet.of_onlyChanges hframe hdisjoint).path
  cases c with
  | fetch p n => exact framed (by cases p <;> simp [touches, portPart])
  | status p code => exact framed (by cases p <;> simp [touches, portPart])
  | answeredFrame p => exact framed (by cases p <;> simp [touches, portPart])
  | readEvents p => exact framed (by cases p <;> simp [touches, portPart])
  | loadProduct | setResort | readClock | loadCalendarBase | loadCalendarRuns | setScheme | setLift | readLanes | loadTariff
  | readStore | setEvents | resetLineInactive => exact framed (by simp [touches])
  | send p bytes => cases hexec; exact s.send_path p bytes
  | restart tag => cases hexec; exact s.send_path .office _
  | present =>
    cases hexec
    exact s.grantTo_path fun _ _ => s.present_path (s.charge_quiet _) (by simp) _ _
  | passed => cases hexec; exact s.grantTo_path_of_all State.passed_path
  | release => cases hexec; exact s.grantTo_path_of_all State.release_path
  | laneReportJam => cases hexec; exact s.grantTo_path_of_all State.jam_path
  | laneReportClear => cases hexec; exact s.grantTo_path_of_all State.clearJam_path
  | laneReportQuery => cases hexec; exact s.grantTo_path_of_all idle
  | issue => cases hexec; exact s.grantTo_path_of_all State.issue_path
  | restore => cases hexec; exact s.grantTo_path_of_all State.restore_path
  | inquire =>
    cases hexec
    refine s.grantTo_path_of_all fun t bs => ?_
    unfold State.inquire
    split <;> exact .refl
  | reissue => cases hexec; exact s.grantTo_path_of_noHold rfl State.reissue_path
  | suspend => cases hexec; exact s.grantTo_path_of_noHold rfl State.suspend_path
  | resume => cases hexec; exact s.grantTo_path_of_noHold rfl State.resume_path
  | addUse => cases hexec; exact s.grantTo_path_of_noHold rfl State.addUse_path
  | refund => cases hexec; exact s.grantTo_path_of_noHold rfl State.refund_path
  | setLane => cases hexec; exact s.grantTo_path_of_all fun t bs => t.setLanes_path _ _ _
  | setClock => cases hexec; exact s.serve_path State.setClock_quiet
  | setReport => cases hexec; exact s.serve_path State.setReport_quiet
  | takeSnapshot => cases hexec; exact s.serve_path fun t _ => t.takeSnapshot_quiet
  | readCounts => cases hexec; exact s.serve_path State.readCounts_quiet
  | setStorePolicy => cases hexec; exact s.serve_path State.setStorePolicy_quiet
  | tick lines => cases hexec; exact s.tickAll_path lines
  | dayRollover lines => cases hexec; exact s.ifTick_path lines _
  | clockStall lines => cases hexec; exact s.ifTick_path lines _
  | holdDue lines => cases hexec; exact s.ifTick_path lines _
  | autoTransfer lines => cases hexec; exact s.ifTick_path lines _
  | sweepDeadlineReached lines => cases hexec; exact s.ifTick_path lines _
  | expiry =>
    cases hexec
    split
    · exact (s.charge_quiet _).path.trans (State.expire_path _ _)
    · exact .refl
  | sweepBatch =>
    cases hexec
    split
    · exact (s.charge_quiet _).path.trans (State.sweepBatch_path _)
    · exact .refl
  | resetLine =>
    cases hexec
    split
    · exact .refl
    · exact (s.withPins_quiet _).path.trans (State.warmReset_path _)
  | powerOnReset => cases hexec; exact State.Move.path .powerOn

/-- Every step is a path of moves. -/
theorem step_path {s t : State} (h : step s = .next t) : s.Path t := by
  cases hp : s.pending with
  | nil =>
    rw [step_of_pending_nil hp] at h
    cases h
    exact .refl
  | cons c rest =>
    rw [step_of_pending_cons hp] at h
    exact (s.withPending_quiet rest).path.trans (exec_path c _ t h)

/-- What every move keeps, every step keeps. -/
theorem step_keeps {P : State → Prop} (hmove : ∀ s t : State, s.Move t → P s → P t) {s t : State} (h : step s = .next t) (hs : P s) :
    P t := by
  have hpath := step_path h
  clear h
  induction hpath with
  | refl => exact hs
  | tail _ hm ih => exact hmove _ _ hm ih

end Sys2Proof.Machine

/-! The pass store: lookup by bucket, and that every step keeps it (R4, R5). -/

namespace Sys2Proof.Machine

/-! ### Buckets and lookup -/

theorem mem_bucketSlots {b n : Nat} : n ∈ bucketSlots b ↔ n / Config.bucketSize = b := by
  simp only [bucketSlots, List.mem_map, List.mem_range]
  constructor
  · rintro ⟨i, hi, rfl⟩
    rw [Nat.mul_add_div (by decide), Nat.div_eq_of_lt hi, Nat.add_zero]
  · rintro rfl
    exact ⟨n % Config.bucketSize, Nat.mod_lt _ (by decide), Nat.div_add_mod _ _⟩

theorem bucketOf_lt (pass : Nat) : bucketOf pass < Config.bucketCount := Nat.mod_lt _ (by decide)

/-- A lookup that finds nothing leaves no entry with the pass number (R4). -/
theorem State.StoreOk.absent {s : State} (hok : s.StoreOk) {pass : Nat} (h : s.findSlot pass = none) {n : Nat} {e : Entry}
    (he : s.entryAt n = some e) : e.pass ≠ pass := by
  rintro rfl
  have hmem : n ∈ bucketSlots (bucketOf e.pass) := mem_bucketSlots.2 (hok.bucket n e he)
  have := List.find?_eq_none.1 h n hmem
  simp [he] at this

/-- A lookup finds the entry that holds the pass number, and no other (R4). -/
theorem State.StoreOk.findPass_iff {s : State} (hok : s.StoreOk) {pass n : Nat} {e : Entry} :
    s.findPass pass = some (n, e) ↔ s.entryAt n = some e ∧ e.pass = pass := by
  refine ⟨State.findPass_pass, ?_⟩
  rintro ⟨he, rfl⟩
  cases hslot : s.findSlot e.pass with
  | none => exact absurd rfl (hok.absent hslot he)
  | some m =>
    have hm := List.find?_some hslot
    obtain ⟨e', he', hpass⟩ : ∃ e', s.entryAt m = some e' ∧ e'.pass = e.pass := by
      cases he' : s.entryAt m <;> simp_all
    obtain rfl := hok.oneEntry m n e' e he' he hpass
    simp [State.findPass, hslot, he]

theorem State.StoreOk.findPass_none_iff {s : State} (hok : s.StoreOk) {pass : Nat} :
    s.findPass pass = none ↔ ∀ n e, s.entryAt n = some e → e.pass ≠ pass := by
  constructor
  · intro h n e he hpass
    rw [hok.findPass_iff.2 ⟨he, hpass⟩] at h
    cases h
  · intro h
    cases hf : s.findPass pass with
    | none => rfl
    | some x => exact absurd (State.findPass_pass hf).2 (h x.1 x.2 (State.findPass_pass hf).1)

/-! ### Writes that keep the pass store -/

theorem State.StoreOk.congr {s t : State} (hok : s.StoreOk) (hslots : t.slots = s.slots) (hfree : t.freeSlots = s.freeSlots) :
    t.StoreOk := by
  obtain ⟨h1, h2, h3, h4⟩ := hok
  unfold State.entryAt at h2 h3
  exact ⟨by rwa [hslots], by unfold State.entryAt; rwa [hslots], by unfold State.entryAt; rwa [hslots], by rwa [hslots, hfree]⟩

/-- An entry rewritten under its pass number. -/
theorem State.StoreOk.put_same {s t : State} (hok : s.StoreOk) {n : Nat} {e e' : Entry} (he : s.entryAt n = some e)
    (hslots : t.slots = Table.put s.slots n e') (hpass : e'.pass = e.pass) (hfree : t.freeSlots = s.freeSlots) : t.StoreOk := by
  have hread (m : Nat) : t.entryAt m = if m = n then some e' else s.entryAt m := by simp [State.entryAt, hslots]
  have hn : n < Config.slotCount := hok.canonical.2 n (Table.key_of_get he)
  have hold (m : Nat) (x : Entry) (hx : t.entryAt m = some x) : ∃ y, s.entryAt m = some y ∧ y.pass = x.pass := by
    rw [hread] at hx
    split at hx
    next hm => exact ⟨e, hm ▸ he, by rw [← hpass, Option.some.inj hx]⟩
    · exact ⟨x, hx, rfl⟩
  refine ⟨hslots ▸ Table.put_wf hok.canonical hn e', fun m x hx => ?_, fun m k x y hx hy hxy => ?_, ?_⟩
  · obtain ⟨y, hy, hyx⟩ := hold m x hx
    exact hyx ▸ hok.bucket m y hy
  · obtain ⟨x', hx', hxx⟩ := hold m x hx
    obtain ⟨y', hy', hyy⟩ := hold k y hy
    exact hok.oneEntry m k x' y' hx' hy' (by rw [hxx, hyy, hxy])
  · rw [hslots, hfree, Table.length_put _ hok.canonical.1, if_pos (by rw [show Table.get s.slots n = some e from he]; rfl)]
    exact hok.count

/-- A new entry placed in a vacant slot (R5, R14). -/
theorem State.StoreOk.put_new {s t : State} (hok : s.StoreOk) {n : Nat} {e : Entry} (hv : s.Vacant e.pass n)
    (hslots : t.slots = Table.put s.slots n e) (hfree : t.freeSlots = s.freeSlots - 1) : t.StoreOk := by
  have hread (m : Nat) : t.entryAt m = if m = n then some e else s.entryAt m := by simp [State.entryAt, hslots]
  have hbucket : n / Config.bucketSize = bucketOf e.pass := mem_bucketSlots.1 hv.bucket
  have hn : n < Config.slotCount := by
    have hlt := bucketOf_lt e.pass
    simp only [← hbucket, Config.bucketSize, Config.bucketCount] at hlt
    simp only [Config.slotCount]
    omega
  have hnone : Table.get s.slots n = none := hv.free
  have hwf : Table.wf Config.slotCount t.slots := hslots ▸ Table.put_wf hok.canonical hn e
  have hlength : t.slots.length = s.slots.length + 1 := by rw [hslots, Table.length_put _ hok.canonical.1, hnone]; rfl
  have hroom : t.slots.length ≤ Config.slotCount := by
    have hsub : (Table.keys t.slots) ⊆ List.range Config.slotCount := fun m hm => List.mem_range.2 (hwf.2 m hm)
    have hnodup : (Table.keys t.slots).Nodup := hwf.1.imp Nat.ne_of_lt
    simpa [Table.keys] using (hnodup.subperm hsub).length_le
  refine ⟨hwf, fun m x hx => ?_, fun m k x y hx hy hxy => ?_, ?_⟩
  · rw [hread] at hx
    split at hx
    next hm => rw [hm, ← Option.some.inj hx]; exact hbucket
    · exact hok.bucket m x hx
  · rw [hread] at hx hy
    split at hx <;> split at hy
    next hm hk => rw [hm, hk]
    next hm hk => exact absurd (by rw [← hxy, ← Option.some.inj hx]) (hok.absent hv.absent hy)
    next hm hk => exact absurd (by rw [hxy, ← Option.some.inj hy]) (hok.absent hv.absent hx)
    · exact hok.oneEntry m k x y hx hy hxy
  · have := hok.count
    omega

/-- An entry taken out of its slot (R177). -/
theorem State.StoreOk.erase {s t : State} (hok : s.StoreOk) {n : Nat} {e : Entry} (he : s.entryAt n = some e)
    (hslots : t.slots = Table.erase s.slots n) (hfree : t.freeSlots = s.freeSlots + 1) : t.StoreOk := by
  have hread (m : Nat) (x : Entry) (hx : t.entryAt m = some x) : s.entryAt m = some x := by
    simp only [State.entryAt, hslots, Table.get_erase] at hx
    split at hx
    · cases hx
    · exact hx
  refine ⟨hslots ▸ Table.erase_wf hok.canonical n, fun m x hx => hok.bucket m x (hread m x hx),
    fun m k x y hx hy => hok.oneEntry m k x y (hread m x hx) (hread k y hy), ?_⟩
  have hlength : t.slots.length = s.slots.length - 1 := by
    rw [hslots, Table.length_erase _ hok.canonical.1, if_pos (by rw [show Table.get s.slots n = some e from he]; rfl)]
  have hpos : 0 < s.slots.length := List.length_pos_of_mem (Table.mem_of_get he)
  have := hok.count
  omega

/-! ### The slots after each move -/

/-- The history part of a grant leaves in the entry everything but days used, lost days, last-use day and chain (R33). -/
theorem State.grantHistory_entry (s : State) (e : Entry) (f : Lift) :
    (s.grantHistory e f).entry = { e with
      used := (s.grantHistory e f).entry.used, lost := (s.grantHistory e f).entry.lost
      lastUse := (s.grantHistory e f).entry.lastUse, chain := (s.grantHistory e f).entry.chain } := by
  unfold State.grantHistory
  dsimp only
  split
  · rfl
  split
  · unfold History.update
    split
    · split <;> rfl
    · rfl
  · unfold History.debit
    dsimp only
    split <;> rfl

/-- The entry that a grant leaves (R74 to R76). -/
def State.granted (s : State) (l : Lane) (e : Entry) (q : LiveState) : Entry :=
  let d := s.grantHistory e (s.liftOf l)
  { d.entry with
    state := .live (if d.facts.debitMade then stateAfterDebit d.entry.used d.entry.bought else q)
    lastAdmit := some { lift := s.liftOf l, lane := l, day := s.clock.day, sec := s.clock.sec }, marker := some l }

/-- The hold that a grant opens (R83, R84). -/
def State.opensHold (s : State) (l : Lane) (n : Nat) (e : Entry) (q : LiveState) : Hold :=
  { slot := n, pass := e.pass, kind := (s.product e.product).kind, deadline := s.now.after (s.lane l).profile.holdTime
    lift := s.liftOf l, order := s.arbiter.nextGrant, facts := (s.grantHistory e (s.liftOf l)).facts, prevState := q
    prevLastUse := e.lastUse, prevLastAdmit := e.lastAdmit, pendingExpiry := false }

theorem State.grant_eq (s : State) (l : Lane) (n : Nat) (e : Entry) (q : LiveState) :
    s.grant l n e q
      = (((s.writeHistory (s.grantHistory e (s.liftOf l)).history).putEntry n (s.granted l e q)).setHold l
          (some (s.opensHold l n e q))).takePace (s.liftOf l) := rfl

theorem State.grant_slots (s : State) (l : Lane) (n : Nat) (e : Entry) (q : LiveState) :
    (s.grant l n e q).slots = Table.put s.slots n (s.granted l e q) := by
  simp [State.grant_eq, State.putEntry]

theorem State.granted_pass (s : State) (l : Lane) (e : Entry) (q : LiveState) : (s.granted l e q).pass = e.pass := by
  simp only [State.granted]
  rw [State.grantHistory_entry]

@[simp] theorem State.grant_entryAt (s : State) (l : Lane) (n m : Nat) (e : Entry) (q : LiveState) :
    (s.grant l n e q).entryAt m = if m = n then some (s.granted l e q) else s.entryAt m := by
  simp [State.entryAt, State.grant_slots]

@[simp] theorem State.grant_lane (s : State) (l m : Lane) (n : Nat) (e : Entry) (q : LiveState) :
    (s.grant l n e q).lane m = if m = l then { s.lane l with hold := some (s.opensHold l n e q) } else s.lane m := by
  simp [State.grant_eq]

@[simp] theorem State.grant_history (s : State) (l : Lane) (n : Nat) (e : Entry) (q : LiveState) :
    (s.grant l n e q).history = (s.grantHistory e (s.liftOf l)).history := by
  simp [State.grant_eq, State.writeHistory]

/-- A rollback finds the entry of its hold. -/
theorem State.undoGrant_of_entry {s : State} {h : Hold} {e : Entry} (he : s.entryAt h.slot = some e) (l : Lane) :
    s.undoGrant l h = ((s.withHistory (s.history.undo h.facts h.lift e.chain).2).putEntry h.slot
      (e.undone h (s.history.undo h.facts h.lift e.chain).1)).setHold l none := by
  simp [State.undoGrant, he]

theorem State.undoGrant_of_none {s : State} {h : Hold} (he : s.entryAt h.slot = none) (l : Lane) :
    s.undoGrant l h = s.setHold l none := by
  simp [State.undoGrant, he]

theorem State.setFreeSlots_freeSlots (s : State) (n : Nat) : (s.setFreeSlots n).freeSlots = n := by
  simp [State.setFreeSlots]

theorem State.place_slots (s : State) (n : Nat) (e : Entry) : (s.place n e).slots = Table.put s.slots n e := by
  simp [State.place, State.putEntry]

theorem State.place_freeSlots (s : State) (n : Nat) (e : Entry) : (s.place n e).freeSlots = s.freeSlots - 1 := by
  simp [State.place, State.setFreeSlots_freeSlots]

@[simp] theorem State.place_entryAt (s : State) (n m : Nat) (e : Entry) :
    (s.place n e).entryAt m = if m = n then some e else s.entryAt m := by
  simp [State.entryAt, State.place_slots]

theorem State.retire_slots (s : State) (n : Nat) (e : Entry) : (s.retire n e).slots = Table.erase s.slots n := by
  simp [State.retire]

theorem State.retire_freeSlots (s : State) (n : Nat) (e : Entry) : (s.retire n e).freeSlots = s.freeSlots + 1 := by
  simp [State.retire, State.setFreeSlots_freeSlots]

@[simp] theorem State.retire_entryAt (s : State) (n m : Nat) (e : Entry) :
    (s.retire n e).entryAt m = if m = n then none else s.entryAt m := by
  simp [State.entryAt, State.retire_slots]

@[simp] theorem State.retire_history (s : State) (n : Nat) (e : Entry) :
    (s.retire n e).history = s.history.freeChain e.chain := by
  simp [State.retire, State.writeHistory]

theorem State.reset_storeOk : State.reset.StoreOk :=
  ⟨⟨by simp [State.reset, Table.keys], by simp [State.reset, Table.keys]⟩, by simp [State.entryAt, State.reset],
    by simp [State.entryAt, State.reset], rfl⟩

/-- Every move keeps the pass store. -/
theorem State.Move.storeOk {s t : State} (h : s.Move t) (hok : s.StoreOk) : t.StoreOk := by
  cases h with
  | quiet hq => exact hok.congr hq.slots hq.freeSlots
  | @opens u l n e q hu _ ha =>
    have hu : u.StoreOk := hok.congr hu.slots hu.freeSlots
    exact hu.put_same (e' := u.granted l e q) ha.entry (by simp [State.grant_slots]) (State.granted_pass _ _ _ _) (by simp)
  | @drop l h k _ _ =>
    cases he : s.entryAt h.slot with
    | none => rw [State.undoGrant_of_none he]; exact hok.congr (by simp) (by simp)
    | some e =>
      rw [State.undoGrant_of_entry he]
      exact hok.put_same (e' := e.undone h (s.history.undo h.facts h.lift e.chain).1) he (by simp [State.putEntry]) rfl (by simp)
  | @commit l h _ =>
    cases he : s.entryAt h.slot with
    | none => exact hok.congr (by simp [State.modEntry, he]) (by simp)
    | some e => exact hok.put_same (e' := { e with marker := none }) he (by simp [State.modEntry, he, State.putEntry]) rfl (by simp)
  | restate _ => exact hok.congr (by simp) (by simp)
  | close _ => exact hok.congr (by simp) (by simp)
  | due => exact hok.congr (by simp) (by simp)
  | roll => exact hok.congr (by simp) (by simp)
  | @edit n e seq x he _ _ => exact hok.put_same (e' := { e with seq := seq, state := x }) he rfl rfl (by simp)
  | use he _ _ _ _ _ => exact hok.put_same he rfl rfl (by simp)
  | place hv _ _ _ _ => exact hok.put_new hv (State.place_slots _ _ _) (State.place_freeSlots _ _ _)
  | restore hv _ _ _ _ _ _ => exact hok.put_new hv (by simp [State.place_slots]) (by simp [State.place_freeSlots])
  | retire he _ _ => exact hok.erase he (State.retire_slots _ _ _) (State.retire_freeSlots _ _ _)
  | powerOn => exact State.reset_storeOk.congr rfl rfl

/-- Settles O56: every move of the path that a step takes keeps the pass store. -/
theorem stepsKeepThePassStore : Obligations.StepsKeepThePassStore := by
  unfold Obligations.StepsKeepThePassStore
  exact fun s t hok hstep => step_keeps (fun _ _ hmove => hmove.storeOk) hstep hok

/-- Settles O15: the pass numbers of entries are in their buckets, each once. -/
theorem lookupFindsTheOneEntry : Obligations.LookupFindsTheOneEntry := by
  unfold Obligations.LookupFindsTheOneEntry
  exact fun s pass n e hok => ⟨hok.findPass_iff, hok.findPass_none_iff⟩

end Sys2Proof.Machine

/-! Holds and markers, and the balance of the day set: every step keeps them (R3, R83, R84, R101, R140). -/

namespace Sys2Proof.Machine

/-! ### Open holds and hold markers -/

/-- The entry of an open hold. -/
theorem State.HoldsOk.entry {s : State} (hok : s.HoldsOk) {l : Lane} {h : Hold} (hh : (s.lane l).hold = some h) :
    ∃ e q, s.entryAt h.slot = some e ∧ e.pass = h.pass ∧ e.marker = some l ∧ e.state = .live q := by
  obtain ⟨-, e, he, hpass, hmarker, q, hq⟩ := hok.hold l h hh
  exact ⟨e, q, he, hpass, hmarker, hq⟩

/-- An entry without a marker is no entry of a hold. -/
theorem State.HoldsOk.slot_ne {s : State} (hok : s.HoldsOk) {l : Lane} {h : Hold} (hh : (s.lane l).hold = some h) {n : Nat}
    (hn : ∀ e, s.entryAt n = some e → e.marker = none) : h.slot ≠ n := by
  rintro rfl
  obtain ⟨e, q, he, -, hmarker, -⟩ := hok.entry hh
  simp [hn e he] at hmarker

/-- The entries of the holds of two lanes stand in different slots. -/
theorem State.HoldsOk.slots_ne {s : State} (hok : s.HoldsOk) {l m : Lane} {h h' : Hold} (hh : (s.lane l).hold = some h)
    (hh' : (s.lane m).hold = some h') (hne : l ≠ m) : h.slot ≠ h'.slot := by
  intro hslot
  obtain ⟨e, q, he, -, hmarker, -⟩ := hok.entry hh
  obtain ⟨e', q', he', -, hmarker', -⟩ := hok.entry hh'
  obtain rfl : e = e' := by simpa [hslot, he'] using he.symm
  exact hne (by simpa [hmarker] using hmarker')

/-- A slot without a marker, before and after, may change. -/
theorem State.HoldsOk.put {s t : State} (hok : s.HoldsOk) {n : Nat} (hbefore : ∀ e, s.entryAt n = some e → e.marker = none)
    (hafter : ∀ e, t.entryAt n = some e → e.marker = none) (hread : ∀ m, m ≠ n → t.entryAt m = s.entryAt m)
    (hhold : ∀ l, (t.lane l).hold = (s.lane l).hold) (hstate : ∀ l, (t.lane l).state = (s.lane l).state)
    (hgrants : s.arbiter.nextGrant ≤ t.arbiter.nextGrant) : t.HoldsOk where
  hold l h hh := by
    rw [hhold] at hh
    obtain ⟨hnormal, e, he, hrest⟩ := hok.hold l h hh
    exact ⟨(hstate l).trans hnormal, e, by rw [hread _ (hok.slot_ne hh hbefore), he], hrest⟩
  marker m e l he hm := by
    by_cases hn : m = n
    · subst hn
      simp [hafter e he] at hm
    · rw [hread m hn] at he
      simpa [hhold] using hok.marker m e l he hm
  order l h hh := (hok.order l h (hhold l ▸ hh)).trans hgrants
  orders l m h h' hh hh' := hok.orders l m h h' (hhold l ▸ hh) (hhold m ▸ hh')

theorem State.HoldsOk.congr {s t : State} (hok : s.HoldsOk) (hread : ∀ m, t.entryAt m = s.entryAt m)
    (hhold : ∀ l, (t.lane l).hold = (s.lane l).hold) (hstate : ∀ l, (t.lane l).hold ≠ none → (t.lane l).state = (s.lane l).state)
    (hgrants : s.arbiter.nextGrant ≤ t.arbiter.nextGrant) : t.HoldsOk where
  hold l h hh := by
    obtain ⟨hnormal, e, he, hrest⟩ := hok.hold l h (hhold l ▸ hh)
    exact ⟨(hstate l (by simp [hh])).trans hnormal, e, by rw [hread, he], hrest⟩
  marker m e l he hm := by simpa [hhold] using hok.marker m e l (hread m ▸ he) hm
  order l h hh := (hok.order l h (hhold l ▸ hh)).trans hgrants
  orders l m h h' hh hh' := hok.orders l m h h' (hhold l ▸ hh) (hhold m ▸ hh')

theorem State.HoldsOk.quiet {s t : State} (hok : s.HoldsOk) (hq : s.Quiet t) : t.HoldsOk :=
  hok.congr hq.entryAt hq.hold (fun l _ => hq.state l) hq.grants

/-- A hold ends: its lane holds none, and its entry loses the marker. -/
theorem State.HoldsOk.ends {s t : State} (hok : s.HoldsOk) {l : Lane} {h : Hold} (hh : (s.lane l).hold = some h)
    (hentry : ∀ e, t.entryAt h.slot = some e → e.marker = none) (hread : ∀ m, m ≠ h.slot → t.entryAt m = s.entryAt m)
    (hhold : ∀ m, (t.lane m).hold = if m = l then none else (s.lane m).hold) (hstate : ∀ m, (t.lane m).state = (s.lane m).state)
    (hgrants : t.arbiter = s.arbiter) : t.HoldsOk := by
  have hopen {m : Lane} {h' : Hold} (hm : (t.lane m).hold = some h') : m ≠ l ∧ (s.lane m).hold = some h' := by
    rw [hhold] at hm
    split at hm
    · cases hm
    next hne => exact ⟨hne, hm⟩
  refine ⟨fun m h' hm => ?_, fun n e m he hmark => ?_, fun m h' hm => ?_, fun m k h' h'' hm hk => ?_⟩
  · obtain ⟨hne, hm⟩ := hopen hm
    obtain ⟨hnormal, e, he, hrest⟩ := hok.hold m h' hm
    exact ⟨(hstate m).trans hnormal, e, by rw [hread _ (hok.slots_ne hm hh hne), he], hrest⟩
  · by_cases hn : n = h.slot
    · subst hn
      simp [hentry e he] at hmark
    · rw [hread n hn] at he
      obtain ⟨h', hm, rfl⟩ := hok.marker n e m he hmark
      have hne : m ≠ l := by
        rintro rfl
        obtain rfl : h' = h := by simpa [hh] using hm.symm
        exact hn rfl
      exact ⟨h', by simpa [hhold, hne] using hm, rfl⟩
  · rw [hgrants]
    exact hok.order m h' (hopen hm).2
  · exact hok.orders m k h' h'' (hopen hm).2 (hopen hk).2

theorem State.undoGrant_entryAt_ne {s : State} (l : Lane) {h : Hold} {m : Nat} (hm : m ≠ h.slot) :
    (s.undoGrant l h).entryAt m = s.entryAt m := by
  unfold State.undoGrant
  split <;> simp [hm]

theorem State.granted_marker (s : State) (l : Lane) (e : Entry) (q : LiveState) : (s.granted l e q).marker = some l := rfl

/-- A hold opens: at a lane without one, for an entry without a marker, with a grant number above every other (R83). -/
theorem State.HoldsOk.opens {s u : State} (hok : s.HoldsOk) (hu : s.Quiet u) (hgrant : s.arbiter.nextGrant < u.arbiter.nextGrant)
    {l : Lane} {n : Nat} {e : Entry} {q : LiveState} (ha : u.Admits l n e q) : (u.grant l n e q).HoldsOk := by
  have hbare : ∀ x, s.entryAt n = some x → x.marker = none := fun x hx => by
    rw [← hu.entryAt, ha.entry] at hx
    rw [← Option.some.inj hx, ha.marker]
  have hopen {m : Lane} {h : Hold} (hm : ((u.grant l n e q).lane m).hold = some h) :
      m = l ∧ h = u.opensHold l n e q ∨ m ≠ l ∧ (s.lane m).hold = some h := by
    rw [State.grant_lane] at hm
    split at hm
    next hml => exact .inl ⟨hml, (Option.some.inj hm).symm⟩
    next hml => exact .inr ⟨hml, by rwa [hu.hold] at hm⟩
  have hnew : (u.opensHold l n e q).order = u.arbiter.nextGrant := rfl
  refine ⟨fun m h hm => ?_, fun k x m hx hmark => ?_, fun m h hm => ?_, fun m k h h' hm hk horder => ?_⟩
  · rcases hopen hm with ⟨rfl, rfl⟩ | ⟨hne, hm⟩
    · exact ⟨by simpa using ha.normal, u.granted m e q, by simp [State.opensHold], State.granted_pass _ _ _ _, rfl, _, rfl⟩
    · obtain ⟨hnormal, x, hx, hrest⟩ := hok.hold m h hm
      refine ⟨by simp [hne, hu.state, hnormal], x, ?_, hrest⟩
      simp [hok.slot_ne hm hbare, hu.entryAt, hx]
  · rw [State.grant_entryAt] at hx
    split at hx
    next hkn =>
      obtain rfl := Option.some.inj hx
      obtain rfl : l = m := by simpa [State.granted_marker] using hmark
      exact ⟨u.opensHold l n e q, by simp, hkn.symm⟩
    next hkn =>
      rw [hu.entryAt] at hx
      obtain ⟨h, hm, rfl⟩ := hok.marker k x m hx hmark
      have hne : m ≠ l := by
        rintro rfl
        have hnone := ha.hold
        rw [hu.hold, hm] at hnone
        cases hnone
      exact ⟨h, by simp [hne, hu.hold, hm], rfl⟩
  · rw [show (u.grant l n e q).arbiter = u.arbiter by simp]
    rcases hopen hm with ⟨-, rfl⟩ | ⟨-, hm⟩
    · exact Nat.le_refl _
    · exact (hok.order m h hm).trans hgrant.le
  · rcases hopen hm with ⟨hml, hh⟩ | ⟨-, hold⟩ <;> rcases hopen hk with ⟨hkl, hh'⟩ | ⟨-, hold'⟩
    · rw [hml, hkl]
    · have hold' := hok.order k h' hold'
      rw [hh, hnew] at horder
      omega
    · have hold := hok.order m h hold
      rw [hh', hnew] at horder
      omega
    · exact hok.orders m k h h' hold hold' horder

theorem State.reset_lane (l : Lane) : State.reset.lane l = .powerOn := by
  simp [State.lane, State.reset]

theorem State.reset_holdsOk : State.reset.HoldsOk := by
  have hnone (l : Lane) : (State.reset.lane l).hold = none := by rw [State.reset_lane]; rfl
  exact ⟨by simp [hnone], by simp [State.entryAt, State.reset], by simp [hnone], by simp [hnone]⟩

/-- Every move keeps open holds and markers matched. -/
theorem State.Move.holdsOk {s t : State} (h : s.Move t) (hok : s.HoldsOk) : t.HoldsOk := by
  cases h with
  | quiet hq => exact hok.quiet hq
  | opens hu hgrant ha => exact (hok.opens hu hgrant ha).congr (by simp) (by simp) (by simp) (by simp)
  | @drop l h k hh _ =>
    refine hok.ends hh (fun e he => ?_) (fun m hm => ?_) (fun m => ?_) (fun m => ?_) (by simp)
    · obtain ⟨e₀, -, he₀, -⟩ := hok.entry hh
      rw [State.undoGrant_of_entry he₀] at he
      obtain rfl : e₀.undone h (s.history.undo h.facts h.lift e₀.chain).1 = e := by simpa using he
      rfl
    · simpa using State.undoGrant_entryAt_ne l hm
    · by_cases hm : m = l <;> simp [hm]
    · by_cases hm : m = l <;> simp [hm]
  | @commit l h hh =>
    refine hok.ends hh (fun e he => ?_) (fun m hm => ?_) (fun m => ?_) (fun m => ?_) (by simp)
    · simp only [State.countDayOnly_frame, State.setHold_frame, State.modEntry_entryAt, if_true, Option.map_eq_some_iff] at he
      obtain ⟨e', -, rfl⟩ := he
      rfl
    · simp [State.modEntry_entryAt, hm]
    · by_cases hm : m = l <;> simp [hm]
    · by_cases hm : m = l <;> simp [hm]
  | @restate l x d hnone =>
    refine hok.congr (by simp) (fun m => ?_) (fun m hm => ?_) (by simp)
    · by_cases hml : m = l <;> simp [hml]
    · by_cases hml : m = l
      · subst hml; simp [hnone hok] at hm
      · simp [hml]
  | close hnone => exact hok.congr (by simp) (by simp [LaneRec.warm, hnone]) (by simp [LaneRec.warm]) (by simp)
  | @due l =>
    have hread (m : Lane) : (s.makeDue l).lane m = if m = l then
        { s.lane l with hold := (s.lane l).hold.map fun h => { h with pendingExpiry := true } } else s.lane m := by
      simp [State.makeDue]
    have hopen {m : Lane} {h' : Hold} (hm : ((s.makeDue l).lane m).hold = some h') :
        ∃ h, (s.lane m).hold = some h ∧ h'.slot = h.slot ∧ h'.pass = h.pass ∧ h'.order = h.order := by
      rw [hread] at hm
      split at hm
      next hml =>
        obtain ⟨h, hh, rfl⟩ := Option.map_eq_some_iff.1 hm
        exact ⟨h, hml ▸ hh, rfl, rfl, rfl⟩
      · exact ⟨h', hm, rfl, rfl, rfl⟩
    have hstate (m : Lane) : ((s.makeDue l).lane m).state = (s.lane m).state := by
      rw [hread]; split <;> simp_all
    have hgrants : (s.makeDue l).arbiter.nextGrant = s.arbiter.nextGrant := by simp [State.makeDue]
    refine ⟨fun m h' hm => ?_, fun n e m he hmark => ?_, fun m h' hm => ?_, fun m k h' h'' hm hk horder => ?_⟩
    · obtain ⟨h, hh, hslot, hpass, -⟩ := hopen hm
      obtain ⟨hnormal, e, he, hpass', hrest⟩ := hok.hold m h hh
      exact ⟨(hstate m).trans hnormal, e, by simpa [hslot] using he, hpass'.trans hpass.symm, hrest⟩
    · obtain ⟨h, hh, hslot⟩ := hok.marker n e m (by simpa using he) hmark
      by_cases hml : m = l
      · subst hml
        exact ⟨{ h with pendingExpiry := true }, by simp [hread, hh], hslot⟩
      · exact ⟨h, by simp [hread, hml, hh], hslot⟩
    · obtain ⟨h, hh, -, -, horder⟩ := hopen hm
      rw [hgrants, horder]
      exact hok.order m h hh
    · obtain ⟨h, hh, -, -, ho⟩ := hopen hm
      obtain ⟨g, hg, -, -, ho'⟩ := hopen hk
      exact hok.orders m k h g hh hg (by rw [← ho, ← ho', horder])
  | roll => exact hok.congr (by simp) (by simp) (by simp) (by simp)
  | edit he hm _ =>
    have hnone := hm hok
    exact hok.put (fun x hx => by rw [he] at hx; rw [← Option.some.inj hx, hnone]) (by simp [hnone])
      (fun m hm => by simp [hm]) (by simp) (by simp) (by simp)
  | use he hm _ _ _ _ =>
    have hnone := hm hok
    exact hok.put (fun x hx => by rw [he] at hx; rw [← Option.some.inj hx, hnone]) (by simp [hnone])
      (fun m hm => by simp [hm]) (by simp) (by simp) (by simp)
  | @place n _ hv hnew _ _ _ =>
    exact hok.put (n := n) (by simp [hv.free]) (by simp [hnew.marker]) (fun m hm => by simp [hm]) (by simp) (by simp) (by simp)
  | @restore n _ _ _ hv hnew _ _ _ _ _ =>
    exact hok.put (n := n) (by simp [hv.free]) (by simp [hnew.marker]) (fun m hm => by simp [hm]) (by simp) (by simp) (by simp)
  | retire he hm _ =>
    exact hok.put (fun x hx => by rw [he] at hx; rw [← Option.some.inj hx, hm]) (by simp) (fun m hm => by simp [hm]) (by simp)
      (by simp) (by simp)
  | powerOn => exact State.reset_holdsOk.congr (fun _ => rfl) (fun _ => rfl) (fun _ _ => rfl) (Nat.le_refl _)

/-- Settles O57: every move of the path that a step takes keeps holds and markers matched. -/
theorem stepsKeepHoldsAndMarkersMatched : Obligations.StepsKeepHoldsAndMarkersMatched := by
  unfold Obligations.StepsKeepHoldsAndMarkersMatched
  exact fun s t _ hok hstep => step_keeps (fun _ _ hmove => hmove.holdsOk) hstep hok

/-! ### The balance of the day set -/

theorem State.Balanced.congr {s t : State} {l : Lane} (hb : s.Balanced l) (hday : ∀ k ∈ balanceCounters, t.dayCount l k = s.dayCount l k)
    (hhold : (t.lane l).hold.isSome = (s.lane l).hold.isSome) : t.Balanced l := by
  unfold State.Balanced at hb ⊢
  rwa [hhold, hday .granted (by decide), hday .committed (by decide), hday .released (by decide), hday .expired (by decide)]

/-- Counting a grant opens the balance, which the hold that it opens closes. -/
theorem State.Balanced.grants {s t : State} {l : Lane} (hb : s.Balanced l) (hnone : (s.lane l).hold = none)
    (hsome : (t.lane l).hold.isSome = true)
    (hday : ∀ k, t.dayCount l k = if k = .granted then bump Config.dayTop (s.dayCount l k) else s.dayCount l k) : t.Balanced l := by
  unfold State.Balanced at hb ⊢
  simp only [hday, hsome, hnone, reduceCtorEq, if_true, if_false, bump, Option.isSome_none, Bool.false_eq_true] at hb ⊢
  intro hlt
  split at hlt
  next h => rw [if_pos h, hb h]
  next h => exact absurd hlt h

/-- Counting the end of a hold closes what the end of the hold opens. -/
theorem State.Balanced.ends {s t : State} {l : Lane} {k : LaneCounter} (hb : s.Balanced l) (hsome : (s.lane l).hold.isSome = true)
    (hnone : (t.lane l).hold = none) (hk : k ∈ [LaneCounter.committed, .released, .expired])
    (hday : ∀ j, t.dayCount l j = if j = k then bump Config.dayTop (s.dayCount l j) else s.dayCount l j) : t.Balanced l := by
  unfold State.Balanced at hb ⊢
  have hgranted : k ≠ .granted := by rintro rfl; simp at hk
  simp only [hday, hgranted.symm, hsome, hnone, if_true, if_false, Option.isSome_none, Bool.false_eq_true, bump] at hb ⊢
  intro hlt
  have hb := hb hlt
  simp only [List.mem_cons, List.not_mem_nil, or_false] at hk
  rcases hk with rfl | rfl | rfl <;> simp only [reduceCtorEq, if_true, if_false] <;> rw [if_pos (by omega)] <;> omega

theorem State.reset_balanced (l : Lane) : State.reset.Balanced l := by
  have hzero (k : LaneCounter) : State.reset.dayCount l k = 0 := CountSet.zero_lane l k
  have hnone : (State.reset.lane l).hold = none := by rw [State.reset_lane]; rfl
  simp [State.Balanced, hzero, hnone]

/-- The day set that a rollover leaves (R140). -/
theorem State.rolledDaySet_lane (s : State) (l : Lane) (k : LaneCounter) :
    s.rolledDaySet.lane l k = if k = .granted ∧ (s.lane l).hold.isSome then 1 else 0 := by
  have hval : (LaneCounter.granted.index.val = k.index.val) ↔ k = .granted :=
    ⟨fun h => (LaneCounter.index_injective (Fin.ext h)).symm, fun h => h ▸ rfl⟩
  simp only [State.rolledDaySet, CountSet.lane, Fin.getElem_fin, Vector.getElem_ofFn, Vector.getElem_set, hval, Fin.eta]
  by_cases hk : k = .granted
  · simp [hk]
  · simp [hk, Vector.getElem_replicate]

theorem State.rolledDaySet_lift (s : State) (f : Lift) (k : LiftCounter) : s.rolledDaySet.lift f k = 0 := CountSet.zero_lift f k

/-- Every move keeps the balance of every lane. -/
theorem State.Move.balanced {s t : State} (h : s.Move t) (hb : ∀ l, s.Balanced l) (m : Lane) : t.Balanced m := by
  have ended {t : State} {l : Lane} {h : Hold} {k : LaneCounter} (hh : (s.lane l).hold = some h)
      (hk : k ∈ [LaneCounter.committed, .released, .expired]) (hcounts : t.counts = s.counts)
      (hlane : ∀ m, (t.lane m).hold = if m = l then none else (s.lane m).hold) : (t.countDayOnly l k).Balanced m := by
    have hsame := State.dayCount_congr hcounts
    by_cases hm : m = l
    · subst hm
      exact (hb m).ends (by simp [hh]) (by simp [hlane]) hk fun j => by by_cases hj : j = k <;> simp [hj, hsame]
    · exact (hb m).congr (fun j _ => by simp [hm, hsame]) (by simp [hlane, hm])
  cases h with
  | quiet hq => exact (hb m).congr (hq.day m) (by rw [hq.hold])
  | @opens u l n e q hu _ ha =>
    have hday (k : LaneCounter) (hk : k ∈ balanceCounters) : (u.grant l n e q).dayCount m k = s.dayCount m k :=
      (State.dayCount_congr (by simp) m k).trans (hu.day m k hk)
    have hu_balanced : u.Balanced m := (hb m).congr (hu.day m) (by rw [hu.hold])
    by_cases hm : m = l
    · subst hm
      refine hu_balanced.grants ha.hold (by simp) fun j => ?_
      have hgrant (j : LaneCounter) : (u.grant m n e q).dayCount m j = u.dayCount m j := State.dayCount_congr (by simp) m j
      by_cases hj : j = .granted <;> simp [hj, hgrant]
    · exact (hb m).congr (fun j hj => by simp [hm, hday j hj]) (by simp [hm, hu.hold])
  | drop hh hk => exact ended hh (List.mem_cons_of_mem _ hk) (by simp) fun m => by split <;> simp_all
  | commit hh => exact ended hh (by simp) (by simp) fun m => by split <;> simp_all
  | @restate l x d hnone =>
    refine (hb m).congr (fun j _ => State.dayCount_congr (by simp) m j) ?_
    by_cases hm : m = l <;> simp [hm]
  | close hnone => exact (hb m).congr (fun j _ => State.dayCount_congr (by simp) m j) (by simp [LaneRec.warm, hnone])
  | @due l =>
    refine (hb m).congr (fun j _ => State.dayCount_congr (by simp) m j) ?_
    by_cases hm : m = l <;> simp [State.makeDue, hm]
  | roll =>
    have hday (k : LaneCounter) : s.rollCounts.dayCount m k = s.rolledDaySet.lane m k := rfl
    unfold State.Balanced
    simp [hday, State.rolledDaySet_lane]
  | edit _ _ _ => exact (hb m).congr (fun j _ => State.dayCount_congr (by simp) m j) (by simp)
  | use _ _ _ _ _ _ => exact (hb m).congr (fun j _ => State.dayCount_congr (by simp) m j) (by simp)
  | place _ _ _ _ _ => exact (hb m).congr (fun j _ => State.dayCount_congr (by simp) m j) (by simp)
  | restore _ _ _ _ _ _ _ => exact (hb m).congr (fun j _ => State.dayCount_congr (by simp) m j) (by simp)
  | retire _ _ _ => exact (hb m).congr (fun j _ => State.dayCount_congr (by simp) m j) (by simp)
  | powerOn => exact (State.reset_balanced m).congr (fun _ _ => rfl) rfl

/-- Settles O58: every move of the path that a step takes keeps the balance, with the holds it rests on. -/
theorem stepsKeepTheDayBalance : Obligations.StepsKeepTheDayBalance := by
  unfold Obligations.StepsKeepTheDayBalance
  exact fun s t hok hb hstep =>
    (step_keeps (P := fun x => x.HoldsOk ∧ ∀ l, x.Balanced l)
      (fun _ _ hmove hx => ⟨hmove.holdsOk hx.1, hmove.balanced hx.2⟩) hstep ⟨hok, hb⟩).2

end Sys2Proof.Machine

/-! Chains of granules: how a chain is read, and what each operation of the use history store does to one chain beside the others. -/

namespace Sys2Proof.Machine

/-! ### Reading a chain -/

/-- Granule `g` is full, and the granule after it is `g'` (R26). -/
def History.LinksTo (h : History) (g g' : Nat) : Prop :=
  ∃ rs, h.granule g = some { link := .next g', records := rs } ∧ rs.length = Config.placeCount

/-- Granule `g` ends a chain with `k` records (R26). -/
def History.Ends (h : History) (k g : Nat) : Prop :=
  1 ≤ k ∧ k ≤ Config.placeCount ∧ ∃ rs, h.granule g = some { link := .last k, records := rs } ∧ rs.length = k

/-- The granules `gs` are those of the chain, in its order. -/
def History.Spans (h : History) (c : Option Chain) (gs : List Nat) : Prop :=
  match c with
  | none => gs = []
  | some c => gs.IsChain h.LinksTo ∧ h.Ends c.fill c.tail ∧ gs.head? = some c.head ∧ gs.getLast? = some c.tail

theorem History.linked_concat {h : History} {k t : Nat} {pre : List Nat} :
    h.Linked k (pre ++ [t]) ↔ (pre ++ [t]).IsChain h.LinksTo ∧ h.Ends k t := by
  induction pre with
  | nil => simp [History.Linked, History.Ends]
  | cons g pre ih =>
    cases pre with
    | nil => simp [History.Linked, History.Ends, History.LinksTo]
    | cons g' pre =>
      simp only [List.cons_append, History.Linked, List.isChain_cons_cons, and_assoc] at ih ⊢
      rw [ih]
      rfl

theorem History.chainOk_iff {h : History} {c : Option Chain} : h.ChainOk c ↔ h.Spans c (h.chainGranules c) := by
  cases c with
  | none => simp [History.ChainOk, History.Spans, History.chainGranules]
  | some c =>
    simp only [History.ChainOk, History.Spans]
    constructor
    · rintro ⟨hl, hhead, htail⟩
      obtain ⟨pre, hpre⟩ := List.getLast?_eq_some_iff.1 htail
      rw [hpre] at hl ⊢
      obtain ⟨hchain, hends⟩ := History.linked_concat.1 hl
      exact ⟨hchain, hends, hpre ▸ hhead, hpre ▸ htail⟩
    · rintro ⟨hchain, hends, hhead, htail⟩
      obtain ⟨pre, hpre⟩ := List.getLast?_eq_some_iff.1 htail
      refine ⟨?_, hhead, htail⟩
      rw [hpre] at hchain ⊢
      exact History.linked_concat.2 ⟨hchain, hends⟩

/-- Reading on from the head of a chain gives its granules, when the fuel covers them. -/
theorem History.walkFrom_eq {h : History} {k t : Nat} (hends : h.Ends k t) {pre : List Nat} {g : Nat}
    (hchain : (pre ++ [t]).IsChain h.LinksTo) (hhead : (pre ++ [t]).head? = some g) {n : Nat} (hn : pre.length < n) :
    h.walkFrom n g = pre ++ [t] := by
  induction pre generalizing g n with
  | nil =>
    obtain ⟨-, -, rs, hrs, -⟩ := hends
    obtain rfl : t = g := by simpa using hhead
    obtain ⟨n, rfl⟩ := Nat.exists_eq_add_of_lt hn
    simp [History.walkFrom, hrs]
  | cons x pre ih =>
    obtain rfl : x = g := by simpa using hhead
    obtain ⟨y, hy⟩ : ∃ y, (pre ++ [t]).head? = some y := by cases pre <;> simp
    obtain ⟨n, rfl⟩ : ∃ m, n = m + 1 := ⟨n - 1, by omega⟩
    obtain ⟨hlink, hrest⟩ := List.isChain_cons.1 (List.cons_append ▸ hchain)
    obtain ⟨rs, hrs, -⟩ := hlink y hy
    rw [History.walkFrom, hrs]
    simp only [List.cons_append]
    rw [ih hrest hy (by simp at hn; omega)]

/-- Every granule of a chain is in use. -/
theorem History.Spans.used {h : History} {c : Option Chain} {gs : List Nat} (hs : h.Spans c gs) {g : Nat} (hg : g ∈ gs) :
    ∃ x, h.granule g = some x := by
  cases c with
  | none => rw [show gs = [] from hs] at hg; cases hg
  | some c =>
    obtain ⟨hchain, ⟨-, -, rs, hrs, -⟩, -, htail⟩ := hs
    obtain ⟨pre, rfl⟩ := List.getLast?_eq_some_iff.1 htail
    clear htail
    induction pre with
    | nil => exact ⟨_, by rw [List.mem_singleton.1 hg]; exact hrs⟩
    | cons x pre ih =>
      obtain ⟨hlink, hrest⟩ := List.isChain_cons.1 (List.cons_append ▸ hchain)
      rcases List.mem_cons.1 hg with rfl | hg
      · obtain ⟨y, hy⟩ : ∃ y, (pre ++ [c.tail]).head? = some y := by cases pre <;> simp
        obtain ⟨rs', hrs', -⟩ := hlink y hy
        exact ⟨_, hrs'⟩
      · exact ih hg hrest

theorem History.Spans.length_le {h : History} {c : Option Chain} {gs : List Nat} (hs : h.Spans c gs) (hnodup : gs.Nodup) :
    gs.length ≤ h.granules.length := by
  have hsub : gs ⊆ Table.keys h.granules := fun g hg => Table.mem_keys_iff.2 (hs.used hg)
  simpa [Table.keys] using (hnodup.subperm hsub).length_le

/-- The granules of a chain are what the store reads as its granules. -/
theorem History.Spans.eq {h : History} {c : Option Chain} {gs : List Nat} (hs : h.Spans c gs) (hnodup : gs.Nodup) :
    h.chainGranules c = gs := by
  have hlength := hs.length_le hnodup
  cases c with
  | none => exact (show gs = [] from hs).symm
  | some c =>
    obtain ⟨hchain, hends, hhead, htail⟩ := hs
    obtain ⟨pre, rfl⟩ := List.getLast?_eq_some_iff.1 htail
    exact History.walkFrom_eq hends hchain hhead (by simp at hlength; omega)

theorem History.LinksTo.congr {h h' : History} {g g' : Nat} (hl : h.LinksTo g g') (hread : h'.granule g = h.granule g) :
    h'.LinksTo g g' := by
  unfold History.LinksTo
  rwa [hread]

/-- Links are read from the granules before the last alone. -/
theorem History.isChain_congr {h h' : History} {pre : List Nat} {t : Nat} (hchain : (pre ++ [t]).IsChain h.LinksTo)
    (hread : ∀ g ∈ pre, h'.granule g = h.granule g) : (pre ++ [t]).IsChain h'.LinksTo := by
  induction pre with
  | nil => simp
  | cons x pre ih =>
    obtain ⟨hlink, hrest⟩ := List.isChain_cons.1 (List.cons_append ▸ hchain)
    rw [List.cons_append, List.isChain_cons]
    exact ⟨fun y hy => (hlink y hy).congr (hread x (by simp)), ih hrest fun g hg => hread g (List.mem_cons_of_mem _ hg)⟩

theorem History.Spans.congr {h h' : History} {c : Option Chain} {gs : List Nat} (hs : h.Spans c gs)
    (hread : ∀ g ∈ gs, h'.granule g = h.granule g) : h'.Spans c gs := by
  cases c with
  | none => exact hs
  | some c =>
    obtain ⟨hchain, ⟨h1, h6, hrs⟩, hhead, htail⟩ := hs
    obtain ⟨pre, rfl⟩ := List.getLast?_eq_some_iff.1 htail
    refine ⟨History.isChain_congr hchain fun g hg => hread g (by simp [hg]), ⟨h1, h6, ?_⟩, hhead, htail⟩
    rwa [hread c.tail (by simp)]

theorem History.records_eq (h : History) (c : Option Chain) : h.records c = (h.chainGranules c).flatMap h.placesOf := rfl

theorem History.placesOf_of_granule {h : History} {g : Nat} {x : Granule} (hg : h.granule g = some x) : h.placesOf g = x.records := by
  simp [History.placesOf, hg]

theorem History.placesOf_congr {h h' : History} {g : Nat} (hg : h'.granule g = h.granule g) : h'.placesOf g = h.placesOf g := by
  simp [History.placesOf, hg]

/-- A chain whose granules are not written reads the same. -/
theorem History.ChainOk.congr {h h' : History} {c : Option Chain} (hok : h.ChainOk c) (hnodup : (h.chainGranules c).Nodup)
    (hread : ∀ g ∈ h.chainGranules c, h'.granule g = h.granule g) :
    h'.ChainOk c ∧ h'.chainGranules c = h.chainGranules c ∧ h'.records c = h.records c := by
  have hs := (History.chainOk_iff.1 hok).congr hread
  have heq := hs.eq hnodup
  refine ⟨History.chainOk_iff.2 (heq ▸ hs), heq, ?_⟩
  rw [History.records_eq, History.records_eq, heq]
  exact List.flatMap_congr fun g hg => History.placesOf_congr (hread g hg)

/-! ### One chain beside the others -/

/-- The use history store parted into the free queue, one chain, and the granules `rest` of every other chain (R27). -/
structure History.Parts (h : History) (c : Option Chain) (rest : List Nat) : Prop where
  table : Table.wf Config.granuleCount h.granules
  chain : h.ChainOk c
  once  : (h.free ++ (h.chainGranules c ++ rest)).Nodup
  all   : ∀ g, g < Config.granuleCount ↔ g ∈ h.free ++ (h.chainGranules c ++ rest)
  empty : ∀ g ∈ h.free, h.granule g = none
  full  : h.full = true → h.free = []

section

variable {h h' : History} {c c' : Option Chain} {rest : List Nat}

theorem History.Parts.nodup (hp : h.Parts c rest) : (h.chainGranules c).Nodup :=
  (List.nodup_append.1 (List.nodup_append.1 hp.once).2.1).1

theorem History.Parts.lt (hp : h.Parts c rest) {g : Nat} (hg : g ∈ h.free ∨ g ∈ h.chainGranules c) : g < Config.granuleCount :=
  (hp.all g).2 (by rcases hg with hg | hg <;> simp [hg])

theorem History.Parts.free_not_chain (hp : h.Parts c rest) {g : Nat} (hg : g ∈ h.free) : g ∉ h.chainGranules c := fun hc =>
  (List.nodup_append.1 hp.once).2.2 g hg g (by simp [hc]) rfl

theorem History.Parts.rest_not_free (hp : h.Parts c rest) {g : Nat} (hg : g ∈ rest) : g ∉ h.free := fun hf =>
  (List.nodup_append.1 hp.once).2.2 g hf g (by simp [hg]) rfl

theorem History.Parts.rest_not_chain (hp : h.Parts c rest) {g : Nat} (hg : g ∈ rest) : g ∉ h.chainGranules c := fun hc =>
  (List.nodup_append.1 (List.nodup_append.1 hp.once).2.1).2.2 g hc g hg rfl

/-- A store that moves granules between the free queue and the one chain alone is parted again. -/
theorem History.Parts.change (hp : h.Parts c rest) {gs : List Nat} (htable : Table.wf Config.granuleCount h'.granules)
    (hs : h'.Spans c' gs) (hperm : (h'.free ++ gs).Perm (h.free ++ h.chainGranules c))
    (hempty : ∀ g ∈ h'.free, h'.granule g = none) (hfull : h'.full = true → h'.free = []) :
    h'.Parts c' rest ∧ h'.chainGranules c' = gs := by
  have hall : (h'.free ++ (gs ++ rest)).Perm (h.free ++ (h.chainGranules c ++ rest)) := by
    simpa only [List.append_assoc] using hperm.append_right rest
  have honce := hall.nodup_iff.2 hp.once
  have heq : h'.chainGranules c' = gs := hs.eq (List.nodup_append.1 (List.nodup_append.1 honce).2.1).1
  refine ⟨⟨htable, History.chainOk_iff.2 (heq ▸ hs), heq ▸ honce, fun g => ?_, hempty, hfull⟩, heq⟩
  rw [heq, hall.mem_iff]
  exact hp.all g

/-- What a chain that is present reads: its granules end with the tail granule. -/
theorem History.Parts.tail {c : Chain} (hp : h.Parts (some c) rest) : ∃ pre rs, h.chainGranules (some c) = pre ++ [c.tail]
    ∧ (pre ++ [c.tail]).IsChain h.LinksTo ∧ (pre ++ [c.tail]).head? = some c.head ∧ 1 ≤ c.fill ∧ c.fill ≤ Config.placeCount
    ∧ h.granule c.tail = some { link := .last c.fill, records := rs } ∧ rs.length = c.fill ∧ ∀ g ∈ pre, g ≠ c.tail := by
  obtain ⟨hchain, ⟨h1, h6, rs, hrs, hlen⟩, hhead, htail⟩ := History.chainOk_iff.1 hp.chain
  obtain ⟨pre, hpre⟩ := List.getLast?_eq_some_iff.1 htail
  have honce := hp.nodup
  rw [hpre, List.nodup_append] at honce
  exact ⟨pre, rs, hpre, hpre ▸ hchain, hpre ▸ hhead, h1, h6, hrs, hlen, fun g hg => honce.2.2 g hg c.tail (by simp)⟩

end

/-! ### Writes of single granules -/

@[simp] theorem History.putGranule_granule (h : History) (g j : Nat) (x : Granule) :
    (h.putGranule g x).granule j = if j = g then some x else h.granule j := by
  simp [History.granule, History.putGranule]

@[simp] theorem History.putGranule_free (h : History) (g : Nat) (x : Granule) : (h.putGranule g x).free = h.free := rfl

@[simp] theorem History.putGranule_full (h : History) (g : Nat) (x : Granule) : (h.putGranule g x).full = h.full := rfl

@[simp] theorem History.withFree_granule (h : History) (fs : List Nat) (g : Nat) :
    History.granule { h with free := fs } g = h.granule g := rfl

@[simp] theorem History.withFull_granule (h : History) (b : Bool) (g : Nat) : History.granule { h with full := b } g = h.granule g := rfl

@[simp] theorem History.returnHead_granule (h : History) (g j : Nat) :
    (h.returnHead g).granule j = if j = g then none else h.granule j := by
  simp [History.granule, History.returnHead]

theorem History.putGranule_wf {h : History} (hw : Table.wf Config.granuleCount h.granules) {g : Nat} (hg : g < Config.granuleCount)
    (x : Granule) : Table.wf Config.granuleCount (h.putGranule g x).granules := Table.put_wf hw hg x

/-! ### The append -/

/-- Records appended to an entry without a chain (R28, R39). -/
theorem History.append_none {h : History} {g : Nat} {free : List Nat} (hfree : h.free = g :: free) (rs : List UseRecord) :
    h.append none rs = some
      { history := History.putGranule { h with free := free } g { link := .last rs.length, records := rs }
        chain := { head := g, tail := g, fill := rs.length }, allocated := true } := by
  simp [History.append, hfree]

/-- Records appended to the free places of the tail granule (R28). -/
theorem History.append_here {h : History} {c : Chain} {rs : List UseRecord} (hfit : c.fill + rs.length ≤ Config.placeCount) :
    h.append (some c) rs = some
      { history := h.putGranule c.tail { link := .last (c.fill + rs.length), records := h.placesOf c.tail ++ rs }
        chain := { c with fill := c.fill + rs.length }, allocated := false } := by
  have htake : rs.take (Config.placeCount - c.fill) = rs := List.take_of_length_le (by omega)
  have hdrop : rs.drop (Config.placeCount - c.fill) = [] := List.drop_of_length_le (by omega)
  simp [History.append, htake, hdrop]

theorem History.append_later {c : Chain} {rs : List UseRecord} (hfit : ¬ c.fill + rs.length ≤ Config.placeCount)
    (hfill : c.fill ≤ Config.placeCount ∨ rs ≠ []) : (rs.drop (Config.placeCount - c.fill)).isEmpty = false := by
  have hne : rs ≠ [] := by
    rintro rfl
    rcases hfill with h | h
    · simp at hfit; omega
    · exact h rfl
  have hpos := List.length_pos_iff.2 hne
  have hlen : (rs.drop (Config.placeCount - c.fill)).length ≠ 0 := by simp; omega
  rw [List.isEmpty_eq_false_iff]
  exact fun hdrop => hlen (by rw [hdrop]; rfl)

/-- Records appended past the end of the tail granule, into a granule from the head of the free queue (R28, R29). -/
theorem History.append_grow {h : History} {c : Chain} {rs : List UseRecord} {g : Nat} {free : List Nat} (hne : rs ≠ [])
    (hfit : ¬ c.fill + rs.length ≤ Config.placeCount) (hfree : h.free = g :: free) :
    h.append (some c) rs = some
      { history := (History.putGranule { h with free := free } c.tail
            { link := .next g, records := h.placesOf c.tail ++ rs.take (Config.placeCount - c.fill) }).putGranule g
          { link := .last (rs.drop (Config.placeCount - c.fill)).length, records := rs.drop (Config.placeCount - c.fill) }
        chain := { c with tail := g, fill := (rs.drop (Config.placeCount - c.fill)).length }, allocated := true } := by
  simp [History.append, History.append_later hfit (.inr hne), hfree]

/-- Nothing is appended exactly when a granule is needed and the free queue is empty (R20, R28, R30). -/
theorem History.append_eq_none {h : History} {rs : List UseRecord} (hne : rs ≠ []) {c : Option Chain} :
    h.append c rs = none ↔ (∀ x, c = some x → Config.placeCount < x.fill + rs.length) ∧ h.free = [] := by
  cases c with
  | none => cases hfree : h.free <;> simp [History.append, hfree]
  | some c =>
    by_cases hfit : c.fill + rs.length ≤ Config.placeCount
    · simp only [History.append_here hfit, reduceCtorEq, false_iff, Option.some.injEq, forall_eq', not_and]
      omega
    · cases hfree : h.free with
      | nil => simpa [History.append, History.append_later hfit (.inr hne), hfree] using hfit
      | cons g free => simp [History.append_grow hne hfit hfree]

/-- The places of the granules of a chain, the tail granule last. -/
theorem History.records_of_granules {h : History} {c : Option Chain} {pre : List Nat} {t : Nat} {x : Granule}
    (hgs : h.chainGranules c = pre ++ [t]) (ht : h.granule t = some x) : h.records c = pre.flatMap h.placesOf ++ x.records := by
  simp [History.records_eq, hgs, History.placesOf_of_granule ht]

theorem History.flatMap_placesOf_congr {h h' : History} {gs : List Nat} (hread : ∀ g ∈ gs, h'.granule g = h.granule g) :
    gs.flatMap h'.placesOf = gs.flatMap h.placesOf := List.flatMap_congr fun g hg => History.placesOf_congr (hread g hg)

section

variable {h h' : History} {c : Option Chain} {rest : List Nat} {rs : List UseRecord}

theorem History.Parts.free_head (hp : h.Parts c rest) {g : Nat} {free : List Nat} (hfree : h.free = g :: free) :
    g ∈ h.free ∧ (∀ j ∈ free, j ∈ h.free ∧ j ≠ g) ∧ h.full = false := by
  have honce := (List.nodup_append.1 hp.once).1
  rw [hfree] at honce ⊢
  refine ⟨by simp, fun j hj => ⟨by simp [hj], fun hjg => (List.nodup_cons.1 honce).1 (hjg ▸ hj)⟩, ?_⟩
  have := hp.full
  rw [hfree] at this
  simpa using this

/-- A chain begins in the granule at the head of the free queue. -/
theorem History.Parts.begins (hp : h.Parts none rest) {g : Nat} {free : List Nat} (hfree : h.free = g :: free) (hne : rs ≠ [])
    (hfew : rs.length ≤ Config.placeCount) (htable : Table.wf Config.granuleCount h'.granules) (hfree' : h'.free = free)
    (hfull : h'.full = h.full) (hg : h'.granule g = some { link := .last rs.length, records := rs })
    (hread : ∀ j, j ≠ g → h'.granule j = h.granule j) :
    h'.Parts (some { head := g, tail := g, fill := rs.length }) rest
      ∧ h'.records (some { head := g, tail := g, fill := rs.length }) = h.records none ++ rs
      ∧ ∀ j ∈ rest, h'.granule j = h.granule j := by
  obtain ⟨hmem, hfresh, hnotfull⟩ := hp.free_head hfree
  obtain ⟨hparts, hgs⟩ := hp.change (c' := some { head := g, tail := g, fill := rs.length }) (gs := [g]) htable
    ⟨by simp, ⟨List.length_pos_iff.2 hne, hfew, rs, hg, rfl⟩, rfl, rfl⟩
    (by rw [hfree, hfree', show h.chainGranules none = [] from rfl, List.append_nil]; exact List.perm_append_comm)
    (fun j hj => by
      obtain ⟨hj, hjg⟩ := hfresh j (hfree' ▸ hj)
      rw [hread j hjg, hp.empty j hj])
    (fun hf => by simp [hfull, hnotfull] at hf)
  refine ⟨hparts, ?_, fun j hj => hread j fun hjg => hp.rest_not_free hj (hjg ▸ hmem)⟩
  rw [History.records_of_granules (pre := []) hgs hg]
  rfl

/-- The tail granule of a chain takes records into its free places, or loses some; it stays the tail. -/
theorem History.Parts.retails {c : Chain} {k : Nat} (hp : h.Parts (some c) rest) (h1 : rs ≠ []) (hk : rs.length = k)
    (hfew : k ≤ Config.placeCount) (htable : Table.wf Config.granuleCount h'.granules) (hfree : h'.free = h.free)
    (hfull : h'.full = h.full) (hg : h'.granule c.tail = some { link := .last k, records := rs })
    (hread : ∀ j, j ≠ c.tail → h'.granule j = h.granule j) :
    h'.Parts (some { c with fill := k }) rest
      ∧ (∃ older, h.records (some c) = older ++ h.placesOf c.tail ∧ h'.records (some { c with fill := k }) = older ++ rs)
      ∧ (∀ j ∈ rest, h'.granule j = h.granule j)
      ∧ h'.chainGranules (some { c with fill := k }) = h.chainGranules (some c) := by
  obtain ⟨pre, old, hgs, hchain, hhead, -, -, hold, -, hpre⟩ := hp.tail
  have htail : c.tail ∈ h.chainGranules (some c) := by simp [hgs]
  have hpos := List.length_pos_iff.2 h1
  obtain ⟨hparts, hgs'⟩ := hp.change (c' := some { c with fill := k }) (gs := pre ++ [c.tail]) htable
    ⟨History.isChain_congr hchain fun g hg => hread g (hpre g hg), ⟨by dsimp only; omega, hfew, rs, hg, hk⟩, hhead, by simp⟩
    (by rw [hgs, hfree])
    (fun j hj => by
      rw [hfree] at hj
      rw [hread j fun hjt => hp.free_not_chain hj (hjt ▸ htail), hp.empty j hj])
    (fun hf => by rw [hfree]; exact hp.full (hfull ▸ hf))
  refine ⟨hparts, ⟨pre.flatMap h.placesOf, ?_, ?_⟩, fun j hj => hread j fun hjt => hp.rest_not_chain hj (hjt ▸ htail),
    hgs'.trans hgs.symm⟩
  · rw [History.records_of_granules hgs hold, History.placesOf_of_granule hold]
  · rw [History.records_of_granules hgs' hg, History.flatMap_placesOf_congr fun g hg => hread g (hpre g hg)]

/-- The tail granule of a chain is filled, and the granule at the head of the free queue becomes the tail. -/
theorem History.Parts.grows {c : Chain} {here : List UseRecord} (hp : h.Parts (some c) rest) {g : Nat} {free : List Nat}
    (hfree : h.free = g :: free) (hne : rs ≠ []) (hfew : rs.length ≤ Config.placeCount)
    (hhere : (h.placesOf c.tail ++ here).length = Config.placeCount) (htable : Table.wf Config.granuleCount h'.granules)
    (hfree' : h'.free = free) (hfull : h'.full = h.full)
    (ht : c.tail ≠ g → h'.granule c.tail = some { link := .next g, records := h.placesOf c.tail ++ here })
    (hg : h'.granule g = some { link := .last rs.length, records := rs })
    (hread : ∀ j, j ≠ c.tail → j ≠ g → h'.granule j = h.granule j) :
    h'.Parts (some { c with tail := g, fill := rs.length }) rest
      ∧ h'.records (some { c with tail := g, fill := rs.length }) = h.records (some c) ++ (here ++ rs)
      ∧ (∀ j ∈ rest, h'.granule j = h.granule j)
      ∧ h'.chainGranules (some { c with tail := g, fill := rs.length }) = h.chainGranules (some c) ++ [g] := by
  obtain ⟨pre, old, hgs, hchain, hhead, -, -, hold, -, hpre⟩ := hp.tail
  obtain ⟨hmem, hfresh, hnotfull⟩ := hp.free_head hfree
  have htail : c.tail ∈ h.chainGranules (some c) := by simp [hgs]
  have ht := ht fun hgt => hp.free_not_chain hmem (hgt ▸ htail)
  have hkept (j : Nat) (hj : j ∈ pre) : h'.granule j = h.granule j :=
    hread j (hpre j hj) fun hjg => hp.free_not_chain hmem (by simp [hgs, ← hjg, hj])
  obtain ⟨hparts, hgs'⟩ := hp.change (c' := some { c with tail := g, fill := rs.length }) (gs := (pre ++ [c.tail]) ++ [g]) htable
    ⟨List.isChain_append.2 ⟨History.isChain_congr hchain hkept, by simp, by simpa using ⟨_, ht, hhere⟩⟩,
      ⟨List.length_pos_iff.2 hne, hfew, rs, hg, rfl⟩, by simpa using hhead, by simp⟩
    (by rw [hfree, hfree', hgs, ← List.append_assoc]; exact List.perm_append_comm)
    (fun j hj => by
      obtain ⟨hj, hjg⟩ := hfresh j (hfree' ▸ hj)
      rw [hread j (fun hjt => hp.free_not_chain hj (hjt ▸ htail)) hjg, hp.empty j hj])
    (fun hf => by simp [hfull, hnotfull] at hf)
  refine ⟨hparts, ?_, fun j hj =>
    hread j (fun hjt => hp.rest_not_chain hj (hjt ▸ htail)) fun hjg => hp.rest_not_free hj (hjg ▸ hmem), by rw [hgs', hgs]⟩
  rw [History.records_of_granules hgs' hg, List.flatMap_append, History.flatMap_placesOf_congr hkept,
    History.records_of_granules hgs hold]
  simp [History.placesOf_of_granule ht, History.placesOf_of_granule hold]

/-- An append keeps the store parted, puts the records behind the older ones, and touches no other chain (R25, R28, R29). -/
theorem History.Parts.append {c : Option Chain} (hp : h.Parts c rest) (hne : rs ≠ []) (hfew : rs.length ≤ Config.placeCount)
    {a : Appended} (ha : h.append c rs = some a) :
    a.history.Parts (some a.chain) rest ∧ a.history.records (some a.chain) = h.records c ++ rs
      ∧ ∀ g ∈ rest, a.history.granule g = h.granule g := by
  cases c with
  | none =>
    cases hfree : h.free with
    | nil => cases ((History.append_eq_none hne).2 ⟨by simp, hfree⟩).symm.trans ha
    | cons g free =>
      rw [History.append_none hfree] at ha
      cases ha
      dsimp only
      exact hp.begins hfree hne hfew (History.putGranule_wf hp.table (hp.lt (.inl (hp.free_head hfree).1)) _) rfl rfl (by simp)
        fun j hj => by simp [hj]
  | some c =>
    obtain ⟨pre, old, hgs, -, -, h1, h6, hold, hlen, -⟩ := hp.tail
    have hplaces : h.placesOf c.tail = old := History.placesOf_of_granule hold
    have htail : c.tail ∈ h.chainGranules (some c) := by simp [hgs]
    by_cases hfit : c.fill + rs.length ≤ Config.placeCount
    · rw [History.append_here hfit] at ha
      cases ha
      obtain ⟨hparts, ⟨older, holder, hrecords⟩, hkept, -⟩ := hp.retails
        (h' := h.putGranule c.tail { link := .last (c.fill + rs.length), records := h.placesOf c.tail ++ rs }) (rs := h.placesOf c.tail ++ rs) (by simp [hne])
        (by simp [hplaces, hlen]) hfit (History.putGranule_wf hp.table (hp.lt (.inr htail)) _) rfl rfl (by simp)
        fun j hj => by simp [hj]
      exact ⟨hparts, by rw [hrecords, holder, List.append_assoc], hkept⟩
    · cases hfree : h.free with
      | nil => cases ((History.append_eq_none hne).2 ⟨fun x hx => Option.some.inj hx ▸ Nat.lt_of_not_le hfit, hfree⟩).symm.trans ha
      | cons g free =>
        rw [History.append_grow hne hfit hfree] at ha
        have ha := (Option.some.inj ha).symm
        have hmem := hp.lt (.inl (hp.free_head hfree).1)
        obtain ⟨hparts, hrecords, hkept, -⟩ := hp.grows (h' := a.history) (rs := rs.drop (Config.placeCount - c.fill))
          (here := rs.take (Config.placeCount - c.fill)) hfree
          (by simpa using History.append_later hfit (.inr hne)) (by simp; omega) (by simp [hplaces, hlen]; omega)
          (ha ▸ History.putGranule_wf (History.putGranule_wf hp.table (hp.lt (.inr htail)) _) hmem _) (by simp [ha]) (by simp [ha])
          (fun hgt => by simp [ha, hgt]) (by simp [ha]) fun j hj hj' => by simp [ha, hj, hj']
        rw [List.take_append_drop] at hrecords
        have hchain : a.chain = { c with tail := g, fill := (rs.drop (Config.placeCount - c.fill)).length } := by rw [ha]
        rw [hchain]
        exact ⟨hparts, hrecords, hkept⟩

end

end Sys2Proof.Machine

/-! The update, the undo of a grant and the retirement of a chain (R31 to R37). -/

namespace Sys2Proof.Machine

section

variable {h h' : History} {c : Option Chain} {rest : List Nat} {rs : List UseRecord}

/-! ### The tail record amended -/

/-- The tail granule of a chain holds the records before the tail record, and the tail record. -/
theorem History.Parts.tail_record {c : Chain} (hp : h.Parts (some c) rest) : ∃ older x,
    h.granule c.tail = some { link := .last c.fill, records := older ++ [x] } ∧ c.fill = older.length + 1 := by
  obtain ⟨-, old, -, -, -, h1, -, hold, hlen, -⟩ := hp.tail
  have hne : old ≠ [] := by rintro rfl; simp at hlen; omega
  obtain ⟨older, x, rfl⟩ := (List.eq_nil_or_concat' old).resolve_left hne
  exact ⟨older, x, hold, by simpa using hlen.symm⟩

theorem History.amendTail_eq {c : Chain} {k : Link} {older : List UseRecord} {x : UseRecord}
    (ht : h.granule c.tail = some { link := k, records := older ++ [x] }) (f : UseRecord → UseRecord) :
    h.amendTail c f = h.putGranule c.tail { link := k, records := older ++ [f x] } := by
  simp [History.amendTail, ht]

/-- A change of the tail record keeps the store parted and touches no other record. -/
theorem History.Parts.amendTail {c : Chain} (hp : h.Parts (some c) rest) (f : UseRecord → UseRecord) :
    (h.amendTail c f).Parts (some c) rest
      ∧ (∃ older x, h.records (some c) = older ++ [x] ∧ (h.amendTail c f).records (some c) = older ++ [f x])
      ∧ (∀ j ∈ rest, (h.amendTail c f).granule j = h.granule j)
      ∧ (h.amendTail c f).chainGranules (some c) = h.chainGranules (some c)
      ∧ (h.amendTail c f).free = h.free ∧ (h.amendTail c f).full = h.full := by
  obtain ⟨older, x, hx, hfill⟩ := hp.tail_record
  obtain ⟨pre, -, hgs, -, -, -, hfew, -, -, -⟩ := hp.tail
  rw [History.amendTail_eq hx]
  obtain ⟨hparts, ⟨before, hbefore, hrecords⟩, hkept, hsame⟩ := hp.retails (rs := older ++ [f x]) (k := c.fill)
    (h' := h.putGranule c.tail { link := .last c.fill, records := older ++ [f x] }) (by simp) (by simp [hfill]) hfew
    (History.putGranule_wf hp.table (hp.lt (.inr (by simp [hgs]))) _) rfl rfl (by simp) fun j hj => by simp [hj]
  refine ⟨hparts, ⟨before ++ older, x, ?_, ?_⟩, hkept, hsame, rfl, rfl⟩
  · rw [hbefore, History.placesOf_of_granule hx, List.append_assoc]
  · rw [hrecords, List.append_assoc]

/-! ### The undo of a written record -/

/-- Every granule of a chain but the last links to a later one. -/
theorem History.links_on {pre : List Nat} {t g : Nat} (hchain : (pre ++ [t]).IsChain h.LinksTo) (hg : g ∈ pre) :
    ∃ g' ∈ pre ++ [t], h.LinksTo g g' := by
  induction pre with
  | nil => cases hg
  | cons x pre ih =>
    obtain ⟨hlink, hrest⟩ := List.isChain_cons.1 (List.cons_append ▸ hchain)
    rcases List.mem_cons.1 hg with rfl | hg
    · obtain ⟨y, hy⟩ : ∃ y, (pre ++ [t]).head? = some y := by cases pre <;> simp
      exact ⟨y, List.mem_cons_of_mem _ (List.mem_of_mem_head? hy), hlink y hy⟩
    · obtain ⟨g', hg', hl⟩ := ih hrest hg
      exact ⟨g', List.mem_cons_of_mem _ hg', hl⟩

theorem History.LinksTo.unique {g a b : Nat} (ha : h.LinksTo g a) (hb : h.LinksTo g b) : a = b := by
  obtain ⟨rs, hrs, -⟩ := ha
  obtain ⟨rs', hrs', -⟩ := hb
  exact (show a = b ∧ rs = rs' by simpa using hrs.symm.trans hrs').1

/-- A chain of two granules or more has a granule before its tail, and that is the one whose NEXT is the tail (R34). -/
theorem History.Parts.before_tail {c : Chain} (hp : h.Parts (some c) rest) (hne : c.head ≠ c.tail) :
    ∃ pre p, h.chainGranules (some c) = pre ++ [p] ++ [c.tail] ∧ h.LinksTo p c.tail ∧ (pre ++ [p]).IsChain h.LinksTo
      ∧ (pre ++ [p]).head? = some c.head ∧ (∀ g ∈ pre, g ≠ p)
      ∧ (h.chainGranules (some c)).find? (fun g => (h.granule g).any fun x => x.link == .next c.tail) = some p := by
  obtain ⟨before, -, hgs, hchain, hhead, -, -, -, -, htail⟩ := hp.tail
  have hbefore : before ≠ [] := by rintro rfl; exact hne (by simpa using hhead.symm)
  obtain ⟨pre, p, rfl⟩ := (List.eq_nil_or_concat' before).resolve_left hbefore
  obtain ⟨hpre, -, hlink⟩ := List.isChain_append.1 hchain
  have hlink : h.LinksTo p c.tail := hlink p (by simp) c.tail (by simp)
  have honce := hp.nodup
  rw [hgs, List.nodup_append, List.nodup_append] at honce
  have hlater : ∀ g ∈ pre, ¬ h.LinksTo g c.tail := fun g hg hgt => by
    obtain ⟨g', hg', hl⟩ := History.links_on hpre hg
    exact htail g' hg' (hl.unique hgt)
  refine ⟨pre, p, hgs, hlink, hpre, by cases pre <;> simpa using hhead, fun g hg => honce.1.2.2 g hg p (by simp), ?_⟩
  rw [List.find?_eq_some_iff_append, hgs]
  refine ⟨?_, pre, [c.tail], by simp, fun g hg => ?_⟩
  · obtain ⟨rs, hrs, -⟩ := hlink
    simp [hrs]
  · obtain ⟨g', -, rs, hrs, hlen⟩ := History.links_on hpre hg
    have hlater := hlater g hg
    simp only [History.LinksTo, not_exists, not_and] at hlater
    by_contra hfound
    simp only [hrs, Option.any_some, Link.next.injEq, Bool.not_eq_true', beq_eq_false_iff_ne, ne_eq, not_not] at hfound
    exact hlater rs (hfound ▸ hrs) hlen

/-- A chain gives up its only granule. -/
theorem History.Parts.ends {c : Chain} (hp : h.Parts (some c) rest) (hone : c.head = c.tail) :
    (h.returnHead c.tail).Parts none rest ∧ h.records (some c) = h.placesOf c.tail
      ∧ h.chainGranules (some c) = [c.tail] ∧ ∀ j ∈ rest, (h.returnHead c.tail).granule j = h.granule j := by
  obtain ⟨pre, rs, hgs, -, hhead, -, -, ht, -, hpre⟩ := hp.tail
  obtain rfl : pre = [] := by
    cases pre with
    | nil => rfl
    | cons g pre => exact absurd (by simpa [hone] using hhead) (hpre g (by simp))
  have htail : c.tail ∈ h.chainGranules (some c) := by simp [hgs]
  obtain ⟨hparts, -⟩ := hp.change (c' := none) (gs := []) (h' := h.returnHead c.tail) (Table.erase_wf hp.table _) rfl
    (by rw [hgs, List.append_nil]; exact (List.perm_append_comm (l₁ := [c.tail])))
    (fun j hj => by
      rw [History.returnHead_granule]
      split
      · rfl
      next hjt => exact hp.empty j (by simpa [History.returnHead, hjt] using hj))
    (by simp [History.returnHead])
  refine ⟨hparts, ?_, hgs, fun j hj => ?_⟩
  · rw [History.records_of_granules hgs ht, History.placesOf_of_granule ht]
    rfl
  · simp [show j ≠ c.tail from fun hjt => hp.rest_not_chain hj (hjt ▸ htail)]

/-- A chain gives up its tail granule, and the granule before it is the tail, full (R34). -/
theorem History.Parts.shrinks {c : Chain} (hp : h.Parts (some c) rest) {pre : List Nat} {p : Nat}
    (hgs : h.chainGranules (some c) = pre ++ [p] ++ [c.tail]) (hlink : h.LinksTo p c.tail) (hchain : (pre ++ [p]).IsChain h.LinksTo)
    (hhead : (pre ++ [p]).head? = some c.head) (hpre : ∀ g ∈ pre, g ≠ p)
    (hh' : h' = (h.putGranule p { link := .last Config.placeCount, records := h.placesOf p }).returnHead c.tail) :
    h'.Parts (some { c with tail := p, fill := Config.placeCount }) rest
      ∧ h.records (some c) = h'.records (some { c with tail := p, fill := Config.placeCount }) ++ h.placesOf c.tail
      ∧ h'.chainGranules (some { c with tail := p, fill := Config.placeCount }) = pre ++ [p]
      ∧ ∀ j ∈ rest, h'.granule j = h.granule j := by
  obtain ⟨rs, hrs, hlen⟩ := hlink
  have honce := hp.nodup
  rw [hgs, List.nodup_append] at honce
  have hnot (j : Nat) (hj : j ∈ pre ++ [p]) : j ≠ c.tail := honce.2.2 j hj c.tail (by simp)
  have hpt : p ≠ c.tail := hnot p (by simp)
  have htail : c.tail ∈ h.chainGranules (some c) := by simp [hgs]
  have hpmem : p ∈ h.chainGranules (some c) := by simp [hgs]
  have hplaces : h.placesOf p = rs := History.placesOf_of_granule hrs
  have hreadp : h'.granule p = some { link := .last Config.placeCount, records := rs } := by simp [hh', hpt, hplaces]
  have hread (j : Nat) (hj : j ≠ p) (hj' : j ≠ c.tail) : h'.granule j = h.granule j := by simp [hh', hj, hj']
  have hkept : ∀ j ∈ pre, h'.granule j = h.granule j := fun j hj => hread j (hpre j hj) (hnot j (by simp [hj]))
  have hfree : h'.free = c.tail :: h.free := by simp [hh', History.returnHead]
  obtain ⟨hparts, hgs'⟩ := hp.change (c' := some { c with tail := p, fill := Config.placeCount }) (gs := pre ++ [p])
    (h' := h') (hh' ▸ Table.erase_wf (History.putGranule_wf hp.table (hp.lt (.inr hpmem)) _) _)
    ⟨History.isChain_congr hchain hkept, ⟨show 1 ≤ Config.placeCount by decide, Nat.le_refl _, rs, hreadp, hlen⟩, hhead, by simp⟩
    (by
      rw [hgs, hfree, ← List.append_assoc h.free]
      exact (List.perm_append_comm (l₁ := [c.tail]) (l₂ := h.free ++ (pre ++ [p]))))
    (fun j hj => by
      rw [hfree] at hj
      rcases List.mem_cons.1 hj with rfl | hj
      · simp [hh']
      · rw [hread j (fun hjp => hp.free_not_chain hj (hjp ▸ hpmem)) fun hjt => hp.free_not_chain hj (hjt ▸ htail), hp.empty j hj])
    (by simp [hh', History.returnHead])
  refine ⟨hparts, ?_, hgs', fun j hj =>
    hread j (fun hjp => hp.rest_not_chain hj (hjp ▸ hpmem)) fun hjt => hp.rest_not_chain hj (hjt ▸ htail)⟩
  rw [History.records_of_granules hgs' hreadp, History.flatMap_placesOf_congr hkept, History.records_eq, hgs]
  simp [hplaces]

/-- What an undo leaves of a chain (R34, R35): the store is parted again, the records are those before the grant but for the last
record's count and mask, and no other chain is touched. -/
structure History.Undone (h : History) (facts : UndoFacts) (c : Option Chain) (rest : List Nat) (u : Option Chain × History) :
    Prop where
  parts : u.2.Parts u.1 rest
  days  : (u.2.records u.1).map UseRecord.day
    = ((if facts.recordWritten then (h.records c).dropLast else h.records c).map UseRecord.day)
  kept  : ∀ j ∈ rest, u.2.granule j = h.granule j
  own   : u.2.chainGranules u.1 ⊆ h.chainGranules c
  free  : u.2.free = (if facts.recordWritten && facts.granuleAllocated then (c.map Chain.tail).toList else []) ++ h.free
  full  : u.2.full = (h.full && !(facts.recordWritten && facts.granuleAllocated))

/-- The removal of the tail record that a grant wrote: a granule that the grant allocated is freed (R34). -/
theorem History.Parts.unwrite {c : Chain} (hp : h.Parts (some c) rest) {facts : UndoFacts} (hw : facts.recordWritten = true)
    (hfit : facts.granuleAllocated = true ↔ c.fill = 1) :
    h.Undone facts (some c) rest (h.unwrite c facts.granuleAllocated) := by
  obtain ⟨older, x, hx, hfill⟩ := hp.tail_record
  obtain ⟨pre, -, hgs, -, -, -, hfew, -, -, -⟩ := hp.tail
  have htail : c.tail ∈ h.chainGranules (some c) := by simp [hgs]
  have hplaces : h.placesOf c.tail = older ++ [x] := History.placesOf_of_granule hx
  unfold History.unwrite
  split
  next hnot =>
    have hlong : older ≠ [] := by
      rintro rfl
      rw [hfit.2 (by simpa using hfill)] at hnot
      cases hnot
    obtain ⟨hparts, ⟨before, hbefore, hrecords⟩, hkept, hsame⟩ := hp.retails (rs := older) (k := c.fill - 1)
      (h' := h.putGranule c.tail { link := .last (c.fill - 1), records := (h.placesOf c.tail).dropLast }) hlong (by omega) (by omega)
      (History.putGranule_wf hp.table (hp.lt (.inr htail)) _) rfl rfl (by simp [hplaces]) fun j hj => by simp [hj]
    exact ⟨hparts, by rw [hrecords]; simp [hw, hbefore, hplaces], hkept, by simp [hsame], by simp [hnot],
      by simp [hnot]⟩
  next halloc =>
    have halloc : facts.granuleAllocated = true := by simpa using halloc
    obtain rfl : older = [] := by
      have := hfit.1 halloc
      exact List.length_eq_zero_iff.1 (by omega)
    split
    next hone =>
      obtain ⟨hparts, hrecords, hgs', hkept⟩ := hp.ends hone
      exact ⟨hparts, by simp [hw, hrecords, hplaces, History.records_eq, History.chainGranules], hkept, by simp [History.chainGranules],
        by simp [hw, halloc, History.returnHead], by simp [hw, halloc, History.returnHead]⟩
    next hmany =>
      obtain ⟨pre, p, hgs', hlink, hchain, hhead, hpre, hfind⟩ := hp.before_tail hmany
      rw [hfind]
      obtain ⟨hparts, hrecords, hgs'', hkept⟩ := hp.shrinks hgs' hlink hchain hhead hpre rfl
      exact ⟨hparts, by simp [hw, hrecords, hplaces], hkept, by simp [hgs'', hgs'],
        by simp [hw, halloc, History.returnHead], by simp [hw, halloc, History.returnHead]⟩

/-- The undo of a grant keeps the store parted and gives the chain its days before the grant (R34, R35). -/
theorem History.Parts.undo (hp : h.Parts c rest) {facts : UndoFacts}
    (hfit : facts.recordWritten = true → ∃ x, c = some x ∧ (facts.granuleAllocated = true ↔ x.fill = 1)) (f : Lift) :
    h.Undone facts c rest (h.undo facts f c) := by
  cases c with
  | none =>
    have hw : facts.recordWritten = false := by
      cases hw : facts.recordWritten
      · rfl
      · obtain ⟨x, hx, -⟩ := hfit hw; cases hx
    exact ⟨hp, by simp [hw]; rfl, fun _ _ => rfl, fun _ h => h, by simp [hw, History.undo], by simp [hw, History.undo]⟩
  | some c =>
    simp only [History.undo]
    split
    next hw =>
      obtain ⟨x, hx, hfit⟩ := hfit hw
      cases hx
      exact hp.unwrite hw hfit
    next hw =>
      have hw : facts.recordWritten = false := by simpa using hw
      split
      · obtain ⟨hparts, ⟨older, x, hbefore, hrecords⟩, hkept, hsame, hfree, hfull⟩ := hp.amendTail fun r => { r with
          admits := if facts.countRaised then r.admits - 1 else r.admits
          lifts := if facts.liftNewlySet then r.lifts &&& ~~~liftBit f else r.lifts }
        exact ⟨hparts, by simp [hw, hbefore, hrecords], hkept, by simp [hsame], by simp [hw, hfree], by simp [hw, hfull]⟩
      · exact ⟨hp, by simp [hw], fun _ _ => rfl, fun _ h => h, by simp [hw], by simp [hw]⟩

/-! ### The retirement of a chain -/

theorem Table.foldl_erase_wf {α : Type} {b : Nat} {t : List (Nat × α)} (hw : Table.wf b t) (gs : List Nat) :
    Table.wf b (gs.foldl Table.erase t) := by
  induction gs generalizing t with
  | nil => exact hw
  | cons g gs ih => exact ih (Table.erase_wf hw g)

theorem Table.get_foldl_erase {α : Type} (t : List (Nat × α)) (gs : List Nat) (n : Nat) :
    Table.get (gs.foldl Table.erase t) n = if n ∈ gs then none else Table.get t n := by
  induction gs generalizing t with
  | nil => simp
  | cons g gs ih =>
    rw [List.foldl_cons, ih, Table.get_erase]
    by_cases hn : n ∈ gs <;> by_cases hg : n = g <;> simp [hn, hg]

/-- The granules of a retired chain are FREE (R37). -/
theorem History.freeChain_granule (h : History) (c : Option Chain) (g : Nat) :
    (h.freeChain c).granule g = if g ∈ h.chainGranules c then none else h.granule g :=
  Table.get_foldl_erase _ _ _

theorem History.Parts.freeChain (hp : h.Parts c rest) :
    (h.freeChain c).Parts none rest ∧ ∀ j ∈ rest, (h.freeChain c).granule j = h.granule j := by
  refine ⟨(hp.change (c' := none) (gs := []) (Table.foldl_erase_wf hp.table _) rfl (by simp [History.freeChain]) (fun j hj => ?_) fun hf => ?_).1,
    fun j hj => by rw [History.freeChain_granule, if_neg (hp.rest_not_chain hj)]⟩
  · rw [History.freeChain_granule]
    split
    · rfl
    next hjc => exact hp.empty j (by simpa [History.freeChain, hjc] using hj)
  · simp only [History.freeChain, Bool.and_eq_true, List.isEmpty_iff] at hf ⊢
    simp [hp.full hf.1, hf.2]

end

end Sys2Proof.Machine

/-! The use history of every entry, and that every step keeps it (R2, R25, R26, R27, R31, R33). -/

namespace Sys2Proof.Machine

/-! ### The history part of a grant -/

section

variable {h : History} {c : Option Chain} {rest : List Nat} {e : Entry}

/-- An append of one record allocates exactly when the record stands alone in the tail granule (R33). -/
theorem History.Parts.allocated_iff (hp : h.Parts c rest) {r : UseRecord} {a : Appended} (ha : h.append c [r] = some a) :
    a.allocated = true ↔ a.chain.fill = 1 := by
  cases c with
  | none =>
    cases hfree : h.free with
    | nil => simp [History.append, hfree] at ha
    | cons g free =>
      rw [History.append_none hfree] at ha
      cases ha
      simp
  | some c =>
    obtain ⟨-, -, -, -, -, h1, h6, -, -, -⟩ := hp.tail
    by_cases hfit : c.fill + [r].length ≤ Config.placeCount
    · rw [History.append_here hfit] at ha
      cases ha
      simp
      omega
    · cases hfree : h.free with
      | nil =>
        cases ((History.append_eq_none (by simp)).2 ⟨fun x hx => Option.some.inj hx ▸ Nat.lt_of_not_le hfit, hfree⟩).symm.trans ha
      | cons g free =>
        rw [History.append_grow (by simp) hfit hfree] at ha
        cases ha
        simp at hfit ⊢
        omega

/-- What the history part of a grant leaves (R29 to R33, R76, R77). -/
structure History.Debits (h : History) (e : Entry) (today : Nat) (rest : List Nat) (d : Debited) : Prop where
  parts   : d.history.Parts d.entry.chain rest
  kept    : ∀ j ∈ rest, d.history.granule j = h.granule j
  days    : (d.history.records d.entry.chain).map UseRecord.day
    = (h.records e.chain).map UseRecord.day ++ (if d.facts.recordWritten then [today] else [])
  used    : d.entry.used = if d.facts.debitMade then e.used + 1 else e.used
  lost    : d.entry.lost = if d.facts.debitLost then e.lost + 1 else e.lost
  lastUse : d.entry.lastUse = if d.facts.debitMade then some today else e.lastUse
  made    : d.facts.debitMade = true ↔ d.facts.recordWritten = true ∨ d.facts.debitLost = true
  once    : ¬(d.facts.recordWritten = true ∧ d.facts.debitLost = true)
  written : d.facts.recordWritten = true → ∃ c, d.entry.chain = some c ∧ (d.facts.granuleAllocated = true ↔ c.fill = 1)

/-- A grant that does no history work. -/
theorem History.Parts.debits_none (hp : h.Parts e.chain rest) (today : Nat) :
    h.Debits e today rest { history := h, entry := e, facts := .none } :=
  ⟨hp, fun _ _ => rfl, by simp [UndoFacts.none], rfl, rfl, rfl, by simp [UndoFacts.none], by simp [UndoFacts.none],
    by simp [UndoFacts.none]⟩

/-- HISTORY_FULL becomes true (R30). -/
theorem History.Parts.fills (hp : h.Parts c rest) (hfree : h.free = []) :
    History.Parts { h with full := true } c rest ∧ History.records { h with full := true } c = h.records c := by
  obtain ⟨hchain, hgs, hrecords⟩ := hp.chain.congr (h' := { h with full := true }) hp.nodup fun _ _ => rfl
  exact ⟨⟨hp.table, hchain, hgs ▸ hp.once, hgs ▸ hp.all, hp.empty, fun _ => hfree⟩, hrecords⟩

theorem History.Parts.debit (hp : h.Parts e.chain rest) (r : UseRecord) : h.Debits e r.day rest (h.debit e r) := by
  cases ha : h.append e.chain [r] with
  | some a =>
    obtain ⟨hparts, hrecords, hkept⟩ := hp.append (by simp) (by simp [Config.placeCount]) ha
    simp only [History.debit, ha]
    exact ⟨hparts, hkept, by simp [hrecords], rfl, rfl, rfl, by simp, by simp [UndoFacts.none],
      fun _ => ⟨_, rfl, hp.allocated_iff ha⟩⟩
  | none =>
    have hfree : h.free = [] := ((History.append_eq_none (by simp)).1 ha).2
    simp only [History.debit, ha]
    obtain ⟨hparts, hrecords⟩ := hp.fills hfree
    exact ⟨hparts, fun _ _ => rfl, by simp [UndoFacts.none, hrecords], rfl, rfl, rfl, by simp [UndoFacts.none],
      by simp [UndoFacts.none], by simp [UndoFacts.none]⟩

theorem History.Parts.update (hp : h.Parts e.chain rest) (today : Nat) (f : Lift) : h.Debits e today rest (h.update e today f) := by
  unfold History.update
  split
  next c r hc hr =>
    split
    · rw [hc] at hp
      obtain ⟨hparts, ⟨older, x, hbefore, hrecords⟩, hkept, -⟩ := hp.amendTail fun r =>
        { r with admits := if r.admits < 255 then r.admits + 1 else r.admits, lifts := r.lifts ||| liftBit f }
      exact ⟨hc ▸ hparts, hkept, by simp [hc, hbefore, hrecords, UndoFacts.none], rfl, rfl, rfl, by simp [UndoFacts.none],
        by simp [UndoFacts.none], by simp [UndoFacts.none]⟩
    · exact hp.debits_none today
  · exact hp.debits_none today

end

/-- The history part of a grant keeps the store parted (R29 to R33, R76, R77). -/
theorem State.grantHistory_debits {s : State} {e : Entry} {rest : List Nat} (hp : s.history.Parts e.chain rest) (f : Lift) :
    s.history.Debits e s.clock.day rest (s.grantHistory e f) := by
  unfold State.grantHistory
  dsimp only
  split
  · exact hp.debits_none _
  split
  · exact hp.update _ f
  · exact hp.debit { day := s.clock.day, cls := s.calendar.classOf s.clock.day, first := s.clock.sec, admits := 1, lifts := liftBit f }

/-! ### The chains of the other entries -/

theorem Table.erase_put {α : Type} (t : List (Nat × α)) (n : Nat) (x : α) : Table.erase (Table.put t n x) n = Table.erase t n := by
  induction t with
  | nil => simp [Table.put, Table.erase]
  | cons y t ih =>
    obtain ⟨k, y⟩ := y
    simp only [Table.erase, Table.put] at ih ⊢
    split
    · simp
    split
    next hnk => simp [hnk]
    · simp only [List.filter_cons, ih]

theorem Table.erase_erase {α : Type} (t : List (Nat × α)) (n : Nat) : Table.erase (Table.erase t n) n = Table.erase t n := by
  simp [Table.erase]

theorem Table.erase_of_get_none {α : Type} {t : List (Nat × α)} {n : Nat} (h : Table.get t n = none) : Table.erase t n = t := by
  refine List.filter_eq_self.2 fun x hx => ?_
  have hne : x.1 ≠ n := by
    rintro rfl
    obtain ⟨y, hy⟩ := Table.mem_keys_iff.1 (List.mem_map.2 ⟨x, hx, rfl⟩ : x.1 ∈ Table.keys t)
    rw [h] at hy
    cases hy
  simpa using hne

theorem Table.perm_of_get {α : Type} {t : List (Nat × α)} (hs : (Table.keys t).Pairwise (· < ·)) {n : Nat} {x : α}
    (h : Table.get t n = some x) : t.Perm ((n, x) :: Table.erase t n) := by
  induction t with
  | nil => cases h
  | cons y t ih =>
    obtain ⟨k, y⟩ := y
    simp only [Table.keys, List.map_cons, List.pairwise_cons] at hs
    by_cases hk : k = n
    · subst hk
      have hnone : Table.get t k = none := Table.get_none_of_not_key fun hm => Nat.lt_irrefl _ (hs.1 k hm)
      obtain rfl : y = x := by simpa [Table.get_cons] using h
      have herase : Table.erase ((k, y) :: t) k = t := by
        rw [show Table.erase ((k, y) :: t) k = Table.erase t k by simp [Table.erase]]
        exact Table.erase_of_get_none hnone
      rw [herase]
    · have hget : Table.get t n = some x := by simpa [Table.get_cons, hk] using h
      rw [show Table.erase ((k, y) :: t) n = (k, y) :: Table.erase t n by simp [Table.erase, hk]]
      exact ((ih hs.2 hget).cons _).trans (List.Perm.swap ..)

/-- The granules of the chains of every entry but that of slot `n`. -/
def State.others (s : State) (n : Nat) : List Nat := (Table.erase s.slots n).flatMap fun x => s.history.chainGranules x.2.chain

theorem State.mem_others {s : State} {m n : Nat} {e : Entry} (hm : m ≠ n) (he : s.entryAt m = some e) {g : Nat}
    (hg : g ∈ s.history.chainGranules e.chain) : g ∈ s.others n := by
  refine List.mem_flatMap.2 ⟨(m, e), Table.mem_of_get ?_, hg⟩
  rw [Table.get_erase, if_neg hm]
  exact he

theorem State.HistoryOk.parts {s : State} (hok : s.HistoryOk) (hs : s.StoreOk) (n : Nat) :
    s.history.Parts ((s.entryAt n).bind Entry.chain) (s.others n) := by
  have hchained : s.chained.Perm (s.history.chainGranules ((s.entryAt n).bind Entry.chain) ++ s.others n) := by
    cases he : s.entryAt n with
    | none => simp [State.others, Table.erase_of_get_none he, History.chainGranules, State.chained]
    | some e => exact (Table.perm_of_get hs.canonical.1 he).flatMap_right _
  refine ⟨hok.table, ?_, ((hchained.append_left _).nodup_iff).1 hok.once, fun g => ?_, hok.empty, hok.full⟩
  · cases he : s.entryAt n with
    | none => trivial
    | some e => exact hok.chains n e he
  · rw [hok.all g, (hchained.append_left _).mem_iff]

theorem State.HistoryOk.parts_of_entry {s : State} (hok : s.HistoryOk) (hs : s.StoreOk) {n : Nat} {e : Entry}
    (he : s.entryAt n = some e) : s.history.Parts e.chain (s.others n) := by
  simpa [he] using hok.parts hs n

/-- The chain of an entry, while the granules of all chains but that of slot `n` are kept. -/
theorem State.HistoryOk.chain_kept {s : State} (hok : s.HistoryOk) (hs : s.StoreOk) {h' : History} {n : Nat}
    (hkept : ∀ g ∈ s.others n, h'.granule g = s.history.granule g) {m : Nat} {e : Entry} (hm : m ≠ n) (he : s.entryAt m = some e) :
    h'.ChainOk e.chain ∧ h'.chainGranules e.chain = s.history.chainGranules e.chain ∧ h'.records e.chain = s.history.records e.chain :=
  (hok.chains m e he).congr (hok.parts_of_entry hs he).nodup fun _ hg => hkept _ (State.mem_others hm he hg)

/-- A change of one entry and its chain that touches no other chain keeps the use history. -/
theorem State.HistoryOk.rebuild {s t : State} (hok : s.HistoryOk) (hs : s.StoreOk) (ht : t.StoreOk) {n : Nat}
    (hslots : Table.erase t.slots n = Table.erase s.slots n) (hparts : t.history.Parts ((t.entryAt n).bind Entry.chain) (s.others n))
    (hkept : ∀ g ∈ s.others n, t.history.granule g = s.history.granule g)
    (hused : ∀ e, t.entryAt n = some e → e.used = (t.history.records e.chain).length + e.lost)
    (hfacts : ∀ l h e, (t.lane l).hold = some h → t.entryAt h.slot = some e → h.facts.Fit e) : t.HistoryOk := by
  have hread (m : Nat) (hm : m ≠ n) : t.entryAt m = s.entryAt m := by
    have hget := congrArg (Table.get · m) hslots
    simp only [Table.get_erase, hm, if_false] at hget
    exact hget
  have hothers : t.others n = s.others n := by
    unfold State.others
    rw [hslots]
    refine List.flatMap_congr fun x hx => ?_
    have hx : Table.get (Table.erase s.slots n) x.1 = some x.2 := Table.get_of_mem (Table.erase_wf hs.canonical n).1 hx
    rw [Table.get_erase] at hx
    split at hx
    · cases hx
    next hm => exact (hok.chain_kept hs hkept hm hx).2.1
  have hchained : t.chained.Perm (t.history.chainGranules ((t.entryAt n).bind Entry.chain) ++ s.others n) := by
    rw [← hothers]
    cases he : t.entryAt n with
    | none => simp [State.others, Table.erase_of_get_none he, History.chainGranules, State.chained]
    | some e => exact (Table.perm_of_get ht.canonical.1 he).flatMap_right _
  refine ⟨hparts.table, fun m e he => ?_, fun m e he => ?_, ((hchained.append_left _).nodup_iff).2 hparts.once, fun g => ?_,
    hparts.empty, hparts.full, hfacts⟩
  · by_cases hm : m = n
    · subst hm; simpa [he] using hparts.chain
    · exact (hok.chain_kept hs hkept hm (hread m hm ▸ he)).1
  · by_cases hm : m = n
    · subst hm; exact hused e he
    · rw [(hok.chain_kept hs hkept hm (hread m hm ▸ he)).2.2]
      exact hok.used m e (hread m hm ▸ he)
  · rw [hparts.all g, (hchained.append_left _).mem_iff]

theorem State.HistoryOk.congr {s t : State} (hok : s.HistoryOk) (hslots : t.slots = s.slots) (hhistory : t.history = s.history)
    (hfacts : ∀ l h e, (t.lane l).hold = some h → s.entryAt h.slot = some e → h.facts.Fit e) : t.HistoryOk := by
  obtain ⟨h1, h2, h3, h4, h5, h6, h7, -⟩ := hok
  have hread : t.entryAt = s.entryAt := by unfold State.entryAt; rw [hslots]
  have hchained : t.chained = s.chained := by unfold State.chained; rw [hslots, hhistory]
  rw [← hread, ← hhistory] at h2 h3
  rw [← hhistory, ← hchained] at h4 h5
  exact ⟨hhistory ▸ h1, h2, h3, h4, h5, hhistory ▸ h6, hhistory ▸ h7, hread ▸ hfacts⟩

/-- The facts of the open holds, while the only entry that changes has none. -/
theorem State.HistoryOk.facts_kept {s t : State} (hok : s.HistoryOk) (hh : s.HoldsOk) {n : Nat}
    (hbare : ∀ e, s.entryAt n = some e → e.marker = none) (hread : ∀ m, m ≠ n → t.entryAt m = s.entryAt m)
    (hhold : ∀ l, (t.lane l).hold = (s.lane l).hold) {l : Lane} {h : Hold} {e : Entry} (hl : (t.lane l).hold = some h)
    (he : t.entryAt h.slot = some e) : h.facts.Fit e := by
  rw [hhold] at hl
  rw [hread _ (hh.slot_ne hl hbare)] at he
  exact hok.facts l h e hl he

theorem State.reset_historyOk : State.reset.HistoryOk := by
  have hnone (l : Lane) : (State.reset.lane l).hold = none := by rw [State.reset_lane]; rfl
  have hfree : State.reset.history.free = List.range Config.granuleCount := by simp only [State.reset]
  have hchained : State.reset.chained = [] := rfl
  have hentry (n : Nat) : State.reset.entryAt n = none := rfl
  refine ⟨⟨List.Pairwise.nil, fun n hn => by cases hn⟩, by simp [hentry], by simp [hentry], ?_, fun g => ?_, fun g _ => rfl,
    fun h => (by cases h), by simp [hnone]⟩
  · rw [hfree, hchained, List.append_nil]; exact List.nodup_range
  · rw [hfree, hchained, List.append_nil, List.mem_range]

/-! ### Every move -/

/-- A grant keeps the use history. -/
theorem State.HistoryOk.grant {s : State} (hok : s.HistoryOk) (hs : s.StoreOk) (hh : s.HoldsOk) {l : Lane} {n : Nat} {e : Entry}
    {q : LiveState} (ha : s.Admits l n e q) : (s.grant l n e q).HistoryOk := by
  have hd := State.grantHistory_debits (hok.parts_of_entry hs ha.entry) (s.liftOf l)
  have ht : (s.grant l n e q).StoreOk :=
    hs.put_same (e' := s.granted l e q) ha.entry (State.grant_slots _ _ _ _ _) (State.granted_pass _ _ _ _) (by simp)
  have hfit : (s.grantHistory e (s.liftOf l)).facts.Fit (s.granted l e q) := by
    refine ⟨hd.made, hd.once, hd.written, fun hlost => ?_⟩
    rw [show (s.granted l e q).lost = (s.grantHistory e (s.liftOf l)).entry.lost from rfl, hd.lost, if_pos hlost]
    omega
  refine hok.rebuild hs ht (n := n) (by rw [State.grant_slots, Table.erase_put]) ?_ ?_ (fun x hx => ?_) fun m h x hm hx => ?_
  · rw [State.grant_history, State.grant_entryAt, if_pos rfl]
    exact hd.parts
  · simpa using hd.kept
  · obtain rfl : s.granted l e q = x := by simpa using hx
    have hlength := congrArg List.length hd.days
    have hused := hok.used n e ha.entry
    simp only [List.length_map, List.length_append] at hlength
    rw [State.grant_history, show (s.granted l e q).chain = (s.grantHistory e (s.liftOf l)).entry.chain from rfl, hlength,
      show (s.granted l e q).used = (s.grantHistory e (s.liftOf l)).entry.used from rfl,
      show (s.granted l e q).lost = (s.grantHistory e (s.liftOf l)).entry.lost from rfl, hd.used, hd.lost]
    have hmade := hd.made
    have honce := hd.once
    cases hw : (s.grantHistory e (s.liftOf l)).facts.recordWritten <;>
      cases hl : (s.grantHistory e (s.liftOf l)).facts.debitLost <;> simp_all <;> omega
  · rw [State.grant_lane] at hm
    split at hm
    · obtain rfl := Option.some.inj hm
      obtain rfl : s.granted l e q = x := by simpa [State.opensHold] using hx
      exact hfit
    · have hne : h.slot ≠ n := hh.slot_ne hm fun x hx => by
        rw [ha.entry] at hx
        rw [← Option.some.inj hx, ha.marker]
      exact hok.facts m h x hm (by simpa [hne] using hx)

/-- The undo of a hold on its entry. -/
theorem State.HistoryOk.undone {s : State} (hok : s.HistoryOk) (hs : s.StoreOk) {l : Lane} {h : Hold} {e : Entry}
    (hl : (s.lane l).hold = some h) (he : s.entryAt h.slot = some e) :
    s.history.Undone h.facts e.chain (s.others h.slot) (s.history.undo h.facts h.lift e.chain) :=
  (hok.parts_of_entry hs he).undo (hok.facts l h e hl he).2.2.1 h.lift

/-- The records of a chain that is present. -/
theorem History.Parts.records_ne_nil {h : History} {c : Chain} {rest : List Nat} (hp : h.Parts (some c) rest) : h.records (some c) ≠ [] := by
  obtain ⟨pre, rs, hgs, -, -, h1, -, ht, hlen, -⟩ := hp.tail
  rw [History.records_of_granules hgs ht]
  rintro hnil
  have hnil : rs = [] := (List.append_eq_nil_iff.1 hnil).2
  simp [hnil] at hlen
  omega

/-- The undo of a hold returns the days that the grant debited, and the records and lost days that account for them (R2, R34). -/
theorem State.HistoryOk.undone_used {s : State} (hok : s.HistoryOk) (hs : s.StoreOk) {l : Lane} {h : Hold} {e : Entry}
    (hl : (s.lane l).hold = some h) (he : s.entryAt h.slot = some e) :
    let u := s.history.undo h.facts h.lift e.chain
    (e.undone h u.1).used = (u.2.records u.1).length + (e.undone h u.1).lost := by
  have hlength := congrArg List.length (hok.undone hs hl he).days
  have hused := hok.used h.slot e he
  obtain ⟨hmade, honce, hwritten, hlost⟩ := hok.facts l h e hl he
  have hpos : h.facts.recordWritten = true → 1 ≤ (s.history.records e.chain).length := fun hw => by
    obtain ⟨c, hc, -⟩ := hwritten hw
    have hp := hok.parts_of_entry hs he
    rw [hc] at hp ⊢
    exact List.length_pos_iff.2 hp.records_ne_nil
  simp only [List.length_map] at hlength
  simp only [Entry.undone, hlength]
  cases hw : h.facts.recordWritten <;> cases hd : h.facts.debitLost <;> simp_all <;> omega

/-- A rollback keeps the use history. -/
theorem State.HistoryOk.undoGrant {s : State} (hok : s.HistoryOk) (hs : s.StoreOk) (hh : s.HoldsOk) {l : Lane} {h : Hold}
    (hl : (s.lane l).hold = some h) : (s.undoGrant l h).HistoryOk := by
  obtain ⟨e, -, he, -⟩ := hh.entry hl
  have hu := hok.undone hs hl he
  obtain ⟨hmade, honce, -, hlost⟩ := hok.facts l h e hl he
  have ht : (s.undoGrant l h).StoreOk := by
    rw [State.undoGrant_of_entry he]
    exact hs.put_same (e' := e.undone h (s.history.undo h.facts h.lift e.chain).1) he (by simp [State.putEntry]) rfl (by simp)
  rw [State.undoGrant_of_entry he] at ht ⊢
  refine hok.rebuild hs ht (n := h.slot) (by simp [State.putEntry, Table.erase_put]) ?_ ?_ (fun x hx => ?_) fun m k x hm hx => ?_
  · simpa [Entry.undone] using hu.parts
  · simpa using hu.kept
  · obtain rfl : e.undone h (s.history.undo h.facts h.lift e.chain).1 = x := by simpa using hx
    exact hok.undone_used hs hl he
  · rw [State.setHold_lane] at hm
    split at hm
    · cases hm
    next hne =>
      have hm : (s.lane m).hold = some k := by simpa using hm
      have hslot : k.slot ≠ h.slot := hh.slots_ne hm hl hne
      exact hok.facts m k x hm (by simpa [hslot] using hx)

/-- Every move keeps the use history, with the pass store and the holds that it rests on. -/
theorem State.Move.historyOk {s t : State} (h : s.Move t) (hs : s.StoreOk) (hh : s.HoldsOk) (hok : s.HistoryOk) : t.HistoryOk := by
  have ht := h.storeOk hs
  cases h with
  | quiet hq => exact hok.congr hq.slots hq.history fun l h e hl he => hok.facts l h e (hq.hold l ▸ hl) he
  | @opens u l n e q hu _ ha =>
    have hhistory : u.HistoryOk := hok.congr hu.slots hu.history fun l h e hl he => hok.facts l h e (hu.hold l ▸ hl) he
    have hgrant := hhistory.grant (hs.congr hu.slots hu.freeSlots) (hh.quiet hu) ha
    exact hgrant.congr (by simp) (by simp) fun m h x hm hx => hgrant.facts m h x (by simpa using hm) hx
  | @drop l h _ hl _ =>
    have hundo := hok.undoGrant hs hh hl
    exact hundo.congr (by simp) (by simp) fun m h x hm hx => hundo.facts m h x (by simpa using hm) hx
  | @commit l h hl =>
    obtain ⟨e, -, he, -⟩ := hh.entry hl
    have hslots : ((s.modEntry h.slot fun e => { e with marker := none }).setHold l none |>.countDayOnly l .committed).slots
        = Table.put s.slots h.slot { e with marker := none } := by simp [State.modEntry, he, State.putEntry]
    refine hok.rebuild hs ht (n := h.slot) (by rw [hslots, Table.erase_put]) ?_ (by simp) (fun x hx => ?_) fun m k x hm hx => ?_
    · simpa [State.modEntry_entryAt, he] using hok.parts_of_entry hs he
    · obtain rfl : { e with marker := none } = x := by simpa [State.modEntry_entryAt, he] using hx
      simpa using hok.used h.slot e he
    · simp only [State.countDayOnly_frame, State.setHold_lane] at hm
      split at hm
      · cases hm
      next hne =>
        have hm : (s.lane m).hold = some k := by simpa using hm
        exact hok.facts m k x hm (by simpa [State.modEntry_entryAt, hh.slots_ne hm hl hne] using hx)
  | @restate l x d hnone =>
    refine hok.congr (by simp) (by simp) fun m h e hm he => hok.facts m h e ?_ he
    by_cases hml : m = l
    · subst hml; simpa using hm
    · simpa [hml] using hm
  | close hnone => exact hok.congr (by simp) (by simp) fun m h e hm _ => by simp [LaneRec.warm] at hm
  | @due l =>
    refine hok.congr (by simp) (by simp) fun m h e hm he => ?_
    by_cases hml : m = l
    · subst hml
      obtain ⟨k, hk, rfl⟩ : ∃ k, (s.lane m).hold = some k ∧ { k with pendingExpiry := true } = h := by
        simpa [State.makeDue] using hm
      exact hok.facts m k e hk he
    · exact hok.facts m h e (by simpa [State.makeDue, hml] using hm) he
  | roll => exact hok.congr (by simp) (by simp) fun m h e hm he => hok.facts m h e (by simpa using hm) he
  | @edit n e seq x he hm _ =>
    have hbare (y : Entry) (hy : s.entryAt n = some y) : y.marker = none := by
      rw [he] at hy
      rw [← Option.some.inj hy, hm hh]
    refine hok.rebuild hs ht (n := n) (Table.erase_put _ _ _) ?_ (fun _ _ => rfl) (fun y hy => ?_) fun m k y hk hy =>
      hok.facts_kept hh (t := s.putEntry n { e with seq := seq, state := x }) hbare (fun m hm => by simp [hm]) (fun _ => rfl) hk hy
    · simpa using hok.parts_of_entry hs he
    · obtain rfl : { e with seq := seq, state := x } = y := by simpa using hy
      exact hok.used n e he
  | @use n e rs a he hm _ ha hnew _ =>
    have hbare (y : Entry) (hy : s.entryAt n = some y) : y.marker = none := by
      rw [he] at hy
      rw [← Option.some.inj hy, hm hh]
    obtain ⟨hparts, hrecords, hkept⟩ := (hok.parts_of_entry hs he).append hnew.nonempty (hnew.few.trans (by decide)) ha
    refine hok.rebuild hs ht (n := n) (Table.erase_put _ _ _) ?_ (by simpa using hkept) (fun y hy => ?_) fun m k y hk hy =>
      hok.facts_kept hh hbare (fun m hm => by simp [hm]) (fun _ => by simp) hk hy
    · simpa using hparts
    · simp only [State.putEntry_entryAt, if_true, Option.some.injEq] at hy
      subst hy
      have hused := hok.used n e he
      simp [hrecords]
      omega
  | @place n e hv hnew hchain _ hused =>
    have hp := hok.parts hs n
    rw [hv.free] at hp
    refine hok.rebuild hs ht (n := n) (by rw [State.place_slots, Table.erase_put]) ?_ (by simp) (fun y hy => ?_) fun m k y hk hy =>
      hok.facts_kept hh (n := n) (by simp [hv.free]) (fun m hm => by simp [hm]) (fun _ => by simp) hk hy
    · simpa [hchain] using hp
    · obtain rfl : e = y := by simpa using hy
      simp [hchain, hused, History.records_eq, History.chainGranules]
  | @restore n e rs a hv hnew ha hchain hrs _ hused =>
    have hp := hok.parts hs n
    rw [hv.free] at hp
    obtain ⟨hparts, hrecords, hkept⟩ := hp.append hrs.nonempty (hrs.few.trans (by decide)) ha
    refine hok.rebuild hs ht (n := n) (by simp [State.place_slots, Table.erase_put]) ?_ (by simpa using hkept) (fun y hy => ?_)
      fun m k y hk hy => hok.facts_kept hh (n := n) (by simp [hv.free]) (fun m hm => by simp [hm]) (fun _ => by simp) hk hy
    · simpa [hchain] using hparts
    · obtain rfl : e = y := by simpa using hy
      have hlength : (a.history.records (some a.chain)).length = rs.length := by
        rw [hrecords]
        simp [History.records_eq, History.chainGranules]
      simp [hchain, hused, hlength]
  | @retire n e e' he hm hchain =>
    obtain ⟨hparts, hkept⟩ := (hok.parts_of_entry hs he).freeChain
    refine hok.rebuild hs ht (n := n) (by rw [State.retire_slots, Table.erase_erase]) ?_ ?_ (by simp) fun m k y hk hy =>
      hok.facts_kept hh (n := n) (fun y hy => ?_) (fun m hm => by simp [hm]) (fun _ => by simp) hk hy
    · simpa [hchain] using hparts
    · simpa [hchain] using hkept
    · rw [he] at hy
      rw [← Option.some.inj hy, hm]
  | powerOn =>
    exact State.reset_historyOk.congr rfl rfl fun m h e hm _ => State.reset_historyOk.facts m h e hm ‹_›

/-- Settles O60: every move of the path that a step takes keeps the use history, with the pass store and the holds it rests on. -/
theorem stepsKeepTheUseHistory : Obligations.StepsKeepTheUseHistory := by
  unfold Obligations.StepsKeepTheUseHistory
  exact fun s t hs hh hok hstep =>
    (step_keeps (P := fun x => x.StoreOk ∧ x.HoldsOk ∧ x.HistoryOk)
      (fun _ _ hmove ⟨hs, hh, hok⟩ => ⟨hmove.storeOk hs, hmove.holdsOk hh, hmove.historyOk hs hh hok⟩) hstep ⟨hs, hh, hok⟩).2.2

end Sys2Proof.Machine

/-! Appends, debits and updates, and that a rollback undoes a grant whole (R28 to R36). -/

namespace Sys2Proof.Machine

/-- Settles O22: an append beside the other chains, and its three placements. -/
theorem appendedRecordsReadBack : Obligations.AppendedRecordsReadBack := by
  unfold Obligations.AppendedRecordsReadBack
  refine ⟨fun s n e rs a hs hok he h1 h6 ha => ?_, fun h rs h1 h6 => ⟨fun c => ?_, fun g rest hfree => ?_, fun c tail ht => ⟨?_, ?_⟩⟩⟩
  · obtain ⟨hparts, hrecords, hkept⟩ := (hok.parts_of_entry hs he).append (List.length_pos_iff.1 h1) h6 ha
    refine ⟨hrecords, hparts.chain, fun m x hm hx => ?_⟩
    obtain ⟨hchain, -, hsame⟩ := hok.chain_kept hs hkept hm hx
    exact ⟨hsame, hchain⟩
  · exact History.append_eq_none (List.length_pos_iff.1 h1)
  · exact ⟨_, History.append_none hfree rs, rfl, rfl, rfl, rfl, by simp, fun j hj => by simp [hj]⟩
  · intro hfit
    exact ⟨_, History.append_here hfit, rfl, rfl, rfl, rfl, by simp [History.placesOf_of_granule ht], fun j hj => by simp [hj]⟩
  · intro g rest hlong hfree hg
    exact ⟨_, History.append_grow (List.length_pos_iff.1 h1) (Nat.not_le.2 hlong) hfree, rfl, by simp [Config.placeCount], rfl, rfl,
      by simp [hg.symm, History.placesOf_of_granule ht, Config.placeCount], by simp [Config.placeCount],
      fun j hj hj' => by simp [hj, hj']⟩

theorem History.debit_of_append {h : History} {e : Entry} {r : UseRecord} {a : Appended} (ha : h.append e.chain [r] = some a) :
    h.debit e r = { history := a.history
                    entry := { e with used := e.used + 1, lastUse := some r.day, chain := some a.chain }
                    facts := { debitMade := true, recordWritten := true, granuleAllocated := a.allocated, debitLost := false,
                               countRaised := false, liftNewlySet := true } } := by
  simp [History.debit, ha, UndoFacts.none]

theorem History.debit_of_none {h : History} {e : Entry} {r : UseRecord} (ha : h.append e.chain [r] = none) :
    h.debit e r = { history := { h with full := true }
                    entry := { e with used := e.used + 1, lastUse := some r.day, lost := e.lost + 1 }
                    facts := { debitMade := true, recordWritten := false, granuleAllocated := false, debitLost := true,
                               countRaised := false, liftNewlySet := false } } := by
  simp [History.debit, ha, UndoFacts.none]

/-- The tail record after an update of the day's record (R32). -/
def UseRecord.passedAgain (x : UseRecord) (f : Lift) : UseRecord :=
  { x with admits := if x.admits < 255 then x.admits + 1 else x.admits, lifts := x.lifts ||| liftBit f }

/-- The undo facts of an update of the record `x` (R33). -/
def UseRecord.updateFacts (x : UseRecord) (f : Lift) : UndoFacts :=
  { debitMade := false, recordWritten := false, granuleAllocated := false, debitLost := false
    countRaised := decide (x.admits < 255), liftNewlySet := !inMask x.lifts f }

theorem History.update_of_none {h : History} {e : Entry} (hc : e.chain = none) (today : Nat) (f : Lift) :
    h.update e today f = { history := h, entry := e, facts := .none } := by
  simp [History.update, hc]

theorem History.update_of_today {h : History} {e : Entry} {c : Chain} {g : Granule} {older : List UseRecord} {x : UseRecord}
    (hc : e.chain = some c) (hg : h.granule c.tail = some g) (hrs : g.records = older ++ [x]) (f : Lift) :
    h.update e x.day f = {
      history := h.putGranule c.tail { g with records := older ++ [x.passedAgain f] }, entry := e
      facts := x.updateFacts f } := by
  simp [UseRecord.updateFacts, History.update, hc, History.tailRecord, hg, hrs, History.amendTail, UndoFacts.none, UseRecord.passedAgain]

theorem History.update_of_other_day {h : History} {e : Entry} {c : Chain} {g : Granule} {older : List UseRecord} {x : UseRecord}
    (hc : e.chain = some c) (hg : h.granule c.tail = some g) (hrs : g.records = older ++ [x]) {today : Nat} (hday : x.day ≠ today)
    (f : Lift) : h.update e today f = { history := h, entry := e, facts := .none } := by
  simp [History.update, hc, History.tailRecord, hg, hrs, hday]

/-- Settles O23. -/
theorem debitAndUpdateTables : Obligations.DebitAndUpdateTables := by
  unfold Obligations.DebitAndUpdateTables
  refine ⟨fun h e r => ⟨fun a ha => History.debit_of_append ha, fun ha => History.debit_of_none ha⟩,
    fun h e today f hc => History.update_of_none hc today f, fun h e c g older x today f hc hg hrs => ⟨?_, fun hday =>
      History.update_of_other_day hc hg hrs hday f⟩⟩
  rintro rfl
  exact ⟨_, History.update_of_today hc hg hrs f, by simp [UseRecord.passedAgain], fun j hj => by simp [hj], rfl, rfl⟩

/-! ### The undo of what a grant did -/

/-- An undo gives the chain back, every granule and the free queue (R34, R35). -/
def History.Restores (h : History) (c : Option Chain) (u : Option Chain × History) : Prop :=
  u.1 = c ∧ (∀ g, u.2.granule g = h.granule g) ∧ u.2.free = h.free

section

variable {h : History} {e : Entry} {rest : List Nat}

theorem History.Restores.of_none (h : History) (c : Option Chain) (f : Lift) : h.Restores c (h.undo .none f c) := by
  cases c <;> exact ⟨rfl, fun _ => rfl, rfl⟩

/-- A record written into a chain of its own. -/
theorem History.undo_begun (hp : h.Parts none rest) {g : Nat} {free : List Nat} (hfree : h.free = g :: free) (r : UseRecord) :
    h.Restores none (History.unwrite (History.putGranule { h with free := free } g { link := .last 1, records := [r] })
      { head := g, tail := g, fill := 1 } true) := by
  refine ⟨by simp [History.unwrite], fun j => ?_, by simp [History.unwrite, History.returnHead, hfree]⟩
  by_cases hj : j = g
  · simp [History.unwrite, hj, hp.empty g (hp.free_head hfree).1]
  · simp [History.unwrite, hj]

/-- A record written into a free place of the tail granule. -/
theorem History.undo_here {c : Chain} (hp : h.Parts (some c) rest) (r : UseRecord) :
    h.Restores (some c) (History.unwrite (h.putGranule c.tail { link := .last (c.fill + 1), records := h.placesOf c.tail ++ [r] })
      { c with fill := c.fill + 1 } false) := by
  obtain ⟨-, old, -, -, -, -, -, hold, -, -⟩ := hp.tail
  refine ⟨rfl, fun j => ?_, rfl⟩
  by_cases hj : j = c.tail
  · simp [History.unwrite, hj, History.placesOf, hold]
  · simp [History.unwrite, hj]

/-- A record written into a granule of its own behind a full tail granule. -/
theorem History.undo_grown {c : Chain} (hp : h.Parts (some c) rest) (hfill : c.fill = Config.placeCount) {g : Nat} {free : List Nat}
    (hfree : h.free = g :: free) (r : UseRecord) :
    h.Restores (some c) (History.unwrite ((History.putGranule { h with free := free } c.tail
        { link := .next g, records := h.placesOf c.tail }).putGranule g { link := .last 1, records := [r] })
      { c with tail := g, fill := 1 } true) := by
  obtain ⟨pre, old, hgs, -, hhead, -, -, hold, hlen, -⟩ := hp.tail
  obtain ⟨hmem, -, -⟩ := hp.free_head hfree
  have hplaces : h.placesOf c.tail = old := History.placesOf_of_granule hold
  have htg : c.tail ≠ g := fun htg => hp.free_not_chain hmem (by simp [hgs, htg])
  have hhg : c.head ≠ g := fun hhg => hp.free_not_chain hmem (by rw [hgs, ← hhg]; exact List.mem_of_mem_head? hhead)
  generalize hh' : (History.putGranule { h with free := free } c.tail
        { link := .next g, records := h.placesOf c.tail }).putGranule g { link := .last 1, records := [r] } = h'
  obtain ⟨hparts, -, -, hgs'⟩ := hp.grows (h' := h') (here := []) (rs := [r]) hfree (by simp) (show 1 ≤ Config.placeCount by decide)
    (by simp [hplaces, hlen, hfill])
    (hh' ▸ History.putGranule_wf (History.putGranule_wf hp.table (hp.lt (.inr (by simp [hgs]))) _) (hp.lt (.inl hmem)) _)
    (by simp [← hh']) (by simp [← hh']) (fun h => by simp [← hh', h]) (by simp [← hh']) fun j hj hj' => by simp [← hh', hj, hj']
  obtain ⟨before, p, hgs'', -, -, -, -, hfind⟩ := hparts.before_tail hhg
  obtain rfl : p = c.tail := by
    rw [hgs', hgs] at hgs''
    exact ((List.append_inj' (List.append_inj' hgs'' rfl).1 rfl).2 |> List.singleton_inj.1).symm
  have hunwrite : History.unwrite h' { c with tail := g, fill := 1 } true
      = (some { c with fill := Config.placeCount }, (h'.putGranule c.tail { link := .last Config.placeCount, records := old }).returnHead g) := by
    simp only [History.unwrite, Bool.true_eq_false, if_false, hhg]
    rw [show List.find? _ (h'.chainGranules (some { c with tail := g, fill := 1 })) = _ from hfind]
    have hplaces' : h'.placesOf c.tail = old := by rw [← hplaces, ← hh']; simp [History.placesOf, htg]
    simp only [hplaces']
  rw [hunwrite]
  refine ⟨by rw [← hfill], fun j => ?_, by simp [← hh', hfree, History.returnHead]⟩
  by_cases hj : j = g
  · simp [hj, hp.empty g hmem]
  · by_cases hjt : j = c.tail
    · simp [hjt, htg, hold, hfill]
    · simp [← hh', hj, hjt]

/-- The undo of a debit. -/
theorem History.Parts.undo_debit (hp : h.Parts e.chain rest) (r : UseRecord) (f : Lift) :
    h.Restores e.chain ((h.debit e r).history.undo (h.debit e r).facts f (h.debit e r).entry.chain) := by
  cases ha : h.append e.chain [r] with
  | none =>
    rw [History.debit_of_none ha]
    cases hc : e.chain <;> exact ⟨by simp [History.undo], fun _ => by simp [History.undo], by simp [History.undo]⟩
  | some a =>
    rw [History.debit_of_append ha]
    simp only [History.undo, if_true]
    cases hc : e.chain with
    | none =>
      rw [hc] at ha hp
      cases hfree : h.free with
      | nil => simp [History.append, hfree] at ha
      | cons g free =>
        rw [History.append_none hfree] at ha
        cases ha
        exact History.undo_begun hp hfree r
    | some c =>
      rw [hc] at ha hp
      obtain ⟨-, -, -, -, -, -, h6, -, -, -⟩ := hp.tail
      by_cases hfit : c.fill + [r].length ≤ Config.placeCount
      · rw [History.append_here hfit] at ha
        cases ha
        exact History.undo_here hp r
      · cases hfree : h.free with
        | nil =>
          cases ((History.append_eq_none (by simp)).2 ⟨fun x hx => Option.some.inj hx ▸ Nat.lt_of_not_le hfit, hfree⟩).symm.trans ha
        | cons g free =>
          have hfill : c.fill = Config.placeCount := by simp at hfit; omega
          rw [History.append_grow (by simp) hfit hfree] at ha
          cases ha
          simpa [hfill] using History.undo_grown hp hfill hfree r

theorem lifts_or_of_inMask : ∀ (m : LiftMask) (f : Lift), inMask m f = true → m ||| liftBit f = m := by decide

theorem lifts_or_and_not : ∀ (m : LiftMask) (f : Lift), inMask m f = false → (m ||| liftBit f) &&& ~~~liftBit f = m := by decide

/-- What an undo takes from the tail record (R35). -/
def UseRecord.unpassed (x : UseRecord) (facts : UndoFacts) (f : Lift) : UseRecord :=
  { x with
    admits := if facts.countRaised then x.admits - 1 else x.admits
    lifts := if facts.liftNewlySet then x.lifts &&& ~~~liftBit f else x.lifts }

theorem History.undo_amends {facts : UndoFacts} (hw : facts.recordWritten = false) (f : Lift) (c : Chain) :
    h.undo facts f (some c)
      = (some c, if facts.countRaised || facts.liftNewlySet then h.amendTail c fun x => x.unpassed facts f else h) := by
  simp only [History.undo, hw, Bool.false_eq_true, if_false]
  split <;> rfl

theorem UseRecord.passedAgain_unpassed (x : UseRecord) {facts : UndoFacts} {f : Lift} (hcount : facts.countRaised = decide (x.admits < 255))
    (hlift : facts.liftNewlySet = !inMask x.lifts f) : (x.passedAgain f).unpassed facts f = x := by
  obtain ⟨day, cls, first, admits, lifts⟩ := x
  simp only [UseRecord.unpassed, UseRecord.passedAgain, hcount, hlift] at *
  have hadmits : (if decide (admits < 255) = true then (if admits < 255 then admits + 1 else admits) - 1
      else if admits < 255 then admits + 1 else admits) = admits := by
    by_cases h : admits < 255 <;> simp [h]
  rw [hadmits]
  cases hm : inMask lifts f with
  | true => simp [lifts_or_of_inMask lifts f hm]
  | false => simp [lifts_or_and_not lifts f hm]

/-- A record that an update leaves as it is. -/
theorem UseRecord.passedAgain_eq (x : UseRecord) {f : Lift} (hcount : ¬ x.admits < 255) (hlift : inMask x.lifts f = true) :
    x.passedAgain f = x := by
  simp [UseRecord.passedAgain, hcount, lifts_or_of_inMask _ _ hlift]

/-- The undo of an update. -/
theorem History.Parts.undo_update (hp : h.Parts e.chain rest) (today : Nat) (f : Lift) :
    h.Restores e.chain ((h.update e today f).history.undo (h.update e today f).facts f (h.update e today f).entry.chain) := by
  cases hc : e.chain with
  | none =>
    rw [History.update_of_none hc]
    rw [hc]
    exact History.Restores.of_none h none f
  | some c =>
    rw [hc] at hp
    obtain ⟨older, x, hx, -⟩ := hp.tail_record
    by_cases hday : x.day = today
    · subst hday
      rw [History.update_of_today hc hx rfl]
      simp only [hc]
      rw [History.undo_amends rfl]
      have hwritten : (h.putGranule c.tail { link := .last c.fill, records := older ++ [x.passedAgain f] }).granule c.tail
          = some { link := .last c.fill, records := older ++ [x.passedAgain f] } := by simp
      have hback := x.passedAgain_unpassed (f := f) (facts := x.updateFacts f) rfl rfl
      refine ⟨rfl, fun j => ?_, ?_⟩
      · split
        · rw [History.amendTail_eq hwritten, hback]
          by_cases hj : j = c.tail <;> simp [hj, hx]
        next hsame =>
          simp only [UseRecord.updateFacts, Bool.or_eq_true, decide_eq_true_eq, Bool.not_eq_true', not_or, Bool.not_eq_false] at hsame
          rw [UseRecord.passedAgain_eq x hsame.1 hsame.2]
          by_cases hj : j = c.tail <;> simp [hj, hx]
      · split
        · rw [History.amendTail_eq hwritten]; rfl
        · rfl
    · rw [History.update_of_other_day hc hx rfl hday]
      rw [hc]
      exact History.Restores.of_none h (some c) f

end

theorem State.grantHistory_restores {s : State} {e : Entry} {rest : List Nat} (hp : s.history.Parts e.chain rest) (f : Lift) :
    s.history.Restores e.chain
      ((s.grantHistory e f).history.undo (s.grantHistory e f).facts f (s.grantHistory e f).entry.chain) := by
  unfold State.grantHistory
  dsimp only
  split
  · exact History.Restores.of_none _ _ f
  split
  · exact hp.undo_update _ f
  · exact hp.undo_debit _ f

/-- A grant and its rollback leave the entry as it was (R34, R88). -/
theorem State.granted_undone {s : State} {l : Lane} {n : Nat} {e : Entry} {q : LiveState} {rest : List Nat}
    (hp : s.history.Parts e.chain rest) (hq : e.state = .live q) (hm : e.marker = none) :
    (s.granted l e q).undone (s.opensHold l n e q) e.chain = e := by
  have hd := State.grantHistory_debits hp (s.liftOf l)
  have hentry := s.grantHistory_entry e (s.liftOf l)
  have hused : (if (s.grantHistory e (s.liftOf l)).facts.debitMade then (s.granted l e q).used - 1 else (s.granted l e q).used) = e.used := by
    rw [show (s.granted l e q).used = (s.grantHistory e (s.liftOf l)).entry.used from rfl, hd.used]
    split <;> simp
  have hlost : (if (s.grantHistory e (s.liftOf l)).facts.debitLost then (s.granted l e q).lost - 1 else (s.granted l e q).lost) = e.lost := by
    rw [show (s.granted l e q).lost = (s.grantHistory e (s.liftOf l)).entry.lost from rfl, hd.lost]
    split <;> simp
  unfold Entry.undone
  rw [show (s.opensHold l n e q).facts = (s.grantHistory e (s.liftOf l)).facts from rfl, hused, hlost]
  simp only [State.granted, State.opensHold]
  rw [hentry]
  obtain ⟨pass, seq, product, validFrom, validTo, bought, used, lost, state, price, lastUse, lastAdmit, chain, marker⟩ := e
  simp_all

/-- Settles O24: the history part by its three cases, and the entry field by field. -/
theorem rollbackUndoesTheGrant : Obligations.RollbackUndoesTheGrant := by
  unfold Obligations.RollbackUndoesTheGrant
  intro s l n e q hs hok he hq hm
  have hp := hok.parts_of_entry hs he
  have hread : (s.grant l n e q).entryAt (s.opensHold l n e q).slot = some (s.granted l e q) := by simp [State.opensHold]
  obtain ⟨hchain, hgranule, hfree⟩ := State.grantHistory_restores hp (s.liftOf l)
  have hundo : (s.grant l n e q).history.undo (s.opensHold l n e q).facts (s.opensHold l n e q).lift (s.granted l e q).chain
      = (s.grantHistory e (s.liftOf l)).history.undo (s.grantHistory e (s.liftOf l)).facts (s.liftOf l)
          (s.grantHistory e (s.liftOf l)).entry.chain := by rw [State.grant_history]; rfl
  refine ⟨s.opensHold l n e q, by simp, ?_⟩
  rw [State.undoGrant_of_entry hread, hundo, hchain, State.granted_undone hp hq hm]
  exact ⟨by simp [State.opensHold], fun m hmn => by simp [State.opensHold, hmn], by simpa using hgranule, by simpa using hfree, by simp,
    fun m hml => by simp [hml]⟩

end Sys2Proof.Machine

/-! The ranges of every entry and the order of its records: every step keeps them (R1, R2, R25, R76). -/

namespace Sys2Proof.Machine

/-! ### Ranges and days as the clock moves on -/

theorem Entry.Ok.mono {e : Entry} {today today' : Nat} (h : e.Ok today) (hle : today ≤ today') : e.Ok today' := by
  obtain ⟨h1, h2, h3, h4, h5, h6, h7, h8, h9, h10, h11, huse, hlast, hstate⟩ := h
  refine ⟨h1, h2, h3, h4, h5, h6, h7, h8, h9, h10, h11, fun d hd => (huse d hd).trans hle,
    fun a ha => ⟨(hlast a ha).1.trans hle, (hlast a ha).2⟩, ?_⟩
  cases hs : e.state with
  | refunded day amount =>
    rw [hs] at hstate
    exact ⟨hstate.1.trans hle, hstate.2⟩
  | live q => simpa [hs] using hstate
  | suspended q => simpa [hs] using hstate
  | expired => trivial

theorem DaysInOrder.mono {rs : List UseRecord} {last : Option Nat} {today today' : Nat} (h : DaysInOrder rs last today)
    (hle : today ≤ today') : DaysInOrder rs last today' :=
  ⟨h.1, fun x hx => ⟨(h.2 x hx).1.trans hle, (h.2 x hx).2⟩⟩

theorem Hold.PrevOk.mono {h : Hold} {e : Entry} {today today' : Nat} (hp : h.PrevOk e today) (hle : today ≤ today') :
    h.PrevOk e today' := by
  obtain ⟨h1, h2, h3, h4, hlast, hadmit⟩ := hp
  exact ⟨h1, h2, h3, h4, fun d hd => (hlast d hd).trans hle, fun a ha => ⟨(hadmit a ha).1.trans hle, (hadmit a ha).2⟩⟩

/-- The order of records is one of their days. -/
theorem DaysInOrder_iff {rs : List UseRecord} {last : Option Nat} {today : Nat} :
    DaysInOrder rs last today ↔ (rs.map UseRecord.day).Pairwise (· < ·)
      ∧ ∀ d ∈ rs.map UseRecord.day, d ≤ today ∧ ∃ d', last = some d' ∧ d ≤ d' := by
  simp only [DaysInOrder, List.mem_map, forall_exists_index, and_imp, forall_apply_eq_imp_iff₂]

theorem DaysInOrder.congr {rs rs' : List UseRecord} {last : Option Nat} {today : Nat} (h : DaysInOrder rs last today)
    (hdays : rs'.map UseRecord.day = rs.map UseRecord.day) : DaysInOrder rs' last today := by
  rw [DaysInOrder_iff] at h ⊢
  rwa [hdays]

theorem DaysInOrder.nil (last : Option Nat) (today : Nat) : DaysInOrder [] last today := ⟨.nil, by simp⟩

/-- Records behind older ones, on later days. -/
theorem DaysInOrder.append {old rs : List UseRecord} {last last' : Option Nat} {today : Nat} (h : DaysInOrder old last today)
    (hrs : (rs.map UseRecord.day).Pairwise (· < ·)) (hlater : ∀ d, last = some d → ∀ x ∈ rs, d < x.day)
    (hpassed : ∀ x ∈ rs, x.day ≤ today) (hlast : ∀ x ∈ old ++ rs, ∃ d, last' = some d ∧ x.day ≤ d) :
    DaysInOrder (old ++ rs) last' today := by
  refine ⟨?_, fun x hx => ⟨?_, hlast x hx⟩⟩
  · rw [List.map_append, List.pairwise_append]
    refine ⟨h.1, hrs, fun a ha b hb => ?_⟩
    obtain ⟨x, hx, rfl⟩ := List.mem_map.1 ha
    obtain ⟨y, hy, rfl⟩ := List.mem_map.1 hb
    obtain ⟨-, d, hd, hle⟩ := h.2 x hx
    exact hle.trans_lt (hlater d hd y hy)
  · rcases List.mem_append.1 hx with hx | hx
    · exact (h.2 x hx).1
    · exact hpassed x hx

/-! ### One entry changed -/

theorem State.EntriesOk.rebuild {s t : State} (hok : s.EntriesOk) (hs : s.StoreOk) (hh : s.HistoryOk) {n : Nat}
    (hclock : s.clock.day ≤ t.clock.day) (hread : ∀ m, m ≠ n → t.entryAt m = s.entryAt m)
    (hkept : ∀ g ∈ s.others n, t.history.granule g = s.history.granule g)
    (hentry : ∀ e, t.entryAt n = some e → e.Ok t.clock.day ∧ DaysInOrder (t.history.records e.chain) e.lastUse t.clock.day)
    (hhold : ∀ l h, (t.lane l).hold = some h → h.slot ≠ n ∧ (∃ h', (s.lane l).hold = some h' ∧ h = { h' with pendingExpiry := h.pendingExpiry })
      ∨ h.slot = n ∧ ∀ e, t.entryAt n = some e →
        DaysInOrder (if h.facts.recordWritten then (t.history.records e.chain).dropLast else t.history.records e.chain)
          h.prevLastUse t.clock.day
        ∧ h.PrevOk e t.clock.day) : t.EntriesOk := by
  have hsame {m : Nat} {e : Entry} (hm : m ≠ n) (he : t.entryAt m = some e) :
      s.entryAt m = some e ∧ t.history.records e.chain = s.history.records e.chain := by
    rw [hread m hm] at he
    exact ⟨he, (hh.chain_kept hs hkept hm he).2.2⟩
  have hholds {l : Lane} {h : Hold} {e : Entry} (hl : (t.lane l).hold = some h) (he : t.entryAt h.slot = some e) :
      DaysInOrder (if h.facts.recordWritten then (t.history.records e.chain).dropLast else t.history.records e.chain)
          h.prevLastUse t.clock.day
        ∧ h.PrevOk e t.clock.day := by
    rcases hhold l h hl with ⟨hn, h', hl', heq⟩ | ⟨hn, hgood⟩
    · obtain ⟨hes, hrec⟩ := hsame hn he
      have hslot : h.slot = h'.slot := by rw [heq]
      have hfacts : h.facts = h'.facts := by rw [heq]
      have hprev : h.prevLastUse = h'.prevLastUse := by rw [heq]
      have hp := hok.prev l h' e hl' (hslot ▸ hes)
      have hprevOk : h.PrevOk e s.clock.day := by rw [heq]; exact hp
      rw [hrec, hfacts, hprev]
      exact ⟨(hok.older l h' e hl' (hslot ▸ hes)).mono hclock, hprevOk.mono hclock⟩
    · exact hgood e (hn ▸ he)
  refine ⟨fun m e he => ?_, fun m e he => ?_, fun l h e hl he => (hholds hl he).1, fun l h e hl he => (hholds hl he).2⟩
  · by_cases hm : m = n
    · exact (hentry e (hm ▸ he)).1
    · exact (hok.entry m e (hsame hm he).1).mono hclock
  · by_cases hm : m = n
    · exact (hentry e (hm ▸ he)).2
    · rw [(hsame hm he).2]
      exact (hok.days m e (hsame hm he).1).mono hclock

/-- No entry changes. -/
theorem State.EntriesOk.congr {s t : State} (hok : s.EntriesOk) (hclock : s.clock.day ≤ t.clock.day)
    (hread : ∀ m, t.entryAt m = s.entryAt m) (hhistory : t.history = s.history)
    (hhold : ∀ l h, (t.lane l).hold = some h → ∃ h', (s.lane l).hold = some h' ∧ h = { h' with pendingExpiry := h.pendingExpiry }) :
    t.EntriesOk := by
  refine ⟨fun m e he => (hok.entry m e (hread m ▸ he)).mono hclock, fun m e he => ?_, fun l h e hl he => ?_, fun l h e hl he => ?_⟩
  · rw [hhistory]
    exact (hok.days m e (hread m ▸ he)).mono hclock
  · obtain ⟨h', hl', heq⟩ := hhold l h hl
    rw [hread] at he
    rw [hhistory, heq]
    exact (hok.older l h' e hl' (by rw [← he, heq])).mono hclock
  · obtain ⟨h', hl', heq⟩ := hhold l h hl
    rw [hread] at he
    rw [heq]
    have := (hok.prev l h' e hl' (by rw [← he, heq])).mono hclock
    exact this

/-! ### The grant -/

/-- A debit is made for a RIDER pass not used today (R33, R76). -/
theorem State.grantHistory_debitMade {s : State} {e : Entry} {f : Lift} (h : (s.grantHistory e f).facts.debitMade = true) :
    (s.product e.product).kind = .rider ∧ e.lastUse ≠ some s.clock.day := by
  unfold State.grantHistory at h
  dsimp only at h
  split at h
  · cases h
  next hkind =>
    split at h
    · unfold History.update at h
      split at h
      · split at h <;> cases h
      · cases h
    next hday =>
      cases hk : (s.product e.product).kind
      · exact ⟨rfl, hday⟩
      · exact absurd hk hkind

/-- The entry that a grant leaves, field by field (R33, R74 to R76). -/
theorem State.granted_eq {s : State} {l : Lane} {e : Entry} {q : LiveState} {rest : List Nat} (hp : s.history.Parts e.chain rest) :
    let d := s.grantHistory e (s.liftOf l)
    let used := if d.facts.debitMade then e.used + 1 else e.used
    s.granted l e q = { e with
      used := used, lost := if d.facts.debitLost then e.lost + 1 else e.lost
      lastUse := if d.facts.debitMade then some s.clock.day else e.lastUse, chain := d.entry.chain
      state := .live (if d.facts.debitMade then stateAfterDebit used e.bought else q)
      lastAdmit := some { lift := s.liftOf l, lane := l, day := s.clock.day, sec := s.clock.sec }, marker := some l } := by
  have hd := State.grantHistory_debits hp (s.liftOf l)
  have hentry := s.grantHistory_entry e (s.liftOf l)
  intro d used
  unfold State.granted
  dsimp only
  rw [hentry, hd.used, hd.lost, hd.lastUse]

section

variable {s : State} {l : Lane} {n : Nat} {e : Entry} {q : LiveState} {rest : List Nat}

/-- A debit finds a day left (R66, R76). -/
theorem State.Admits.day_left (ha : s.Admits l n e q) (hok : e.Ok s.clock.day)
    (hmade : (s.grantHistory e (s.liftOf l)).facts.debitMade = true) : q ≠ .exhausted ∧ e.used < e.bought := by
  obtain ⟨hrider, hday⟩ := State.grantHistory_debitMade hmade
  have hq : q ≠ .exhausted := fun hq => hday (ha.days hrider hq)
  obtain ⟨-, -, -, -, -, -, -, -, hused, -, -, -, -, hstate⟩ := hok
  rw [ha.live] at hstate
  exact ⟨hq, Nat.lt_of_le_of_ne hused fun h => hq (hstate.2 h)⟩

/-- The entry that a grant leaves is in its ranges. -/
theorem State.granted_ok (hp : s.history.Parts e.chain rest) (ha : s.Admits l n e q) (hclock : s.clock.ok) (hok : e.Ok s.clock.day) :
    (s.granted l e q).Ok s.clock.day := by
  have hleft := ha.day_left hok
  have hd := State.grantHistory_debits hp (s.liftOf l)
  obtain ⟨h1, h2, h3, h4, h5, h6, h7, h8, hused, hlost, h11, huse, hlast, hstate⟩ := hok
  rw [ha.live] at hstate
  rw [State.granted_eq hp]
  refine ⟨h1, h2, h3, h4, h5, h6, h7, h8, ?_, ?_, h11, fun d hday => ?_, fun a hadmit => ?_, ?_⟩
  · dsimp only
    split
    next hmade => exact (hleft hmade).2
    · exact hused
  · have hmade := hd.made
    have honce := hd.once
    dsimp only
    split <;> split <;> simp_all
    omega
  · split at hday
    · exact (Option.some.inj hday).ge
    · exact huse d hday
  · obtain rfl := Option.some.inj hadmit
    exact ⟨Nat.le_refl _, hclock.2.1⟩
  · dsimp only
    split
    next hmade =>
      unfold stateAfterDebit
      split <;> simp_all
    · exact hstate

theorem State.opensHold_facts (s : State) (l : Lane) (n : Nat) (e : Entry) (q : LiveState) :
    (s.opensHold l n e q).facts = (s.grantHistory e (s.liftOf l)).facts := rfl

theorem State.granted_records (hp : s.history.Parts e.chain rest) :
    ((s.grant l n e q).history.records (s.granted l e q).chain).map UseRecord.day
      = (s.history.records e.chain).map UseRecord.day
        ++ (if (s.grantHistory e (s.liftOf l)).facts.recordWritten then [s.clock.day] else []) := by
  rw [State.grant_history]
  exact (State.grantHistory_debits hp (s.liftOf l)).days

/-- The records that a grant leaves are in order of day (R25, R29). -/
theorem State.granted_days (hp : s.history.Parts e.chain rest) (hok : e.Ok s.clock.day)
    (hdays : DaysInOrder (s.history.records e.chain) e.lastUse s.clock.day) :
    DaysInOrder ((s.grant l n e q).history.records (s.granted l e q).chain) (s.granted l e q).lastUse s.clock.day := by
  have hd := State.grantHistory_debits hp (s.liftOf l)
  have hmade := hd.made
  have hnew := State.grantHistory_debitMade (s := s) (e := e) (f := s.liftOf l)
  obtain ⟨-, -, -, -, -, -, -, -, -, -, -, huse, -, -⟩ := hok
  rw [DaysInOrder_iff] at hdays ⊢
  rw [State.granted_records hp, State.granted_eq hp]
  dsimp only
  cases hw : (s.grantHistory e (s.liftOf l)).facts.recordWritten with
  | true =>
    have hm := hmade.2 (.inl hw)
    have hday := (hnew hm).2
    simp only [hm, if_true]
    refine ⟨List.pairwise_append.2 ⟨hdays.1, by simp, fun a ha b hb => ?_⟩, fun a ha => ?_⟩
    · obtain ⟨-, d, hlast, hle⟩ := hdays.2 a ha
      have := huse d hlast
      rw [List.mem_singleton.1 hb]
      exact hle.trans_lt (Nat.lt_of_le_of_ne this fun h => hday (h ▸ hlast))
    · rcases List.mem_append.1 ha with ha | ha
      · exact ⟨(hdays.2 a ha).1, _, rfl, (hdays.2 a ha).1⟩
      · exact ⟨(List.mem_singleton.1 ha).le, _, rfl, (List.mem_singleton.1 ha).le⟩
  | false =>
    simp only [Bool.false_eq_true, if_false, List.append_nil]
    refine ⟨hdays.1, fun a ha => ⟨(hdays.2 a ha).1, ?_⟩⟩
    split
    · exact ⟨_, rfl, (hdays.2 a ha).1⟩
    · exact (hdays.2 a ha).2

/-- What the hold of a grant keeps fits the entry before the grant (R88). -/
theorem State.opensHold_prevOk (hp : s.history.Parts e.chain rest) (ha : s.Admits l n e q) (hok : e.Ok s.clock.day) :
    (s.opensHold l n e q).PrevOk (s.granted l e q) s.clock.day := by
  have hd := State.grantHistory_debits hp (s.liftOf l)
  have hmade := hd.made
  obtain ⟨-, -, -, -, -, -, -, -, hused, hlost, -, huse, hlast, hstate⟩ := hok
  rw [ha.live] at hstate
  rw [State.granted_eq hp]
  refine ⟨?_, ?_, ?_, ?_, huse, hlast⟩ <;> rw [State.opensHold_facts] <;> dsimp only
  · intro hm
    rw [if_pos hm]
    omega
  · intro hl
    rw [if_pos hl]
    exact ⟨hmade.2 (.inr hl), by omega⟩
  · intro hm hl
    rw [if_pos hm, hl, if_neg (by simp)]
    omega
  · rw [show (s.opensHold l n e q).prevState = .exhausted ↔ e.used = e.bought from hstate]
    split <;> simp

theorem State.opensHold_older (hp : s.history.Parts e.chain rest)
    (hdays : DaysInOrder (s.history.records e.chain) e.lastUse s.clock.day) :
    let rs := (s.grant l n e q).history.records (s.granted l e q).chain
    DaysInOrder (if (s.opensHold l n e q).facts.recordWritten then rs.dropLast else rs) (s.opensHold l n e q).prevLastUse
      s.clock.day := by
  have hrs := State.granted_records (n := n) (q := q) (l := l) hp
  intro rs
  refine hdays.congr ?_
  rw [State.opensHold_facts]
  split
  next hw => rw [List.map_dropLast, hrs, hw]; simp
  next hw => rw [hrs, if_neg hw, List.append_nil]

end

/-! ### The rollback -/

/-- The entry that a rollback leaves is in its ranges (R88). -/
theorem Entry.undone_ok {e : Entry} {h : Hold} {c : Option Chain} {today : Nat} (hok : e.Ok today) (hp : h.PrevOk e today) :
    (e.undone h c).Ok today := by
  obtain ⟨h1, h2, h3, h4, h5, h6, h7, h8, hused, hlost, h11, -, -, -⟩ := hok
  obtain ⟨hmade, hlostmade, hroom, hstate, huse, hlast⟩ := hp
  refine ⟨h1, h2, h3, h4, h5, h6, h7, h8, ?_, ?_, h11, huse, hlast, hstate⟩
  · simp only [Entry.undone]
    split <;> omega
  · simp only [Entry.undone]
    cases hm : h.facts.debitMade <;> cases hl : h.facts.debitLost <;> simp_all
    omega

/-! ### Records added -/

section

variable {rs : List UseRecord} {last : Option Nat} {today : Nat}

/-- Every new record lies before the last of them, or is it. -/
theorem NewRecords.le_last (h : NewRecords rs last today) {x : UseRecord} (hx : x ∈ rs) :
    ∃ d, rs.getLast?.map UseRecord.day = some d ∧ x.day ≤ d ∧ d ≤ today := by
  obtain ⟨older, y, rfl⟩ := (List.eq_nil_or_concat' rs).resolve_left h.nonempty
  refine ⟨y.day, by simp, ?_, h.passed y (by simp)⟩
  have hrising := h.rising
  rw [List.map_append, List.pairwise_append] at hrising
  rcases List.mem_append.1 hx with hx | hx
  · exact (hrising.2.2 x.day (List.mem_map_of_mem hx) y.day (by simp)).le
  · rw [List.mem_singleton.1 hx]

/-- New records stand in order behind the older ones (R20, R21). -/
theorem NewRecords.behind (h : NewRecords rs last today) {old : List UseRecord} (hold : DaysInOrder old last today) :
    DaysInOrder (old ++ rs) (rs.getLast?.map UseRecord.day) today := by
  refine hold.append h.rising h.fresh h.passed fun x hx => ?_
  rcases List.mem_append.1 hx with hx | hx
  · obtain ⟨-, d, hd, hle⟩ := hold.2 x hx
    obtain ⟨y, hy⟩ := List.exists_mem_of_ne_nil rs h.nonempty
    obtain ⟨d', hd', hle', -⟩ := h.le_last hy
    exact ⟨d', hd', (hle.trans (h.fresh d hd y hy).le).trans hle'⟩
  · obtain ⟨d, hd, hle, -⟩ := h.le_last hx
    exact ⟨d, hd, hle⟩

/-- An entry that takes records stays in its ranges (R20, R21). -/
theorem NewRecords.entry_ok {e : Entry} (h : NewRecords rs e.lastUse today) (hok : e.Ok today) (htakes : e.state.takesRecords = true)
    (hroom : e.used + rs.length ≤ e.bought) (c : Option Chain) :
    Entry.Ok { e with chain := c, used := e.used + rs.length, state := e.state.added (e.used + rs.length) e.bought
                      lastUse := rs.getLast?.map UseRecord.day } today := by
  have hpos := List.length_pos_iff.2 h.nonempty
  obtain ⟨h1, h2, h3, h4, h5, h6, h7, h8, hused, hlost, h11, huse, hlast, hstate⟩ := hok
  refine ⟨h1, h2, h3, h4, h5, h6, h7, h8, hroom, by dsimp only; omega, h11, fun d hd => ?_, hlast, ?_⟩
  · obtain ⟨x, hx⟩ := List.exists_mem_of_ne_nil rs h.nonempty
    obtain ⟨d', hd', -, hle⟩ := h.le_last hx
    rw [← Option.some.inj (hd'.symm.trans hd)]
    exact hle
  · have hadded (q : LiveState) (hq : q = .exhausted ↔ e.used = e.bought) :
        q.added (e.used + rs.length) e.bought = .exhausted ↔ e.used + rs.length = e.bought := by
      unfold LiveState.added
      split
      next hall => simp [hall]
      next hall =>
        have : q ≠ .exhausted := fun h => by have := hq.1 h; omega
        split <;> simp_all
    cases hs : e.state with
    | live q => rw [hs] at hstate; exact hadded q hstate
    | suspended q => rw [hs] at hstate; exact hadded q hstate
    | refunded d a => simp [hs, PassState.takesRecords] at htakes
    | expired => simp [hs, PassState.takesRecords] at htakes

end

/-! ### Every move -/

theorem State.reset_entriesOk : State.reset.EntriesOk := by
  have hentry (n : Nat) : State.reset.entryAt n = none := rfl
  exact ⟨by simp [hentry], by simp [hentry], by simp [hentry], by simp [hentry]⟩

/-- Every move keeps a valid clock valid, and the day does not fall but at power-on reset. -/
theorem State.Move.clockOk {s t : State} (h : s.Move t) (hok : s.clock.ok) : t.clock.ok := by
  cases h with
  | quiet hq => exact (hq.clock hok).1
  | opens hu _ _ => simpa using (hu.clock hok).1
  | powerOn => exact (show State.reset.clock.ok by decide)
  | _ => simpa using hok

/-- Every move keeps every entry in its ranges and its records in order. -/
theorem State.Move.entriesOk {s t : State} (h : s.Move t) (hs : s.StoreOk) (hh : s.HoldsOk) (hhist : s.HistoryOk) (hclock : s.clock.ok)
    (hok : s.EntriesOk) : t.EntriesOk := by
  have kept {t : State} (hhold : ∀ l, (t.lane l).hold = (s.lane l).hold) (l : Lane) (h : Hold) (hl : (t.lane l).hold = some h) :
      ∃ h', (s.lane l).hold = some h' ∧ h = { h' with pendingExpiry := h.pendingExpiry } := ⟨h, hhold l ▸ hl, rfl⟩
  cases h with
  | quiet hq => exact hok.congr (hq.clock hclock).2 hq.entryAt hq.history (kept hq.hold)
  | @opens u l n e q hu hgrant ha =>
    have hus : u.StoreOk := hs.congr hu.slots hu.freeSlots
    have huh : u.HistoryOk := hhist.congr hu.slots hu.history fun l h e hl he => hhist.facts l h e (hu.hold l ▸ hl) he
    have hu' : u.EntriesOk := hok.congr (hu.clock hclock).2 hu.entryAt hu.history (kept hu.hold)
    have hp := huh.parts_of_entry hus ha.entry
    have he := hu'.entry n e ha.entry
    have hd := hu'.days n e ha.entry
    have hgrantOk : (u.grant l n e q).EntriesOk := by
      refine hu'.rebuild hus huh (n := n) (by simp) (fun m hm => by simp [hm]) ?_ (fun x hx => ?_) fun m h hm => ?_
      · simpa using (State.grantHistory_debits hp (u.liftOf l)).kept
      · obtain rfl : u.granted l e q = x := by simpa using hx
        simp only [State.grant_frame]
        exact ⟨State.granted_ok hp ha (hu.clock hclock).1 he, by simpa using State.granted_days (n := n) (q := q) hp he hd⟩
      · rw [State.grant_lane] at hm
        split at hm
        · obtain rfl := Option.some.inj hm
          refine .inr ⟨rfl, fun x hx => ?_⟩
          obtain rfl : u.granted l e q = x := by simpa using hx
          simp only [State.grant_frame]
          exact ⟨by simpa using State.opensHold_older hp hd, State.opensHold_prevOk hp ha he⟩
        · exact .inl ⟨(hh.quiet hu).slot_ne hm fun x hx => by
            rw [ha.entry] at hx
            rw [← Option.some.inj hx, ha.marker], h, hm, rfl⟩
    exact hgrantOk.congr (by simp) (by simp) (by simp) fun m h hm => ⟨h, by simpa using hm, rfl⟩
  | @drop l h _ hl _ =>
    obtain ⟨e, -, he, -⟩ := hh.entry hl
    have hu := hhist.undone hs hl he
    rw [State.undoGrant_of_entry he]
    refine hok.rebuild hs hhist (n := h.slot) (by simp) (fun m hm => by simp [hm]) ?_ (fun x hx => ?_) fun m k hm => ?_
    · simpa using hu.kept
    · obtain rfl : e.undone h (s.history.undo h.facts h.lift e.chain).1 = x := by simpa using hx
      refine ⟨by simpa using Entry.undone_ok (hok.entry _ e he) (hok.prev l h e hl he), ?_⟩
      have hdays := (hok.older l h e hl he).congr hu.days
      simpa [Entry.undone] using hdays
    · simp only [State.countDayOnly_frame, State.setHold_lane] at hm
      split at hm
      · cases hm
      next hne =>
        have hm : (s.lane m).hold = some k := by simpa using hm
        exact .inl ⟨hh.slots_ne hm hl hne, k, hm, rfl⟩
  | @commit l h hl =>
    obtain ⟨e, -, he, -⟩ := hh.entry hl
    refine hok.rebuild hs hhist (n := h.slot) (by simp) (fun m hm => by simp [State.modEntry_entryAt, hm]) (by simp) (fun x hx => ?_)
      fun m k hm => ?_
    · obtain rfl : { e with marker := none } = x := by simpa [State.modEntry_entryAt, he] using hx
      exact ⟨by simpa [Entry.Ok] using hok.entry _ e he, by simpa using hok.days _ e he⟩
    · simp only [State.countDayOnly_frame, State.setHold_lane] at hm
      split at hm
      · cases hm
      next hne =>
        have hm : (s.lane m).hold = some k := by simpa using hm
        exact .inl ⟨hh.slots_ne hm hl hne, k, hm, rfl⟩
  | @restate l x d hnone =>
    refine hok.congr (by simp) (by simp) (by simp) fun m h hm => ⟨h, ?_, rfl⟩
    by_cases hml : m = l
    · subst hml; simpa using hm
    · simpa [hml] using hm
  | close hnone => exact hok.congr (by simp) (by simp) (by simp) fun m h hm => by simp [LaneRec.warm] at hm
  | @due l =>
    refine hok.congr (by simp) (by simp) (by simp) fun m h hm => ?_
    by_cases hml : m = l
    · subst hml
      obtain ⟨k, hk, rfl⟩ : ∃ k, (s.lane m).hold = some k ∧ { k with pendingExpiry := true } = h := by
        simpa [State.makeDue] using hm
      exact ⟨k, hk, rfl⟩
    · exact ⟨h, by simpa [State.makeDue, hml] using hm, rfl⟩
  | roll => exact hok.congr (by simp) (by simp) (by simp) fun m h hm => ⟨h, by simpa using hm, rfl⟩
  | @edit n e seq x he hm hgood =>
    have hbare (y : Entry) (hy : s.entryAt n = some y) : y.marker = none := by
      rw [he] at hy
      rw [← Option.some.inj hy, hm hh]
    refine hok.rebuild hs hhist (n := n) (by simp) (fun m hm => by simp [hm]) (by simp) (fun y hy => ?_) fun m k hk =>
      .inl ⟨hh.slot_ne hk hbare, k, hk, rfl⟩
    obtain rfl : { e with seq := seq, state := x } = y := by simpa using hy
    exact ⟨by simpa using hgood (hok.entry n e he), by simpa using hok.days n e he⟩
  | @use n e rs a he hm htakes ha hnew hroom =>
    have hbare (y : Entry) (hy : s.entryAt n = some y) : y.marker = none := by
      rw [he] at hy
      rw [← Option.some.inj hy, hm hh]
    obtain ⟨-, hrecords, hkept⟩ := (hhist.parts_of_entry hs he).append hnew.nonempty (hnew.few.trans (by decide)) ha
    refine hok.rebuild hs hhist (n := n) (by simp) (fun m hm => by simp [hm]) (by simpa using hkept) (fun y hy => ?_) fun m k hk =>
      .inl ⟨hh.slot_ne (by simpa using hk) hbare, k, by simpa using hk, rfl⟩
    simp only [State.putEntry_entryAt, if_true, Option.some.injEq] at hy
    subst hy
    simp only [State.putEntry_frame, State.withHistory_fields, hrecords]
    exact ⟨hnew.entry_ok (hok.entry n e he) htakes hroom _, hnew.behind (hok.days n e he)⟩
  | @place n e hv hnew hchain hlast hused =>
    refine hok.rebuild hs hhist (n := n) (by simp) (fun m hm => by simp [hm]) (by simp) (fun y hy => ?_) fun m k hk =>
      .inl ⟨hh.slot_ne (by simpa using hk) (by simp [hv.free]), k, by simpa using hk, rfl⟩
    obtain rfl : e = y := by simpa using hy
    refine ⟨hnew.ok _ (by simp [hlast]), ?_⟩
    simpa [hchain, History.records_eq, History.chainGranules] using DaysInOrder.nil _ _
  | @restore n e rs a hv hnew ha hchain hrs hlast hused =>
    have hp := hhist.parts hs n
    rw [hv.free] at hp
    obtain ⟨-, hrecords, hkept⟩ := hp.append hrs.nonempty (hrs.few.trans (by decide)) ha
    refine hok.rebuild hs hhist (n := n) (by simp) (fun m hm => by simp [hm]) (by simpa using hkept) (fun y hy => ?_) fun m k hk =>
      .inl ⟨hh.slot_ne (by simpa using hk) (by simp [hv.free]), k, by simpa using hk, rfl⟩
    obtain rfl : e = y := by simpa using hy
    refine ⟨hnew.ok _ fun d hd => ?_, ?_⟩
    · obtain ⟨x, hx⟩ := List.exists_mem_of_ne_nil rs hrs.nonempty
      obtain ⟨d', hd', -, hle⟩ := hrs.le_last hx
      rw [hlast, hd'] at hd
      simpa [← Option.some.inj hd] using hle
    · have hnil : s.history.records none = [] := rfl
      have hdays := hrs.behind (old := []) (DaysInOrder.nil _ _)
      simpa [hchain, hrecords, hnil, hlast] using hdays
  | @retire n e e' he hm hchain =>
    obtain ⟨-, hkept⟩ := (hhist.parts_of_entry hs he).freeChain
    refine hok.rebuild hs hhist (n := n) (by simp) (fun m hm => by simp [hm]) (by simpa [hchain] using hkept) (by simp) fun m k hk =>
      .inl ⟨hh.slot_ne (by simpa using hk) fun y hy => ?_, k, by simpa using hk, rfl⟩
    rw [he] at hy
    rw [← Option.some.inj hy, hm]
  | powerOn => exact State.reset_entriesOk.congr (Nat.le_refl _) (fun _ => rfl) rfl fun m h hm => ⟨h, hm, rfl⟩

/-- Settles O59: every move of the path that a step takes keeps the entries in order, with the invariants they rest on. -/
theorem stepsKeepEntriesInRange : Obligations.StepsKeepEntriesInRange := by
  unfold Obligations.StepsKeepEntriesInRange
  exact fun s t hs hh hhist hrange hok hstep =>
    (step_keeps (P := fun x => x.StoreOk ∧ x.HoldsOk ∧ x.HistoryOk ∧ x.clock.ok ∧ x.EntriesOk)
      (fun _ _ hmove ⟨hs, hh, hhist, hclock, hok⟩ => ⟨hmove.storeOk hs, hmove.holdsOk hh, hmove.historyOk hs hh hhist,
        hmove.clockOk hclock, hmove.entriesOk hs hh hhist hclock hok⟩) hstep ⟨hs, hh, hhist, hrange.clock, hok⟩).2.2.2.2

end Sys2Proof.Machine

/-! The ranges of the clock, the lanes, the lifts, the counts, the sweep and the arbiter, and that every command keeps them. -/

namespace Sys2Proof.Machine

/-! ### The device's own ranges -/

/-- The ranges of the blocks that more than one command writes: those of `State.InRange` but the ports' and the office tables'. -/
structure State.DeviceOk (s : State) : Prop where
  clock    : s.clock.ok
  lanes    : ∀ l, (s.lane l).ok
  instants : ∀ l, (s.lane l).InstantsOk s.clock.day
  lifts    : ∀ f, (s.lift f).ok
  counts   : s.counts.ok
  sweep    : s.sweep.ok
  walk     : s.sweep.walk.isSome = true → s.clock.state = .running
  arbiter  : s.arbiter.ok

/-- From one state to another the ranges are kept. -/
def State.Tame (s t : State) : Prop := s.DeviceOk → t.DeviceOk

theorem State.Tame.refl (s : State) : s.Tame s := id

theorem State.Tame.trans {s t u : State} (h : s.Tame t) (h' : t.Tame u) : s.Tame u := fun hok => h' (h hok)

theorem State.Tame.foldl {α : Type} (f : State → α → State) (hf : ∀ (t : State) (a : α), t.Tame (f t a)) (l : List α) (s : State) :
    s.Tame (l.foldl f s) := by
  induction l generalizing s with
  | nil => exact .refl s
  | cons a l ih => exact (hf s a).trans (ih _)

/-- A change outside these blocks. -/
theorem State.Tame.of_onlyChanges {ps : List Part} {s t : State} (h : onlyChanges ps s t)
    (hps : ∀ p ∈ [Part.clock, .lanes, .lifts, .counts, .sweep, .arbiter], p ∉ ps) : s.Tame t := by
  simp only [List.forall_mem_cons, List.not_mem_nil, false_imp_iff, implies_true, and_true] at hps
  obtain ⟨hclock, hlanes, hlifts, hcounts, hsweep, harbiter⟩ := hps
  have hclock : t.clock = s.clock := h _ hclock
  have hlanes : t.lane = s.lane := by
    have h : t.lanes = s.lanes := h _ hlanes
    unfold State.lane; rw [h]
  have hlifts : t.lift = s.lift := by
    have h : t.lifts = s.lifts := h _ hlifts
    unfold State.lift; rw [h]
  have hcounts : t.counts = s.counts := h _ hcounts
  have hsweep : t.sweep = s.sweep := h _ hsweep
  have harbiter : t.arbiter = s.arbiter := h _ harbiter
  intro ⟨h1, h2, h3, h4, h5, h6, h7, h8⟩
  exact ⟨hclock ▸ h1, hlanes ▸ h2, hlanes ▸ hclock ▸ h3, hlifts ▸ h4, hcounts ▸ h5, hsweep ▸ h6, hsweep ▸ hclock ▸ h7, harbiter ▸ h8⟩

/-! ### Writes of one block -/

section

variable (s : State)

theorem State.setLane_tame {l : Lane} {r : LaneRec} (h : s.DeviceOk → r.ok ∧ r.InstantsOk s.clock.day) : s.Tame (s.setLane l r) := by
  intro hok
  obtain ⟨hr, hi⟩ := h hok
  refine ⟨by simpa using hok.clock, fun m => ?_, fun m => ?_, by simpa using hok.lifts, by simpa using hok.counts,
    by simpa using hok.sweep, by simpa using hok.walk, by simpa using hok.arbiter⟩
  · rw [State.setLane_lane]
    split
    · exact hr
    · exact hok.lanes m
  · rw [State.setLane_lane]
    split
    · simpa using hi
    · simpa using hok.instants m

theorem State.modLane_tame {l : Lane} {f : LaneRec → LaneRec}
    (h : s.DeviceOk → (f (s.lane l)).ok ∧ (f (s.lane l)).InstantsOk s.clock.day) : s.Tame (s.modLane l f) := s.setLane_tame h

theorem State.setLift_tame {f : Lift} {r : LiftRec} (h : s.DeviceOk → r.ok) : s.Tame (s.setLift f r) := by
  intro hok
  refine ⟨by simpa using hok.clock, by simpa using hok.lanes, by simpa using hok.instants, fun g => ?_, by simpa using hok.counts,
    by simpa using hok.sweep, by simpa using hok.walk, by simpa using hok.arbiter⟩
  rw [State.setLift_lift]
  split
  · exact h hok
  · exact hok.lifts g

theorem State.withCounts_tame {x : CountUnit} (h : s.DeviceOk → x.ok) : s.Tame (s.withCounts x) := fun hok =>
  ⟨by simpa using hok.clock, by simpa using hok.lanes, by simpa using hok.instants, by simpa using hok.lifts, by simpa using h hok,
    by simpa using hok.sweep, by simpa using hok.walk, by simpa using hok.arbiter⟩

theorem State.withSweep_tame {x : Sweep} (h : s.DeviceOk → x.ok ∧ (x.walk.isSome = true → s.clock.state = .running)) :
    s.Tame (s.withSweep x) := fun hok =>
  ⟨by simpa using hok.clock, by simpa using hok.lanes, by simpa using hok.instants, by simpa using hok.lifts, by simpa using hok.counts,
    by simpa using (h hok).1, by simpa using (h hok).2, by simpa using hok.arbiter⟩

theorem State.withArbiter_tame {x : Arbiter} (h : s.DeviceOk → x.ok) : s.Tame (s.withArbiter x) := fun hok =>
  ⟨by simpa using hok.clock, by simpa using hok.lanes, by simpa using hok.instants, by simpa using hok.lifts, by simpa using hok.counts,
    by simpa using hok.sweep, by simpa using hok.walk, by simpa using h hok⟩

theorem LaneRec.InstantsOk.mono {r : LaneRec} {today today' : Nat} (h : r.InstantsOk today) (hle : today ≤ today') :
    r.InstantsOk today' := by
  obtain ⟨hlate, hdwell, hhold⟩ := h
  refine ⟨fun x hx => ⟨(hlate x hx).1.trans hle, (hlate x hx).2⟩, fun d hd => ?_, hhold⟩
  obtain ⟨h1, h2, h3, h4⟩ := hdwell d hd
  exact ⟨h1.trans hle, h2, h3.trans hle, h4⟩

/-- The clock moves on, and does not leave RUNNING. -/
theorem State.withClock_tame {x : Clock}
    (h : s.DeviceOk → x.ok ∧ s.clock.day ≤ x.day ∧ (s.clock.state = .running → x.state = .running)) : s.Tame (s.withClock x) :=
  fun hok => ⟨by simpa using (h hok).1, by simpa using hok.lanes, fun l => by simpa using (hok.instants l).mono (h hok).2.1,
    by simpa using hok.lifts, by simpa using hok.counts, by simpa using hok.sweep, by simpa using fun hw => (h hok).2.2 (hok.walk hw),
    by simpa using hok.arbiter⟩

/-! ### Events and the pass store -/

theorem State.raise_tame (e : Event) : s.Tame (s.raise e) :=
  .of_onlyChanges (ps := [.gates, .office]) (by simp [onlyChanges_iff]) (by decide)

theorem State.raiseDevice_tame (d : DeviceEvent) : s.Tame (s.raiseDevice d) := s.raise_tame _

theorem State.handLevel_tame (e : Event) (before after : Bool) : s.Tame (s.handLevel e before after) :=
  .of_onlyChanges (ps := [.gates, .office]) (by simp [onlyChanges_iff]) (by decide)

theorem State.judgeLevel_tame (e : Event) (before after : Bool) : s.Tame (s.judgeLevel e before after) :=
  .of_onlyChanges (ps := [.gates, .office]) (by simp [onlyChanges_iff]) (by decide)

theorem State.modPort_tame (p : Port) (f : PortRec → PortRec) : s.Tame (s.modPort p f) :=
  .of_onlyChanges (ps := [.gates, .office]) (by simp [onlyChanges_iff]) (by decide)

theorem State.putEntry_tame (n : Nat) (e : Entry) : s.Tame (s.putEntry n e) :=
  .of_onlyChanges (ps := [.slots]) (by simp [onlyChanges_iff]) (by decide)

theorem State.modEntry_tame (n : Nat) (f : Entry → Entry) : s.Tame (s.modEntry n f) :=
  .of_onlyChanges (ps := [.slots]) (by simp [onlyChanges_iff]) (by decide)

theorem State.withHistory_tame (h : History) : s.Tame (s.withHistory h) :=
  .of_onlyChanges (ps := [.history]) (by simp [onlyChanges_iff]) (by decide)

theorem State.writeHistory_tame (h : History) : s.Tame (s.writeHistory h) := (s.withHistory_tame h).trans (State.judgeLevel_tame _ _ _ _)

theorem State.drewOrder_tame (ls : List Lane) : s.Tame (s.drewOrder ls) :=
  .of_onlyChanges (ps := [.orderIndex]) (by simp [onlyChanges_iff]) (by decide)

/-! ### Counts -/

theorem bump_le {top n : Nat} (h : n ≤ top) : bump top n ≤ top := by
  unfold bump
  split <;> omega

theorem LaneCounter.exists_index : ∀ k : Fin 11, ∃ j : LaneCounter, j.index = k := by
  intro k
  fin_cases k
  exacts [⟨.granted, rfl⟩, ⟨.committed, rfl⟩, ⟨.released, rfl⟩, ⟨.expired, rfl⟩, ⟨.refused, rfl⟩, ⟨.unreadable, rfl⟩, ⟨.pace, rfl⟩,
    ⟨.tailgate, rfl⟩, ⟨.late, rfl⟩, ⟨.free, rfl⟩, ⟨.staff, rfl⟩]

theorem LiftCounter.exists_index : ∀ k : Fin 3, ∃ j : LiftCounter, j.index = k := by
  intro k
  fin_cases k
  exacts [⟨.boarded, rfl⟩, ⟨.distinct, rfl⟩, ⟨.pace, rfl⟩]

/-- The range of a set, counter by counter. -/
theorem CountSet.atMost_iff {c : CountSet} {top : Nat} :
    c.atMost top ↔ (∀ l k, c.lane l k ≤ top) ∧ ∀ f k, c.lift f k ≤ top := by
  refine ⟨fun h => ⟨fun l k => h.1 l k.index l.isLt k.index.isLt, fun f k => h.2 f k.index f.isLt k.index.isLt⟩, fun h => ⟨?_, ?_⟩⟩
  · intro l k hl hk
    obtain ⟨j, hj⟩ := LaneCounter.exists_index ⟨k, hk⟩
    have := h.1 ⟨l, hl⟩ j
    simpa [CountSet.lane, hj] using this
  · intro f k hf hk
    obtain ⟨j, hj⟩ := LiftCounter.exists_index ⟨k, hk⟩
    have := h.2 ⟨f, hf⟩ j
    simpa [CountSet.lift, hj] using this

theorem CountSet.setLane_atMost {c : CountSet} {top n : Nat} (h : c.atMost top) (hn : n ≤ top) (l : Lane) (k : LaneCounter) :
    (c.setLane l k n).atMost top := by
  rw [CountSet.atMost_iff] at h ⊢
  refine ⟨fun m j => ?_, fun f j => ?_⟩
  · rw [CountSet.setLane_lane]
    split
    · exact hn
    · exact h.1 m j
  · rw [CountSet.setLane_lift]
    exact h.2 f j

theorem CountSet.setLift_atMost {c : CountSet} {top n : Nat} (h : c.atMost top) (hn : n ≤ top) (f : Lift) (k : LiftCounter) :
    (c.setLift f k n).atMost top := by
  rw [CountSet.atMost_iff] at h ⊢
  refine ⟨fun l j => ?_, fun g j => ?_⟩
  · rw [CountSet.setLift_lane]
    exact h.1 l j
  · rw [CountSet.setLift_lift]
    split
    · exact hn
    · exact h.2 g j

theorem CountSet.zero_atMost (top : Nat) : CountSet.zero.atMost top := by
  rw [CountSet.atMost_iff]
  simp

theorem State.noteSaturation_tame (old : Nat) : s.Tame (s.noteSaturation old) := by
  unfold State.noteSaturation
  split
  · exact (s.withCounts_tame (x := { s.counts with saturated := true }) fun hok => hok.counts).trans (State.raiseDevice_tame _ _)
  · exact .refl s

theorem State.countLane_tame (l : Lane) (k : LaneCounter) : s.Tame (s.countLane l k) := by
  refine (s.withCounts_tame fun hok => ?_).trans (State.noteSaturation_tame _ _)
  obtain ⟨hrun, hsnap, hday, hrest⟩ := hok.counts
  exact ⟨CountSet.setLane_atMost hrun (bump_le ((CountSet.atMost_iff.1 hrun).1 l k)) l k, hsnap,
    CountSet.setLane_atMost hday (bump_le ((CountSet.atMost_iff.1 hday).1 l k)) l k, hrest⟩

theorem State.countLift_tame (f : Lift) (k : LiftCounter) : s.Tame (s.countLift f k) := by
  refine (s.withCounts_tame fun hok => ?_).trans (State.noteSaturation_tame _ _)
  obtain ⟨hrun, hsnap, hday, hrest⟩ := hok.counts
  exact ⟨CountSet.setLift_atMost hrun (bump_le ((CountSet.atMost_iff.1 hrun).2 f k)) f k, hsnap,
    CountSet.setLift_atMost hday (bump_le ((CountSet.atMost_iff.1 hday).2 f k)) f k, hrest⟩

theorem State.countDayOnly_tame (l : Lane) (k : LaneCounter) : s.Tame (s.countDayOnly l k) := by
  refine s.withCounts_tame fun hok => ?_
  obtain ⟨hrun, hsnap, hday, hrest⟩ := hok.counts
  exact ⟨hrun, hsnap, CountSet.setLane_atMost hday (bump_le ((CountSet.atMost_iff.1 hday).1 l k)) l k, hrest⟩

theorem nextRound_le {n : Nat} (h : n ≤ 65535) : nextRound n ≤ 65535 := by
  unfold nextRound
  split <;> omega

theorem State.transfer_tame : s.Tame s.transfer := by
  unfold State.transfer
  dsimp only
  have hmove : s.Tame ((s.withCounts { s.counts with
      running := .zero, snapshot := s.counts.running, snapRound := s.counts.round, round := nextRound s.counts.round
      snapSaturated := s.counts.saturated, saturated := false, snapOverrun := s.counts.snapUnread, snapUnread := true }).raiseDevice
      .roundReady) := by
    refine (s.withCounts_tame fun hok => ?_).trans (State.raiseDevice_tame _ _)
    obtain ⟨hrun, -, hday, h1, h2, hround, -, hmode⟩ := hok.counts
    exact ⟨CountSet.zero_atMost _, hrun, hday, h1, h2, nextRound_le hround, hround, hmode⟩
  split
  · exact hmove.trans (State.raiseDevice_tame _ _)
  · exact hmove

theorem CountUnit.loaded_ok {c : CountUnit} (h : c.ok) : CountUnit.ok { c with mode := c.loaded } := by
  obtain ⟨hrun, hsnap, hday, h1, h2, hround, hsnapRound, -⟩ := h
  refine ⟨hrun, hsnap, hday, h1, h2, hround, hsnapRound, fun n hn => ?_⟩
  simp only [CountUnit.loaded, ReportMode.auto.injEq] at hn
  omega

theorem State.tickTimer_tame : s.Tame s.tickTimer := by
  unfold State.tickTimer
  split
  · exact .refl s
  next n hmode =>
    split
    · exact s.transfer_tame.trans (State.withCounts_tame _ fun hok => CountUnit.loaded_ok hok.counts)
    next hn =>
      refine s.withCounts_tame fun hok => ?_
      obtain ⟨hrun, hsnap, hday, h1, h2, hround, hsnapRound, hauto⟩ := hok.counts
      refine ⟨hrun, hsnap, hday, h1, h2, hround, hsnapRound, fun m hm => ?_⟩
      have := hauto n hmode
      simp only [ReportMode.auto.injEq] at hm
      omega

theorem State.rollCounts_tame : s.Tame s.rollCounts := by
  refine s.withCounts_tame fun hok => ?_
  obtain ⟨hrun, hsnap, -, hrest⟩ := hok.counts
  refine ⟨hrun, hsnap, CountSet.atMost_iff.2 ⟨fun l k => ?_, fun f k => ?_⟩, hrest⟩
  · rw [State.rolledDaySet_lane]
    split <;> simp [Config.dayTop]
  · rw [State.rolledDaySet_lift]
    exact Nat.zero_le _

theorem CountUnit.warm_ok {c : CountUnit} (h : c.ok) : c.warm.ok := by
  have hloaded := CountUnit.loaded_ok h
  obtain ⟨-, -, hday, h1, h2, -, -, -⟩ := h
  refine ⟨CountSet.zero_atMost _, CountSet.zero_atMost _, hday, h1, h2, Nat.zero_le _, Nat.zero_le _, fun n hn => ?_⟩
  simp only [CountUnit.warm] at hn
  split at hn
  · exact hloaded.2.2.2.2.2.2.2 n hn
  · cases hn

/-! ### Lifts -/

theorem State.takePace_tame (f : Lift) : s.Tame (s.takePace f) := s.setLift_tame fun hok => by
  obtain ⟨h1, h2, h3, h4, h5⟩ := hok.lifts f
  exact ⟨h1, h2, h3, h4, (Nat.sub_le _ _).trans h5⟩

theorem State.givePace_tame (f : Lift) : s.Tame (s.givePace f) := s.setLift_tame fun hok => by
  obtain ⟨h1, h2, h3, h4, h5⟩ := hok.lifts f
  exact ⟨h1, h2, h3, h4, Nat.min_le_right _ _⟩

theorem State.tickLift_tame (lines : LiftLines) (f : Lift) : s.Tame (s.tickLift lines f) := by
  have hfilter (x : LiftState) : s.Tame (s.filterLift f x) := by
    have hset : s.Tame (s.setLift f ((s.lift f).sample x)) := s.setLift_tame fun hok => hok.lifts f
    unfold State.filterLift
    dsimp only
    split
    · exact hset
    · exact hset.trans (State.handLevel_tame _ _ _ _)
  refine (hfilter _).trans (State.setLift_tame _ fun hok => ?_)
  obtain ⟨h1, h2, h3, h4, h5⟩ := hok.lifts f
  unfold LiftRec.refilled
  split
  · exact ⟨h1, h2, h3, h4, h5⟩
  · exact ⟨h1, h2, h3, h4, Nat.min_le_right _ _⟩

/-! ### Lanes -/

/-- The instants of the present, while the clock is in range. -/
theorem State.DeviceOk.now {s : State} (h : s.DeviceOk) : s.now.day ≤ s.clock.day ∧ s.now.sec ≤ Config.lastSecond :=
  ⟨Nat.le_refl _, h.clock.2.1⟩

theorem State.setHold_tame {l : Lane} {h : Option Hold}
    (hh : s.DeviceOk → ∀ x, h = some x → x.deadline.day ≤ Config.lastDay ∧ x.deadline.sec ≤ Config.lastSecond) :
    s.Tame (s.setHold l h) := s.modLane_tame fun hok =>
  ⟨hok.lanes l, (hok.instants l).1, (hok.instants l).2.1, hh hok⟩

theorem State.endHold_tame (l : Lane) : s.Tame (s.setHold l none) := s.setHold_tame fun _ x hx => by cases hx

theorem State.setLate_tame {l : Lane} {x : Option LateRecord} (hx : ∀ y, x = some y → y.expired = s.now) : s.Tame (s.setLate l x) :=
  s.modLane_tame fun hok => ⟨hok.lanes l, fun y hy => hx y hy ▸ hok.now, (hok.instants l).2.1, (hok.instants l).2.2⟩

theorem State.endDwell_tame (l : Lane) : s.Tame (s.setDwell l none) := s.modLane_tame fun hok =>
  ⟨⟨(hok.lanes l).1, (hok.lanes l).2.1, by simp⟩, (hok.instants l).1, by simp, (hok.instants l).2.2⟩

theorem State.endOtherDwell_tame (l : Lane) (pass : Nat) : s.Tame (s.endOtherDwell l pass) := by
  unfold State.endOtherDwell
  split
  · exact .refl s
  · split
    · exact .refl s
    · exact s.endDwell_tame l

theorem State.raiseRun_tame (l : Lane) : s.Tame (s.raiseRun l) := by
  refine .trans (s.modLane_tame fun hok => ?_) (State.judgeLevel_tame _ _ _ _)
  exact ⟨⟨(hok.lanes l).1, bump_le (hok.lanes l).2.1, (hok.lanes l).2.2⟩, hok.instants l⟩

theorem State.clearRun_tame (l : Lane) : s.Tame (s.clearRun l) := by
  refine .trans (s.modLane_tame fun hok => ?_) (State.judgeLevel_tame _ _ _ _)
  exact ⟨⟨(hok.lanes l).1, Nat.zero_le _, (hok.lanes l).2.2⟩, hok.instants l⟩

theorem State.writeProfile_tame (l : Lane) {p : Profile} (hp : p.ok) : s.Tame (s.writeProfile l p) := by
  refine .trans (s.modLane_tame fun hok => ?_) (State.judgeLevel_tame _ _ _ _)
  exact ⟨⟨hp, (hok.lanes l).2⟩, hok.instants l⟩

theorem State.undoGrant_tame (l : Lane) (h : Hold) : s.Tame (s.undoGrant l h) := by
  unfold State.undoGrant
  split
  · exact s.endHold_tame l
  · exact ((s.withHistory_tame _).trans (State.putEntry_tame _ _ _)).trans (State.endHold_tame _ l)

theorem State.rollback_tame (l : Lane) (h : Hold) : s.Tame (s.rollback l h) :=
  ((s.undoGrant_tame l h).trans (State.judgeLevel_tame _ _ _ _)).trans (State.givePace_tame _ _)

theorem State.releaseHold_tame (l : Lane) : s.Tame (s.releaseHold l) := by
  unfold State.releaseHold
  split
  · exact .refl s
  · exact (s.rollback_tame l _).trans (State.countLane_tame _ _ _)

theorem State.expireHold_tame (l : Lane) (h : Hold) : s.Tame (s.expireHold l h) := by
  refine (((s.rollback_tame l h).trans (State.countLane_tame _ _ _)).trans (State.setLate_tame _ fun y hy => ?_)).trans
    (State.raise_tame _ _)
  rw [← Option.some.inj hy]
  simp [State.now]

theorem State.commitHold_tame (l : Lane) (h : Hold) : s.Tame (s.commitHold l h) := by
  have hstart : s.Tame (((s.modEntry h.slot fun e => { e with marker := none }).setHold l none).setLate l none) :=
    ((s.modEntry_tame _ _).trans (State.endHold_tame _ l)).trans (State.setLate_tame _ fun y hy => by cases hy)
  have hstaff (t : State) : t.Tame (if h.kind = .control then t.countLane l .staff else t) := by
    split
    · exact t.countLane_tame l _
    · exact .refl t
  have hdistinct (t : State) : t.Tame (if h.facts.liftNewlySet then t.countLift h.lift .distinct else t) := by
    split
    · exact t.countLift_tame _ _
    · exact .refl t
  exact (((hstart.trans (State.countLane_tame _ _ _)).trans (hstaff _)).trans (State.countLift_tame _ _ _)).trans (hdistinct _)

theorem State.latePassage_tame (l : Lane) : s.Tame (s.latePassage l) :=
  (((s.countLane_tame l _).trans (State.countLift_tame _ _ _)).trans (State.takePace_tame _ _)).trans
    (State.setLate_tame _ fun y hy => by cases hy)

theorem State.unpairedPassage_tame (l : Lane) : s.Tame (s.unpairedPassage l) := by
  unfold State.unpairedPassage
  refine .trans ?_ (((State.countLift_tame _ _ _).trans (State.takePace_tame _ _)).trans
    (State.setLate_tame _ fun y hy => by cases hy))
  split
  · exact s.countLane_tame l _
  · exact (s.countLane_tame l _).trans (State.raise_tame _ _)

/-- A change of lane state whose dwell record fits the new state. -/
theorem State.moveLane_tame (l : Lane) {x : LaneState} {d : Option Dwell}
    (hd : s.DeviceOk → ∀ y, d = some y → (x = .work .normal ∨ x = .work .opened) ∧ y.start.day ≤ s.clock.day
      ∧ y.start.sec ≤ Config.lastSecond ∧ y.last.day ≤ s.clock.day ∧ y.last.sec ≤ Config.lastSecond) : s.Tame (s.moveLane l x d) := by
  intro hok
  have hd := hd hok
  have hmove (t : State) (ht : t.clock = s.clock) : t.Tame (t.modLane l fun r => { r with state := x, dwell := d }) := by
    refine t.modLane_tame fun htok => ⟨⟨(htok.lanes l).1, (htok.lanes l).2.1, fun hsome => ?_⟩, (htok.instants l).1, fun y hy => ?_,
      (htok.instants l).2.2⟩
    · obtain ⟨y, hy⟩ := Option.isSome_iff_exists.1 hsome
      exact (hd y hy).1
    · rw [ht]
      exact (hd y hy).2
  simp only [State.moveLane]
  split
  · exact (((s.releaseHold_tame l).trans (hmove _ (by simp))).trans (State.handLevel_tame _ _ _ _)) hok
  · exact ((hmove s rfl).trans (State.handLevel_tame _ _ _ _)) hok

theorem State.moveLane_none_tame (l : Lane) (x : LaneState) : s.Tame (s.moveLane l x none) :=
  s.moveLane_tame l fun _ y hy => by cases hy

theorem State.nameState_tame (l : Lane) (code : Option WorkState) : s.Tame (s.nameState l code) := by
  unfold State.nameState
  split
  · exact .refl s
  split
  next hfault =>
    refine s.modLane_tame fun hok => ⟨⟨(hok.lanes l).1, (hok.lanes l).2.1, fun hsome => ?_⟩, hok.instants l⟩
    have := (hok.lanes l).2.2 hsome
    simp [hfault] at this
  · split
    · exact .refl s
    · exact s.moveLane_none_tame l _

theorem State.setLanes_tame (ls : List Lane) (code : Option WorkState) {p : Profile} (hp : p.ok) : s.Tame (s.setLanes ls code p) :=
  ((State.Tame.foldl State.releaseHold (fun t l => t.releaseHold_tame l) _ s).trans (State.drewOrder_tame _ _)).trans <|
    State.Tame.foldl _ (fun t l => (t.nameState_tame l code).trans (State.writeProfile_tame _ l hp)) ls _

/-- The dwell of a tracked presentation lies within the past. -/
theorem State.DeviceOk.trackedDwell {s : State} (hok : s.DeviceOk) (l : Lane) (pass : Nat) :
    let d := trackedDwell (s.lane l).dwell pass s.now
    d.start.day ≤ s.clock.day ∧ d.start.sec ≤ Config.lastSecond ∧ d.last.day ≤ s.clock.day ∧ d.last.sec ≤ Config.lastSecond := by
  unfold Machine.trackedDwell
  have hnow := hok.now
  split
  · exact ⟨hnow.1, hnow.2, hnow⟩
  next x hx =>
    obtain ⟨h1, h2, -, -⟩ := (hok.instants l).2.1 x hx
    split
    · exact ⟨h1, h2, hnow⟩
    · exact ⟨hnow.1, hnow.2, hnow⟩

/-- Dwell tracking goes on in NORMAL and OPEN alone (R56, R57). -/
theorem State.track_tame {l : Lane} (hlane : (s.lane l).state = .work .normal ∨ (s.lane l).state = .work .opened) (pass : Nat) :
    s.Tame (s.track l pass).1 := by
  unfold State.track
  dsimp only
  split
  · refine s.moveLane_tame l fun hok y hy => ⟨?_, ?_⟩
    · rcases hlane with h | h <;> simp [h, LaneState.toggled]
    · rw [← Option.some.inj hy]
      exact hok.trackedDwell l pass
  · refine s.modLane_tame (f := fun r => { r with dwell := some (Machine.trackedDwell (s.lane l).dwell pass s.now) }) fun hok =>
      ⟨⟨(hok.lanes l).1, (hok.lanes l).2.1, fun _ => hlane⟩, (hok.instants l).1, fun y hy => ?_, (hok.instants l).2.2⟩
    rw [← Option.some.inj hy]
    exact hok.trackedDwell l pass

/-- A deadline is an instant that the clock can hold (R48). -/
theorem Instant.after_ok {a : Instant} {n : Nat} (hday : a.day ≤ Config.lastDay) (hsec : a.sec ≤ Config.lastSecond)
    (hn : n ≤ Config.lastSecond) : (a.after n).day ≤ Config.lastDay ∧ (a.after n).sec ≤ Config.lastSecond := by
  unfold Instant.after
  split
  next h => exact ⟨hday, h⟩
  split
  next h =>
    refine ⟨h, ?_⟩
    simp only [Config.lastSecond, Config.daySeconds] at *
    omega
  · exact ⟨Nat.le_refl _, Nat.le_refl _⟩

theorem State.grant_tame (l : Lane) (n : Nat) (e : Entry) (q : LiveState) : s.Tame (s.grant l n e q) := by
  have hstore := (s.writeHistory_tame (s.grantHistory e (s.liftOf l)).history).trans (State.putEntry_tame _ n (s.granted l e q))
  rw [State.grant_eq]
  refine (hstore.trans (State.setHold_tame _ fun hok x hx => ?_)).trans (State.takePace_tame _ _)
  rw [← Option.some.inj hx]
  have hclock : s.clock.ok := by simpa using hok.clock
  have hprofile := (hok.lanes l).1
  simp only [State.putEntry_frame, State.writeHistory_frame] at hprofile
  refine Instant.after_ok hclock.1 hclock.2.1 ?_
  exact hprofile.2.1.trans (by decide)

/-! ### The sweep and the arbiter -/

theorem State.setWalk_tame {w : Option Walk} (h : s.DeviceOk → (∀ x, w = some x → x.cursor % Config.batchSize = 0
      ∧ x.cursor < Config.slotCount ∧ ∀ n, x.urgency = .must n → n ≤ 4) ∧ (w.isSome = true → s.clock.state = .running)) :
    s.Tame (s.setWalk w) := s.withSweep_tame fun hok =>
  ⟨⟨hok.sweep.1, hok.sweep.2.1, hok.sweep.2.2.1, (h hok).1⟩, (h hok).2⟩

theorem State.toMust_tame : s.Tame s.toMust := by
  unfold State.toMust
  split
  next cursor hw =>
    refine s.setWalk_tame fun hok => ⟨fun x hx => ?_, fun _ => hok.walk (by simp [hw])⟩
    obtain ⟨h1, h2, -⟩ := hok.sweep.2.2.2 _ hw
    rw [← Option.some.inj hx]
    exact ⟨h1, h2, by simp +contextual⟩
  · exact .refl s

theorem State.tableLowTest_tame : s.Tame s.tableLowTest := by
  unfold State.tableLowTest
  split
  · exact s.toMust_tame
  · exact .refl s

theorem State.deadlineTest_tame : s.Tame s.deadlineTest := by
  unfold State.deadlineTest
  split
  · exact s.toMust_tame.trans (State.raiseDevice_tame _ _)
  · exact .refl s

theorem State.setFreeSlots_tame (n : Nat) : s.Tame (s.setFreeSlots n) := by
  have hwrite : s.Tame (s.withFreeSlots n) := .of_onlyChanges (ps := [.freeSlots]) (by simp [onlyChanges_iff]) (by decide)
  exact (hwrite.trans (State.judgeLevel_tame _ _ _ _)).trans (State.tableLowTest_tame _)

theorem State.place_tame (n : Nat) (e : Entry) : s.Tame (s.place n e) := (s.putEntry_tame n e).trans (State.setFreeSlots_tame _ _)

theorem State.startSweep_tame (hrun : s.clock.state = .running) : s.Tame s.startSweep := by
  unfold State.startSweep
  split
  · refine s.setWalk_tame fun hok => ⟨fun x hx => ?_, fun _ => hrun⟩
    rw [← Option.some.inj hx]
    exact ⟨rfl, show 0 < Config.slotCount by decide, by simp⟩
  · refine .trans (s.setWalk_tame fun hok => ⟨fun x hx => ?_, fun _ => hrun⟩) (State.raiseDevice_tame _ _)
    rw [← Option.some.inj hx]
    refine ⟨rfl, show 0 < Config.slotCount by decide, fun n hn => ?_⟩
    split at hn
    · cases hn
    · simp only [Urgency.must.injEq] at hn
      omega

theorem State.retire_tame (n : Nat) (e : Entry) : s.Tame (s.retire n e) := by
  have hwrite : s.Tame (s.withSlots (Table.erase s.slots n)) := .of_onlyChanges (ps := [.slots]) (by simp [onlyChanges_iff]) (by decide)
  exact (hwrite.trans (State.writeHistory_tame _ _)).trans (State.setFreeSlots_tame _ _)

theorem State.visitSlot_tame (n : Nat) : s.Tame (s.visitSlot n) := by
  unfold State.visitSlot
  split
  · exact .refl s
  split
  · exact .refl s
  dsimp only
  split
  · exact s.retire_tame _ _
  split
  · exact .refl s
  · exact s.putEntry_tame _ _

theorem State.endBatch_tame {cursor : Nat} (hcursor : cursor % Config.batchSize = 0) : s.Tame (s.endBatch cursor) := by
  unfold State.endBatch
  split
  · exact (s.setWalk_tame fun _ => ⟨by simp, by simp⟩).trans (State.raiseDevice_tame _ _)
  next hroom =>
    split
    next w hw =>
      refine s.setWalk_tame fun hok => ⟨fun x hx => ?_, fun _ => hok.walk (by simp [hw])⟩
      rw [← Option.some.inj hx]
      exact ⟨by simpa using hcursor, by dsimp only; omega, (hok.sweep.2.2.2 w hw).2.2⟩
    · exact .refl s

theorem State.sweepBatch_tame : s.Tame s.sweepBatch := by
  intro hok
  unfold State.sweepBatch
  split
  · exact hok
  next w hw =>
    exact ((State.Tame.foldl _ (fun t n => t.visitSlot_tame n) _ s).trans
      (State.endBatch_tame _ (hok.sweep.2.2.2 w hw).1)) hok

theorem State.burstAfter_le {s : State} (hok : s.arbiter.ok) : s.burstAfter ≤ 15 := by
  unfold State.burstAfter
  split
  · have := hok.2.2
    omega
  · exact Nat.zero_le _

theorem Urgency.charged_le {u : Urgency} (h : ∀ n, u = .must n → n ≤ 4) (g : Grant) (n : Nat) (hn : u.charged g = .must n) : n ≤ 4 := by
  unfold Urgency.charged at hn
  split at hn
  · split at hn
    · cases hn
    · simp only [Urgency.must.injEq] at hn; omega
  · split at hn
    · cases hn
    · simp only [Urgency.must.injEq] at hn; omega

theorem State.charge_tame (g : Grant) : s.Tame (s.charge g) := by
  unfold State.charge
  refine .trans (s.withArbiter_tame ?_) (State.setWalk_tame _ ?_)
  · intro hok
    refine ⟨?_, hok.arbiter.2⟩
    dsimp only
    split
    · split
      · exact hok.arbiter.1
      · exact State.burstAfter_le hok.arbiter
    · exact hok.arbiter.1
  · intro hok
    refine ⟨fun x hx => ?_, fun hsome => hok.walk (by simpa using hsome)⟩
    obtain ⟨w, hw, rfl⟩ := Option.map_eq_some_iff.1 hx
    obtain ⟨h1, h2, h3⟩ := hok.sweep.2.2.2 w (by simpa using hw)
    exact ⟨h1, h2, Urgency.charged_le h3 g⟩

theorem State.makeDue_tame (l : Lane) : s.Tame (s.makeDue l) := by
  refine (s.modLane_tame fun hok => ⟨hok.lanes l, (hok.instants l).1, (hok.instants l).2.1, fun h hh => ?_⟩).trans
    (State.withArbiter_tame _ fun hok => hok.arbiter)
  obtain ⟨h', hh', rfl⟩ := Option.map_eq_some_iff.1 hh
  exact (hok.instants l).2.2 h' hh'

theorem State.testHolds_tame : s.Tame s.testHolds :=
  (State.Tame.foldl _ (fun t l => t.makeDue_tame l) _ s).trans (State.drewOrder_tame _ _)

/-! ### The clock -/

theorem Clock.ticked_state (c : Clock) : c.ticked.state = c.state := by
  unfold Clock.ticked
  dsimp only
  split
  · rfl
  split
  · rfl
  split <;> rfl

theorem State.tickClock_tame : s.Tame s.tickClock := by
  have hclock : s.Tame (s.withClock s.clock.ticked) := s.withClock_tame fun hok =>
    ⟨(Clock.ticked_ok hok.clock).1, (Clock.ticked_ok hok.clock).2, fun h => by rw [Clock.ticked_state, h]⟩
  unfold State.tickClock
  dsimp only
  split
  next hrolls =>
    refine ((hclock.trans (State.raiseDevice_tame _ _)).trans (State.rollCounts_tame _)).trans (State.startSweep_tame _ ?_)
    have hrun : s.clock.state = .running := by
      simp only [Clock.rolls, Bool.and_eq_true, beq_iff_eq] at hrolls
      exact hrolls.1.1.1
    simp [Clock.ticked_state, hrun]
  split
  · exact hclock.trans (State.raiseDevice_tame _ _)
  · exact hclock

theorem State.tickSweep_tame (rolled : Bool) : s.Tame (s.tickSweep rolled) := by
  unfold State.tickSweep
  split
  · exact s.deadlineTest_tame.trans (State.tableLowTest_tame _)
  · exact s.deadlineTest_tame

theorem State.withPins_tame (x : Pins) : s.Tame (s.withPins x) :=
  .of_onlyChanges (ps := [.pins]) (by simp [onlyChanges_iff]) (by decide)

theorem State.tickAll_tame (lines : LiftLines) : s.Tame (s.tickAll lines) :=
  ((((s.withPins_tame _).trans (State.tickClock_tame _)).trans (State.tickSweep_tame _ _)).trans
    (State.Tame.foldl _ (fun t f => t.tickLift_tame lines f) _ _)).trans
    ((State.testHolds_tame _).trans (State.tickTimer_tame _))

end

end Sys2Proof.Machine

/-! Every command keeps the ranges of the device's own blocks. -/

namespace Sys2Proof.Machine

section

variable (s : State)

/-! ### The requests that the arbiter grants -/

theorem State.passed_tame (bs : List Byte) : s.Tame (s.passed bs).1 := by
  unfold State.passed
  dsimp only
  split
  · exact s.commitHold_tame _ _
  · split
    · exact s.latePassage_tame _
    · exact s.unpairedPassage_tame _

theorem State.release_tame (bs : List Byte) : s.Tame (s.release bs).1 := by
  unfold State.release
  dsimp only
  split
  · exact s.releaseHold_tame _
  · exact .refl s

theorem State.jam_tame (bs : List Byte) : s.Tame (s.jam bs).1 := by
  unfold State.jam
  dsimp only
  split
  · exact .refl s
  · exact .refl s
  · exact s.moveLane_none_tame _ _

theorem State.clearJam_tame (bs : List Byte) : s.Tame (s.clearJam bs).1 := by
  unfold State.clearJam
  dsimp only
  split
  · exact s.moveLane_none_tame _ _
  · exact .refl s

theorem State.countVerdict_tame (v : Code) (l : Lane) : s.Tame (s.countVerdict v l) := by
  unfold State.countVerdict
  split
  · exact .refl s
  · exact .refl s
  · exact .refl s
  · exact (s.countLane_tame l _).trans (State.countLift_tame _ _ _)
  · exact s.countLane_tame l _

section

variable {l : Lane} (hlane : (s.lane l).state = .work .normal ∨ (s.lane l).state = .work .opened)

include hlane

theorem State.presentAdmit_tame (n : Nat) (e : Entry) (q : LiveState) : s.Tame (s.presentAdmit l n e q).1 := by
  have hgrant : s.Tame ((s.grant l n e q).countLane l .granted) := (s.grant_tame l n e q).trans (State.countLane_tame _ _ _)
  unfold State.presentAdmit
  dsimp only
  split
  · exact hgrant.trans (State.track_tame _ (by simpa using hlane) _)
  · exact hgrant.trans (State.endOtherDwell_tame _ _ _)

theorem State.presentFound_tame (v : Code) (n : Nat) (e : Entry) : s.Tame (s.presentFound v l n e).1 := by
  unfold State.presentFound
  split
  · exact s.presentAdmit_tame hlane _ _ _
  · exact s.track_tame hlane _
  · exact (s.endDwell_tame l).trans (State.countLane_tame _ _ _)
  · split
    · exact s.track_tame hlane _
    · exact s.endOtherDwell_tame _ _
  · exact (s.endOtherDwell_tame _ _).trans (State.countVerdict_tame _ _ _)

end

theorem State.present_tame (l : Lane) (x : Image) : s.Tame (s.present l x).1 := by
  rcases s.present_cases l x with ⟨-, -, h⟩ | ⟨-, -, -, h⟩ | ⟨-, -, -, h⟩ | ⟨-, hlane, h⟩
  · rw [h]; dsimp only; exact s.countLane_tame _ _
  · rw [h]; dsimp only; exact s.countLane_tame _ _
  · rw [h]; dsimp only; exact s.countLane_tame _ _
  · have hclear := s.clearRun_tame l
    rcases h with ⟨r, -, -, h⟩ | ⟨c, -, ⟨-, -, h⟩ | ⟨-, -, -, h⟩ | ⟨n, e, -, -, -, h⟩⟩
    · rw [h, State.presentUnreadable]; dsimp only
      exact ((s.raiseRun_tame l).trans (State.countLane_tame _ _ _)).trans (State.countLane_tame _ _ _)
    · rw [h]; dsimp only; exact (hclear.trans (State.endOtherDwell_tame _ _ _)).trans (State.countLane_tame _ _ _)
    · rw [h]; dsimp only; exact (hclear.trans (State.endOtherDwell_tame _ _ _)).trans (State.countLane_tame _ _ _)
    · rw [h]; exact hclear.trans (State.presentFound_tame _ (by simpa using hlane) _ _ _)

theorem State.issue_tame (bs : List Byte) : s.Tame (s.issue bs).1 := by
  unfold State.issue
  dsimp only
  split
  · exact .refl s
  split
  · exact .refl s
  split
  · exact .refl s
  split
  · exact s.toMust_tame
  · exact s.place_tame _ _

theorem State.restore_tame (bs : List Byte) : s.Tame (s.restore bs).1 := by
  unfold State.restore
  dsimp only
  split
  · exact .refl s
  split
  · exact .refl s
  split
  · exact s.toMust_tame
  split
  · exact s.place_tame _ _
  split
  · exact .refl s
  · exact (s.withHistory_tame _).trans (State.place_tame _ _ _)

theorem State.reissue_tame (bs : List Byte) : s.Tame (s.reissue bs).1 := by
  unfold State.reissue
  split
  · exact .refl s
  split
  · exact .refl s
  · exact s.putEntry_tame _ _

theorem State.suspend_tame (bs : List Byte) : s.Tame (s.suspend bs).1 := by
  unfold State.suspend
  split
  · exact .refl s
  split
  · exact s.putEntry_tame _ _
  · exact .refl s

theorem State.resume_tame (bs : List Byte) : s.Tame (s.resume bs).1 := by
  unfold State.resume
  split
  · exact .refl s
  split
  · exact s.putEntry_tame _ _
  · exact .refl s

theorem State.addUse_tame (bs : List Byte) : s.Tame (s.addUse bs).1 := by
  have hwrite (h : History) (n : Nat) (e : Entry) : s.Tame ((s.withHistory h).putEntry n e) :=
    (s.withHistory_tame h).trans (State.putEntry_tame _ n e)
  unfold State.addUse
  dsimp only
  split
  · exact .refl s
  split
  · exact .refl s
  split
  · exact .refl s
  split
  · exact .refl s
  split
  · exact .refl s
  split
  · exact .refl s
  split
  · exact .refl s
  split
  · exact .refl s
  · exact hwrite _ _ _

theorem State.refund_tame (bs : List Byte) : s.Tame (s.refund bs).1 := by
  unfold State.refund
  split
  · exact .refl s
  split
  · exact .refl s
  dsimp only
  split
  · exact .refl s
  split
  · exact .refl s
  unfold State.refundValued
  split
  · exact .refl s
  split
  · exact .refl s
  · exact s.putEntry_tame _ _

theorem clamp_le {lo hi : Nat} (h : lo ≤ hi) (n : Nat) : lo ≤ clamp lo hi n ∧ clamp lo hi n ≤ hi := by
  unfold clamp
  omega

theorem profileArg_ok (bs : List Byte) : (profileArg bs).ok := by
  have h1 := clamp_le (lo := 3) (hi := 20) (by decide) (byteAt 3 bs)
  have h2 := clamp_le (lo := 0) (hi := 30) (by decide) (byteAt 4 bs)
  have h3 := clamp_le (lo := 1) (hi := 15) (by decide) (byteAt 5 bs)
  exact ⟨h1.1, h1.2, h2.2, h3.1, h3.2⟩

theorem State.setLaneRequest_tame (bs : List Byte) : s.Tame (s.setLaneRequest bs).1 := s.setLanes_tame _ _ (profileArg_ok bs)

/-! ### The requests that the office port serves -/

theorem State.setLiftRequest_tame (bs : List Byte) : s.Tame (s.setLiftRequest bs).1 := by
  unfold State.setLiftRequest
  split
  · exact .refl s
  · have h1 := clamp_le (lo := 1) (hi := 120) (by decide) (byteAt 1 bs)
    have h2 := clamp_le (lo := 1) (hi := 32) (by decide) (byteAt 2 bs)
    exact s.setLift_tame fun _ => ⟨h1.1, h1.2, h2.1, h2.2, Nat.le_refl _⟩

theorem State.setReport_tame (bs : List Byte) : s.Tame (s.setReport bs).1 := by
  have hperiod := clamp_le (lo := 1) (hi := 60) (by decide) (byteAt 1 bs)
  unfold State.setReport
  dsimp only
  split
  · refine s.withCounts_tame fun hok => ?_
    obtain ⟨h1, h2, h3, -, -, h4, h5, -⟩ := hok.counts
    exact ⟨h1, h2, h3, hperiod.1, hperiod.2, h4, h5, by simp⟩
  · refine s.withCounts_tame fun hok => ?_
    obtain ⟨h1, h2, h3, -, -, h4, h5, -⟩ := hok.counts
    refine ⟨h1, h2, h3, hperiod.1, hperiod.2, h4, h5, fun n hn => ?_⟩
    simp only [CountUnit.loaded, ReportMode.auto.injEq] at hn
    omega
  · exact .refl s

theorem State.takeSnapshot_tame : s.Tame s.takeSnapshot.1 := by
  unfold State.takeSnapshot
  split
  · exact .refl s
  · exact s.transfer_tame

theorem State.readCounts_tame (bs : List Byte) : s.Tame (s.readCounts bs).1 := by
  unfold State.readCounts
  dsimp only
  split
  · exact .refl s
  split
  · split
    · exact s.withCounts_tame (x := { s.counts with snapUnread := false }) fun hok => hok.counts
    · exact .refl s
  · exact .refl s
  · exact .refl s

theorem State.setStorePolicy_tame (bs : List Byte) : s.Tame (s.setStorePolicy bs).1 := by
  have h1 := clamp_le (lo := 0) (hi := 60) (by decide) (byteAt 0 bs)
  have h2 := clamp_le (lo := 0) (hi := Config.lastSecond) (by decide) (fieldAt 1 3 bs)
  have h3 := clamp_le (lo := 0) (hi := Config.slotCount) (by decide) (fieldAt 4 2 bs)
  have h4 := clamp_le (lo := 1) (hi := 15) (by decide) (byteAt 6 bs)
  have hsweep : s.Tame (s.withSweep { s.sweep with
      retention := clamp 0 60 (byteAt 0 bs), deadline := clamp 0 Config.lastSecond (fieldAt 1 3 bs)
      floor := clamp 0 Config.slotCount (fieldAt 4 2 bs) }) :=
    s.withSweep_tame fun hok => ⟨⟨h1.2, h2.2, h3.2, hok.sweep.2.2.2⟩, hok.walk⟩
  have harbiter (t : State) : t.Tame (t.withArbiter { t.arbiter with burstLimit := clamp 1 15 (byteAt 6 bs) }) :=
    t.withArbiter_tame fun hok => ⟨hok.arbiter.1, h4⟩
  exact (((hsweep.trans (harbiter _)).trans (State.judgeLevel_tame _ _ _ _)).trans
    (State.tableLowTest_tame _)).trans (State.deadlineTest_tame _)

theorem State.setClock_tame (bs : List Byte) : s.Tame (s.setClock bs).1 := by
  unfold State.setClock
  dsimp only
  split
  · exact .refl s
  next hok =>
    have hok : targetDay bs ≤ Config.lastDay ∧ targetSecond bs ≤ Config.lastSecond := by simpa [targetOk] using hok
    split
    next hunset =>
      refine s.withClock_tame fun h => ⟨⟨hok.1, hok.2, h.clock.2.2.1, by simp, by simp⟩, ?_, fun _ => rfl⟩
      have := (h.clock.2.2.2.1 hunset).1
      dsimp only
      omega
    next hrun =>
      split
      · exact .refl s
      · refine .trans (s.withClock_tame ?_) (State.deadlineTest_tame _)
        intro h
        refine ⟨⟨h.clock.1, hok.2, h.clock.2.2.1, by simp [hrun], ?_⟩, Nat.le_refl _, fun h => h⟩
        dsimp only
        split
        · simp
        · intro hst
          have := h.clock.2.2.2.2 hst
          omega

/-! ### The sweep, the tick, the resets and the ports -/

theorem State.expire_tame (x : Expiry) : s.Tame (s.expire x) := by
  have hwrite : s.Tame (s.withArbiter { s.arbiter with expiries := s.arbiter.expiries.erase x }) :=
    s.withArbiter_tame fun hok => hok.arbiter
  unfold State.expire
  dsimp only
  split
  · split
    · exact hwrite.trans (State.expireHold_tame _ _ _)
    · exact hwrite
  · exact hwrite

theorem LaneRec.warm_ok {r : LaneRec} (h : r.ok) (today : Nat) : r.warm.ok ∧ r.warm.InstantsOk today :=
  ⟨⟨h.1, Nat.zero_le _, by simp [LaneRec.warm]⟩, by simp [LaneRec.InstantsOk, LaneRec.warm]⟩

theorem LiftRec.warm_ok {r : LiftRec} (h : r.ok) : r.warm.ok := ⟨h.1, h.2.1, h.2.2.1, h.2.2.2.1, Nat.le_refl _⟩

theorem State.warmReset_tame : s.Tame s.warmReset := by
  have hback : s.Tame s.rollBackAll :=
    State.Tame.foldl _ (fun t (x : Lane × Hold) => (t.undoGrant_tame x.1 x.2).trans (State.countDayOnly_tame _ x.1 .released)) _ s
  have hlanes (t : State) : t.Tame (t.withLanes (Vector.ofFn fun l : Lane => (t.lane l).warm)) := fun hok =>
    ⟨by simpa using hok.clock, fun l => by simpa using (LaneRec.warm_ok (hok.lanes l) t.clock.day).1,
      fun l => by simpa using (LaneRec.warm_ok (hok.lanes l) t.clock.day).2, by simpa using hok.lifts, by simpa using hok.counts,
      by simpa using hok.sweep, by simpa using hok.walk, by simpa using hok.arbiter⟩
  have hlifts (t : State) : t.Tame (t.withLifts (Vector.ofFn fun f : Lift => (t.lift f).warm)) := fun hok =>
    ⟨by simpa using hok.clock, by simpa using hok.lanes, by simpa using hok.instants,
      fun f => by simpa using LiftRec.warm_ok (hok.lifts f), by simpa using hok.counts, by simpa using hok.sweep,
      by simpa using hok.walk, by simpa using hok.arbiter⟩
  have hcounts (t : State) : t.Tame (t.withCounts t.counts.warm) := t.withCounts_tame fun hok => CountUnit.warm_ok hok.counts
  have harbiter (t : State) : t.Tame (t.withArbiter t.arbiter.warm) := t.withArbiter_tame fun hok => ⟨Nat.zero_le _, hok.arbiter.2⟩
  have hsweep (t : State) : t.Tame (t.withSweep t.sweep.warm) := t.withSweep_tame fun hok =>
    ⟨⟨hok.sweep.1, hok.sweep.2.1, hok.sweep.2.2.1, fun x hx => by
      obtain ⟨w, -, rfl⟩ := Option.map_eq_some_iff.1 hx
      exact ⟨rfl, show 0 < Config.slotCount by decide, by simp⟩⟩, fun hsome => hok.walk (by simpa [Sweep.warm] using hsome)⟩
  have hgates (t : State) (x : Vector PortRec 4) : t.Tame (t.withGates x) :=
    .of_onlyChanges (ps := [.gates]) (by simp [onlyChanges_iff]) (by decide)
  have hoffice (t : State) (x : PortRec) : t.Tame (t.withOffice x) :=
    .of_onlyChanges (ps := [.office]) (by simp [onlyChanges_iff]) (by decide)
  exact (((((((((hback.trans (hlanes _)).trans (hlifts _)).trans (hcounts _)).trans (harbiter _)).trans (hsweep _)).trans
    (State.tableLowTest_tame _)).trans (hgates _ _)).trans (hoffice _ _)).trans (State.raiseDevice_tame _ _))

theorem State.reset_deviceOk : State.reset.DeviceOk := by
  have hlane (l : Lane) := State.reset_lane l
  have hlift (f : Lift) : State.reset.lift f = .powerOn := by simp [State.lift, State.reset]
  have hsweep : State.reset.sweep.ok := ⟨by decide, by decide, by decide, fun x hx => by cases hx⟩
  have hcounts : State.reset.counts.ok := ⟨CountSet.zero_atMost _, CountSet.zero_atMost _, CountSet.zero_atMost _, by decide,
    by decide, by decide, by decide, fun n hn => by cases hn⟩
  refine ⟨by decide, fun l => ?_, fun l => ?_, fun f => ?_, hcounts, hsweep, fun h => (by cases h), by decide⟩
  · rw [hlane]; decide
  · rw [hlane]
    exact ⟨fun x hx => (by cases hx), fun x hx => (by cases hx), fun x hx => (by cases hx)⟩
  · rw [hlift]; decide

theorem State.powerOn_tame : s.Tame s.powerOn := fun _ => by
  have h := State.reset_deviceOk
  exact ⟨h.clock, h.lanes, h.instants, h.lifts, h.counts, h.sweep, h.walk, h.arbiter⟩

theorem State.takeFrame_tame (p : Port) (f : Frame) (n : Nat) : s.Tame (s.takeFrame p f n) := by
  unfold State.takeFrame
  split
  · exact s.modPort_tame _ _
  · exact s.warmReset_tame
  · split
    · refine (s.modPort_tame _ _).trans (State.withArbiter_tame _ fun hok => ?_)
      have := hok.arbiter
      simpa using this
    · exact s.modPort_tame _ _
  · exact .refl s

theorem State.shiftIn_tame (p : Port) (bytes : List Byte) (ends : Bool) : s.Tame (s.shiftIn p bytes ends) := by
  unfold State.shiftIn
  split
  · split
    · exact s.modPort_tame _ _
    · dsimp only
      split
      · exact s.modPort_tame _ _
      · exact (s.modPort_tame _ _).trans (State.takeFrame_tame _ _ _ _)
  · exact s.modPort_tame _ _
  · exact .refl s

theorem State.send_tame (p : Port) (bytes : Piece (List Byte)) : s.Tame (s.send p bytes) := by
  have hopen : s.Tame (if bytes.begins then s.opened p Config.sendCode else s) := by
    split
    · exact s.modPort_tame _ _
    · exact .refl s
  exact hopen.trans (State.shiftIn_tame _ _ _ _)

theorem State.grantTo_tame {sel : Frame → Bool} {eval : State → List Byte → State × List Byte}
    (h : ∀ (t : State) bs, t.Tame (eval t bs).1) : s.Tame (s.grantTo sel eval) := by
  unfold State.grantTo
  split
  · exact .refl s
  · exact ((s.charge_tame _).trans (h _ _)).trans (State.modPort_tame _ _ _)

theorem State.serve_tame {p : Port} {sel : Frame → Bool} {eval : State → List Byte → State × List Byte}
    (h : ∀ (t : State) bs, t.Tame (eval t bs).1) : s.Tame (s.serve p sel eval) := by
  unfold State.serve
  split
  · exact .refl s
  · exact (h _ _).trans (State.modPort_tame _ _ _)

theorem State.ifTick_tame (lines : LiftLines) (due : Bool) : s.Tame (if due then s.tickAll lines else s) := by
  split
  · exact s.tickAll_tame lines
  · exact .refl s

end

/-! ### Every command -/

/-- Every command keeps the ranges of the device's own blocks. -/
theorem exec_tame (c : Instr) (s t : State) (hexec : exec c s = .next t) : s.Tame t := by
  have idle (t : State) (_ : List Byte) : t.Tame t := .refl t
  have framed (hdisjoint : ∀ p ∈ [Part.clock, .lanes, .lifts, .counts, .sweep, .arbiter], p ∉ touches c) : s.Tame t := by
    obtain ⟨u, hnext, hframe⟩ := exec_next_onlyChanges c s
    obtain rfl : u = t := by simpa [hnext] using hexec
    exact .of_onlyChanges hframe hdisjoint
  cases c with
  | fetch p n => exact framed (by cases p <;> simp [touches, portPart])
  | status p code => exact framed (by cases p <;> simp [touches, portPart])
  | answeredFrame p => exact framed (by cases p <;> simp [touches, portPart])
  | readEvents p => exact framed (by cases p <;> simp [touches, portPart])
  | loadProduct | setResort | readClock | loadCalendarBase | loadCalendarRuns | setScheme | readLanes | loadTariff
  | readStore | setEvents | resetLineInactive => exact framed (by simp [touches])
  | send p bytes => cases hexec; exact s.send_tame p bytes
  | restart tag => cases hexec; exact s.send_tame .office _
  | present => cases hexec; exact s.grantTo_tame fun t bs => t.present_tame _ _
  | passed => cases hexec; exact s.grantTo_tame State.passed_tame
  | release => cases hexec; exact s.grantTo_tame State.release_tame
  | laneReportJam => cases hexec; exact s.grantTo_tame State.jam_tame
  | laneReportClear => cases hexec; exact s.grantTo_tame State.clearJam_tame
  | laneReportQuery => cases hexec; exact s.grantTo_tame idle
  | issue => cases hexec; exact s.grantTo_tame State.issue_tame
  | restore => cases hexec; exact s.grantTo_tame State.restore_tame
  | inquire =>
    cases hexec
    refine s.grantTo_tame fun t bs => ?_
    unfold State.inquire
    split <;> exact .refl t
  | reissue => cases hexec; exact s.grantTo_tame State.reissue_tame
  | suspend => cases hexec; exact s.grantTo_tame State.suspend_tame
  | resume => cases hexec; exact s.grantTo_tame State.resume_tame
  | addUse => cases hexec; exact s.grantTo_tame State.addUse_tame
  | refund => cases hexec; exact s.grantTo_tame State.refund_tame
  | setLane => cases hexec; exact s.grantTo_tame State.setLaneRequest_tame
  | setClock => cases hexec; exact s.serve_tame State.setClock_tame
  | setLift => cases hexec; exact s.serve_tame State.setLiftRequest_tame
  | setReport => cases hexec; exact s.serve_tame State.setReport_tame
  | takeSnapshot => cases hexec; exact s.serve_tame fun t _ => t.takeSnapshot_tame
  | readCounts => cases hexec; exact s.serve_tame State.readCounts_tame
  | setStorePolicy => cases hexec; exact s.serve_tame State.setStorePolicy_tame
  | tick lines => cases hexec; exact s.tickAll_tame lines
  | dayRollover lines => cases hexec; exact s.ifTick_tame lines _
  | clockStall lines => cases hexec; exact s.ifTick_tame lines _
  | holdDue lines => cases hexec; exact s.ifTick_tame lines _
  | autoTransfer lines => cases hexec; exact s.ifTick_tame lines _
  | sweepDeadlineReached lines => cases hexec; exact s.ifTick_tame lines _
  | expiry =>
    cases hexec
    split
    · exact (s.charge_tame _).trans (State.expire_tame _ _)
    · exact .refl s
  | sweepBatch =>
    cases hexec
    split
    · exact (s.charge_tame _).trans (State.sweepBatch_tame _)
    · exact .refl s
  | resetLine =>
    cases hexec
    split
    · exact .refl s
    · exact (s.withPins_tame _).trans (State.warmReset_tame _)
  | powerOnReset => cases hexec; exact s.powerOn_tame

end Sys2Proof.Machine

/-! What each command does to the ports: the queues, the transactions and the stamps. -/

namespace Sys2Proof.Machine

/-! ### Steps at the ports -/

/-- The queues and the transaction of a port stay, and its flags stay in table order. -/
structure PortRec.Kept (r r' : PortRec) : Prop where
  requests    : r'.requests = r.requests
  responses   : r'.responses = r.responses
  transaction : r'.transaction = r.transaction
  ordered     : r.flags.Sublist allEvents → r'.flags.Sublist allEvents

/-- The queues, the transactions and the stamps stay. -/
structure State.QueuesKept (s t : State) : Prop where
  ports     : ∀ p, (s.port p).Kept (t.port p)
  nextStamp : t.arbiter.nextStamp = s.arbiter.nextStamp
  expiries  : t.arbiter.expiries = s.arbiter.expiries

theorem PortRec.Kept.refl (r : PortRec) : r.Kept r := ⟨rfl, rfl, rfl, id⟩

theorem PortRec.Kept.trans {a b c : PortRec} (h : a.Kept b) (h' : b.Kept c) : a.Kept c :=
  ⟨h'.requests.trans h.requests, h'.responses.trans h.responses, h'.transaction.trans h.transaction,
    fun ho => h'.ordered (h.ordered ho)⟩

theorem State.QueuesKept.refl (s : State) : s.QueuesKept s := ⟨fun _ => .refl _, rfl, rfl⟩

theorem State.QueuesKept.trans {s t u : State} (h : s.QueuesKept t) (h' : t.QueuesKept u) : s.QueuesKept u :=
  ⟨fun p => (h.ports p).trans (h'.ports p), h'.nextStamp.trans h.nextStamp, h'.expiries.trans h.expiries⟩

/-- What only sets flags. -/
theorem State.QueuesKept.of_raised {s t : State} (h : s.Raised t) (ht : s.SameTransactions t)
    (harbiter : t.arbiter = s.arbiter) : s.QueuesKept t :=
  ⟨fun p => ⟨(h p).requests, (h p).responses, ht p, (h p).ordered⟩, by rw [harbiter], by rw [harbiter]⟩

theorem State.QueuesKept.of_ports {s t : State} (h : ∀ p, t.port p = s.port p) (hstamp : t.arbiter.nextStamp = s.arbiter.nextStamp)
    (hexpiries : t.arbiter.expiries = s.arbiter.expiries) : s.QueuesKept t :=
  ⟨fun p => h p ▸ .refl _, hstamp, hexpiries⟩

theorem State.QueuesKept.modPort (s : State) (p : Port) {f : PortRec → PortRec} (h : (s.port p).Kept (f (s.port p))) :
    s.QueuesKept (s.modPort p f) := by
  refine ⟨fun q => ?_, by simp, by simp⟩
  rw [State.modPort_port]
  split
  next hq => rw [hq]; exact h
  · exact .refl _

/-- A frame that a port takes waits with the role that the checks of R184 give it. -/
def State.RoleFits (s : State) (p : Port) (f : Frame) : Role → Prop
  | .answered _ => True
  | .served => checkFrame p f f.payload.length = none
      ∧ ∃ k, ReqKind.ofCode f.kind = some k ∧ k.storeClass = none ∧ k ≠ .restart
  | .store stamp => checkFrame p f f.payload.length = none ∧ (∃ k, ReqKind.ofCode f.kind = some k ∧ k.storeClass.isSome = true)
      ∧ stamp = s.arbiter.nextStamp

/-- The stamps that a frame taken with a role uses up: one for a requester of the store, none for another (R162). -/
def Role.stamps : Role → Nat
  | .store _ => 1
  | _ => 0

/-- What one change of the queues, the transactions and the stamps can be. -/
inductive State.PortMove : State → State → Prop where
  /-- None of them changes. -/
  | kept {s t : State} : s.QueuesKept t → PortMove s t
  /-- The request in place `i` of a port is completed, once a block has evaluated it (R186). -/
  | completed {s u : State} {p : Port} {i : Nat} {f : Frame} {bs : List Byte} : s.QueuesKept u →
      (s.port p).responses.length < Config.queuePlaces → i < (s.port p).requests.length → PortMove s (u.complete p i f bs)
  /-- A transaction begins, goes on or ends (R182). -/
  | transacts {s : State} {p : Port} {f : PortRec → PortRec} : (f (s.port p)).requests = (s.port p).requests →
      (f (s.port p)).responses = (s.port p).responses → (f (s.port p)).flags = (s.port p).flags →
      ((s.port p).TransactionOk → (f (s.port p)).TransactionOk) → PortMove s (s.modPort p f)
  /-- The oldest response leaves with its last byte (R187). -/
  | fetched {s : State} {p : Port} {f : PortRec → PortRec} : (f (s.port p)).requests = (s.port p).requests →
      (f (s.port p)).responses = (s.port p).responses.tail → (f (s.port p)).flags = (s.port p).flags →
      (f (s.port p)).TransactionOk → PortMove s (s.modPort p f)
  /-- A frame is taken (R184, R185). -/
  | takes {s : State} {p : Port} {f : Frame} {r : Role} : (s.port p).requests.length < Config.queuePlaces → s.RoleFits p f r →
      PortMove s ((s.enqueue p f r).withArbiter { s.arbiter with nextStamp := s.arbiter.nextStamp + r.stamps })
  /-- A hold becomes due (R94). -/
  | due {s : State} {l : Lane} : PortMove s (s.makeDue l)
  /-- An expiry is granted (R95). -/
  | expired {s : State} {x : Expiry} : PortMove s (s.withArbiter { s.arbiter with expiries := s.arbiter.expiries.erase x })
  /-- A reset drops every queue (R188). -/
  | reset {s t : State} : (∀ p, (t.port p).requests = [] ∧ (t.port p).responses = [] ∧ (t.port p).flags.Sublist allEvents
      ∧ ((s.port p).TransactionOk → (t.port p).TransactionOk)) → t.arbiter.expiries = [] → PortMove s t

/-- A sequence of port moves. -/
abbrev State.PortPath : State → State → Prop := Relation.ReflTransGen State.PortMove

theorem State.PortMove.path {s t : State} (h : s.PortMove t) : s.PortPath t := .single h

theorem State.QueuesKept.path {s t : State} (h : s.QueuesKept t) : s.PortPath t := .single (.kept h)

theorem State.PortPath.foldl {α : Type} (f : State → α → State) (hf : ∀ (t : State) (a : α), t.PortPath (f t a)) (l : List α) (s : State) :
    s.PortPath (l.foldl f s) := by
  induction l generalizing s with
  | nil => exact .refl
  | cons a l ih => exact (hf s a).trans (ih _)

/-! ### The store's requests leave the arbiter to the grant -/

section

variable (s : State) (p : List Byte)

@[simp] theorem State.passed_arbiter : (s.passed p).1.arbiter = s.arbiter := by
  simp only [State.passed]
  repeat' split
  all_goals simp

@[simp] theorem State.release_arbiter : (s.release p).1.arbiter = s.arbiter := by
  simp only [State.release]
  repeat' split
  all_goals simp

@[simp] theorem State.jam_arbiter : (s.jam p).1.arbiter = s.arbiter := by
  simp only [State.jam]
  repeat' split
  all_goals simp

@[simp] theorem State.clearJam_arbiter : (s.clearJam p).1.arbiter = s.arbiter := by
  simp only [State.clearJam]
  repeat' split
  all_goals simp

@[simp] theorem State.issue_arbiter : (s.issue p).1.arbiter = s.arbiter := by
  simp only [State.issue]
  repeat' split
  all_goals simp

@[simp] theorem State.reissue_arbiter : (s.reissue p).1.arbiter = s.arbiter := by
  simp only [State.reissue]
  repeat' split
  all_goals simp

@[simp] theorem State.suspend_arbiter : (s.suspend p).1.arbiter = s.arbiter := by
  simp only [State.suspend]
  repeat' split
  all_goals simp

@[simp] theorem State.resume_arbiter : (s.resume p).1.arbiter = s.arbiter := by
  simp only [State.resume]
  repeat' split
  all_goals simp

@[simp] theorem State.restore_arbiter : (s.restore p).1.arbiter = s.arbiter := by
  simp only [State.restore]
  repeat' split
  all_goals simp

@[simp] theorem State.addUse_arbiter : (s.addUse p).1.arbiter = s.arbiter := by
  simp only [State.addUse]
  repeat' split
  all_goals simp

@[simp] theorem State.inquire_arbiter : (s.inquire p).1.arbiter = s.arbiter := by
  simp only [State.inquire]
  repeat' split
  all_goals simp

@[simp] theorem State.refund_arbiter : (s.refund p).1.arbiter = s.arbiter := by
  simp only [State.refund, State.refundValued]
  repeat' split
  all_goals simp

@[simp] theorem State.setLaneRequest_arbiter : (s.setLaneRequest p).1.arbiter = s.arbiter := by simp [State.setLaneRequest]

end

/-! ### Evaluations keep the queues -/

section

variable (s : State)

theorem State.charge_queuesKept (g : Grant) : s.QueuesKept (s.charge g) :=
  .of_ports (by simp) (by simp [State.charge, State.setWalk]) (by simp [State.charge, State.setWalk])

theorem State.present_queuesKept (l : Lane) (x : Image) : s.QueuesKept (s.present l x).1 :=
  .of_raised (by simp) (by simp [State.SameTransactions.refl]) (by simp)

theorem State.passed_queuesKept (p : List Byte) : s.QueuesKept (s.passed p).1 :=
  .of_raised (by simp) (by simp [State.SameTransactions.refl]) (by simp)

theorem State.release_queuesKept (p : List Byte) : s.QueuesKept (s.release p).1 :=
  .of_raised (by simp) (by simp [State.SameTransactions.refl]) (by simp)

theorem State.jam_queuesKept (p : List Byte) : s.QueuesKept (s.jam p).1 :=
  .of_raised (by simp) (by simp [State.SameTransactions.refl]) (by simp)

theorem State.clearJam_queuesKept (p : List Byte) : s.QueuesKept (s.clearJam p).1 :=
  .of_raised (by simp) (by simp [State.SameTransactions.refl]) (by simp)

theorem State.issue_queuesKept (p : List Byte) : s.QueuesKept (s.issue p).1 :=
  .of_raised (by simp) (by simp [State.SameTransactions.refl]) (by simp)

theorem State.reissue_queuesKept (p : List Byte) : s.QueuesKept (s.reissue p).1 :=
  .of_raised (by simp) (by simp [State.SameTransactions.refl]) (by simp)

theorem State.suspend_queuesKept (p : List Byte) : s.QueuesKept (s.suspend p).1 :=
  .of_raised (by simp) (by simp [State.SameTransactions.refl]) (by simp)

theorem State.resume_queuesKept (p : List Byte) : s.QueuesKept (s.resume p).1 :=
  .of_raised (by simp) (by simp [State.SameTransactions.refl]) (by simp)

theorem State.restore_queuesKept (p : List Byte) : s.QueuesKept (s.restore p).1 :=
  .of_raised (by simp) (by simp [State.SameTransactions.refl]) (by simp)

theorem State.addUse_queuesKept (p : List Byte) : s.QueuesKept (s.addUse p).1 :=
  .of_raised (by simp) (by simp [State.SameTransactions.refl]) (by simp)

theorem State.inquire_queuesKept (p : List Byte) : s.QueuesKept (s.inquire p).1 :=
  .of_raised (by simp) (by simp [State.SameTransactions.refl]) (by simp)

theorem State.refund_queuesKept (p : List Byte) : s.QueuesKept (s.refund p).1 :=
  .of_raised (by simp) (by simp [State.SameTransactions.refl]) (by simp)

theorem State.setLaneRequest_queuesKept (p : List Byte) : s.QueuesKept (s.setLaneRequest p).1 :=
  .of_raised (by simp) (by simp [State.SameTransactions.refl]) (by simp)

theorem State.loadProduct_queuesKept (p : List Byte) : s.QueuesKept (s.loadProduct p).1 :=
  .of_raised (by simp) (by simp [State.SameTransactions.refl]) (s.loadProduct_onlyChanges p .arbiter (by decide))

theorem State.setResort_queuesKept (p : List Byte) : s.QueuesKept (s.setResort p).1 :=
  .of_raised (by simp) (by simp [State.SameTransactions.refl]) (s.setResort_onlyChanges p .arbiter (by decide))

theorem State.setClock_queuesKept (p : List Byte) : s.QueuesKept (s.setClock p).1 :=
  .of_raised (by simp) (by simp [State.SameTransactions.refl]) (s.setClock_onlyChanges p .arbiter (by decide))

theorem State.loadCalendar_queuesKept (p : List Byte) : s.QueuesKept (s.loadCalendar p).1 :=
  .of_raised (by simp) (by simp [State.SameTransactions.refl]) (s.loadCalendar_onlyChanges p .arbiter (by decide))

theorem State.setScheme_queuesKept (p : List Byte) : s.QueuesKept (s.setScheme p).1 :=
  .of_raised (by simp) (by simp [State.SameTransactions.refl]) (s.setScheme_onlyChanges p .arbiter (by decide))

theorem State.setLiftRequest_queuesKept (p : List Byte) : s.QueuesKept (s.setLiftRequest p).1 :=
  .of_raised (by simp) (by simp [State.SameTransactions.refl]) (s.setLiftRequest_onlyChanges p .arbiter (by decide))

theorem State.setReport_queuesKept (p : List Byte) : s.QueuesKept (s.setReport p).1 :=
  .of_raised (by simp) (by simp [State.SameTransactions.refl]) (s.setReport_onlyChanges p .arbiter (by decide))

theorem State.readCounts_queuesKept (p : List Byte) : s.QueuesKept (s.readCounts p).1 :=
  .of_raised (by simp) (by simp [State.SameTransactions.refl]) (s.readCounts_onlyChanges p .arbiter (by decide))

theorem State.loadTariff_queuesKept (p : List Byte) : s.QueuesKept (s.loadTariff p).1 :=
  .of_raised (by simp) (by simp [State.SameTransactions.refl]) (s.loadTariff_onlyChanges p .arbiter (by decide))

theorem State.takeSnapshot_queuesKept : s.QueuesKept s.takeSnapshot.1 :=
  .of_raised (by simp) (by simp [State.SameTransactions.refl]) (s.takeSnapshot_onlyChanges .arbiter (by decide))

theorem State.setStorePolicy_queuesKept (p : List Byte) : s.QueuesKept (s.setStorePolicy p).1 where
  ports q := ⟨(State.Raised.setStorePolicy (.refl s) p q).requests, (State.Raised.setStorePolicy (.refl s) p q).responses,
    State.SameTransactions.setStorePolicy (.refl s) p q, (State.Raised.setStorePolicy (.refl s) p q).ordered⟩
  nextStamp := by simp [State.setStorePolicy]
  expiries := by simp [State.setStorePolicy]

/-- A READ_EVENTS clears flags, and nothing else that the queues see (R192, R193). -/
theorem PortRec.read_kept (r : PortRec) (carried : List Event) : r.Kept (r.read carried) :=
  ⟨rfl, rfl, rfl, List.filter_sublist.trans⟩

theorem State.readEvents_queuesKept (p : Port) (bs : List Byte) : s.QueuesKept (s.readEvents p bs).1 := by
  cases p with
  | gate k => exact .modPort s (.gate k) (f := (·.read (gateCarried k))) (PortRec.read_kept _ _)
  | office =>
    simp only [State.readEvents, State.readOfficeEvents]
    split
    · exact .refl s
    · exact .modPort s .office (f := (·.read (officeCarried (byteAt 0 bs)))) (PortRec.read_kept _ _)

theorem State.setEvents_queuesKept (p : List Byte) : s.QueuesKept (s.setEvents p).1 := by
  unfold State.setEvents
  split
  next port edges _ _ =>
    exact .modPort s port (f := fun r => { r with masks := BitVec.ofNat 15 (fieldAt 1 2 p), edges := edges }) ⟨rfl, rfl, rfl, id⟩
  · exact .refl s

theorem State.sweepBatch_queuesKept : s.QueuesKept s.sweepBatch := .of_raised (by simp) (by simp [State.SameTransactions.refl]) (by simp)

theorem State.expireHold_queuesKept (l : Lane) (h : Hold) : s.QueuesKept (s.expireHold l h) := .of_raised (by simp) (by simp [State.SameTransactions.refl]) (by simp)

theorem State.tickTimer_queuesKept : s.QueuesKept s.tickTimer := .of_raised (by simp) (by simp [State.SameTransactions.refl]) (by simp)

/-- A tick up to its hold tests (R40). -/
theorem State.tickedLifts_queuesKept (lines : LiftLines) :
    s.QueuesKept (allLifts.foldl (fun u f => u.tickLift lines f) ((s.clocked lines).tickSweep s.clock.rolls)) := by
  refine .of_raised (State.Raised.foldl (by simp) _ (fun u f h => h.tickLift lines f) _)
    (State.SameTransactions.foldl (by simp [State.SameTransactions.refl]) _ (fun u f h => h.tickLift lines f) _) ?_
  rw [foldl_keeps State.arbiter _ (by simp)]
  simp

theorem State.withPending_queuesKept (x : List Instr) : s.QueuesKept (s.withPending x) := .of_ports (by simp) (by simp) (by simp)

theorem State.withPins_queuesKept (x : Pins) : s.QueuesKept (s.withPins x) := .of_ports (by simp) (by simp) (by simp)

end

end Sys2Proof.Machine

/-! The five checks of a taken frame (R184), and the tables that they read (R198). -/

namespace Sys2Proof.Machine

/-! ### The order of the checks -/

theorem checkFrame_of_unknown {p : Port} {f : Frame} {n : Nat} (h : ReqKind.ofCode f.kind = none) :
    checkFrame p f n = some .unknownRequest := by
  simp [checkFrame, h]

/-- The checks of a frame of a known kind, one after the other (R184). -/
theorem checkFrame_of_kind {p : Port} {f : Frame} {n : Nat} {k : ReqKind} (h : ReqKind.ofCode f.kind = some k) :
    checkFrame p f n =
      if k.permitted p = false then some .notPermitted
      else if k.lengthOk p n f.payload = false then some .badLength
      else if laneOk k p f.payload = false then some .notPermitted
      else if k.codesOk f.payload = false then some .badValue
      else none := by
  simp [checkFrame, h]

/-- A frame passes when it passes every check (R184). -/
theorem checkFrame_eq_none {p : Port} {f : Frame} {n : Nat} : checkFrame p f n = none ↔
    ∃ k, ReqKind.ofCode f.kind = some k ∧ k.permitted p = true ∧ k.lengthOk p n f.payload = true ∧ laneOk k p f.payload = true
      ∧ k.codesOk f.payload = true := by
  cases h : ReqKind.ofCode f.kind with
  | none => simp [checkFrame_of_unknown h]
  | some k =>
    simp only [checkFrame_of_kind h, Option.some.injEq, exists_eq_left']
    split_ifs <;> simp_all

/-! ### The lengths -/

/-- No request has a payload of more than 64 bytes (R198). -/
theorem ReqKind.listedLength_le {k : ReqKind} {p : Port} {n : Nat} (h : k.listedLength p n = true) : n ≤ 64 := by
  cases k <;> simp only [ReqKind.listedLength, List.contains_cons, List.contains_nil, Bool.or_eq_true, Bool.and_eq_true, beq_iff_eq,
    decide_eq_true_eq, Bool.or_false] at h
  case readEvents => split at h <;> omega
  all_goals omega

theorem ReqKind.listedLength_of_lengthOk {k : ReqKind} {p : Port} {n : Nat} {bs : List Byte} (h : k.lengthOk p n bs = true) :
    k.listedLength p n = true := by
  simp only [ReqKind.lengthOk, Bool.and_eq_true] at h
  exact h.1

/-- A frame announced with more than 64 bytes fails a check. -/
theorem checkFrame_of_long {p : Port} {f : Frame} {n : Nat} (h : 64 < n) : checkFrame p f n ≠ none := fun hpass => by
  obtain ⟨k, -, -, hlength, -⟩ := checkFrame_eq_none.1 hpass
  have := ReqKind.listedLength_le (ReqKind.listedLength_of_lengthOk hlength)
  omega

/-- The lengths of a RESTORE: up to 5 records, as many as a count byte in range says. -/
theorem ReqKind.restore_lengthOk {p : Port} {n : Nat} {b : List Byte} :
    ReqKind.restore.lengthOk p n b = true ↔ ∃ m, m ≤ 5 ∧ n = 16 + 6 * m ∧ (byteAt 15 b ≤ 5 → byteAt 15 b = m) := by
  simp only [ReqKind.lengthOk, ReqKind.listedLength, List.contains_cons, List.contains_nil, Bool.or_eq_true, Bool.and_eq_true,
    beq_iff_eq, Bool.or_false]
  constructor
  · rintro ⟨hlist, hcount⟩
    refine ⟨(n - 16) / 6, by omega, by omega, fun h => ?_⟩
    simp only [if_pos h, beq_iff_eq] at hcount
    omega
  · rintro ⟨m, hm, rfl, hcount⟩
    refine ⟨by omega, ?_⟩
    split
    next h => simp [hcount h]
    · rfl

/-- The lengths of an ADD_USE: 1 to 5 records, as many as a count byte in range says. -/
theorem ReqKind.addUse_lengthOk {p : Port} {n : Nat} {b : List Byte} :
    ReqKind.addUse.lengthOk p n b = true ↔
      ∃ m, 1 ≤ m ∧ m ≤ 5 ∧ n = 5 + 6 * m ∧ (1 ≤ byteAt 4 b → byteAt 4 b ≤ 5 → byteAt 4 b = m) := by
  simp only [ReqKind.lengthOk, ReqKind.listedLength, List.contains_cons, List.contains_nil, Bool.or_eq_true, Bool.and_eq_true,
    beq_iff_eq, Bool.or_false]
  constructor
  · rintro ⟨hlist, hcount⟩
    refine ⟨(n - 5) / 6, by omega, by omega, by omega, fun h h' => ?_⟩
    simp only [h, h', and_self, if_true, beq_iff_eq] at hcount
    omega
  · rintro ⟨m, hm, hm', rfl, hcount⟩
    refine ⟨by omega, ?_⟩
    split
    next h => simp [hcount h.1 h.2]
    · rfl

/-- The lengths of a LOAD_CALENDAR: the BASE form has 3 bytes, the RUNS form as many as a run count in range says, and a form that
is neither has any of them. -/
theorem ReqKind.loadCalendar_lengthOk {p : Port} {n : Nat} {b : List Byte} :
    ReqKind.loadCalendar.lengthOk p n b = true ↔
      (n = 3 ∧ (byteAt 0 b = 1 → byteAt 1 b < 1 ∨ 8 < byteAt 1 b))
        ∨ ∃ m, 1 ≤ m ∧ m ≤ 8 ∧ n = 2 + 5 * m ∧ byteAt 0 b ≠ 0
            ∧ (byteAt 0 b = 1 → 1 ≤ byteAt 1 b → byteAt 1 b ≤ 8 → byteAt 1 b = m) := by
  simp only [ReqKind.lengthOk, ReqKind.listedLength, List.contains_cons, List.contains_nil, Bool.or_eq_true, Bool.and_eq_true,
    beq_iff_eq, Bool.or_false]
  constructor
  · rintro ⟨hlist, hform⟩
    by_cases hn : n = 3
    · refine .inl ⟨hn, fun h => ?_⟩
      by_contra hrange
      have hin : byteAt 0 b = 1 ∧ 1 ≤ byteAt 1 b ∧ byteAt 1 b ≤ 8 := ⟨h, by omega, by omega⟩
      rw [if_neg (by omega), if_pos hin, beq_iff_eq] at hform
      omega
    · refine .inr ⟨(n - 2) / 5, by omega, by omega, by omega, fun h => ?_, fun h h1 h8 => ?_⟩
      · rw [if_pos h, beq_iff_eq] at hform
        exact hn hform
      · rw [if_neg (by omega), if_pos ⟨h, h1, h8⟩, beq_iff_eq] at hform
        omega
  · rintro (⟨rfl, hrange⟩ | ⟨m, hm, hm', rfl, hform, hcount⟩)
    · refine ⟨by omega, ?_⟩
      split
      · rfl
      · rw [if_neg (fun h => by have := hrange h.1; omega)]
    · refine ⟨by omega, ?_⟩
      rw [if_neg hform]
      split
      next h => simp [hcount h.1 h.2.1 h.2.2]
      · rfl

/-! ### The codes and lanes -/

theorem laneOk_eq_false {k : ReqKind} {p : Port} {b : List Byte} :
    laneOk k p b = false ↔ ∃ g : Fin 4, p = .gate g ∧ k ∈ [ReqKind.present, .passed, .release, .laneReport]
      ∧ byteAt 0 b ≠ 2 * g.val ∧ byteAt 0 b ≠ 2 * g.val + 1 := by
  cases p with
  | office => simp [laneOk]
  | gate g => cases k <;> simp [laneOk, evenLane, oddLane]

theorem ReqKind.setLane_codesOk {b : List Byte} :
    ReqKind.setLane.codesOk b = false ↔
      2 < byteAt 0 b ∨ 3 < byteAt 2 b ∨ (byteAt 0 b = 0 ∧ 7 < byteAt 1 b) ∨ (byteAt 0 b = 1 ∧ 3 < byteAt 1 b) := by
  simp only [ReqKind.codesOk, Bool.and_eq_false_iff, decide_eq_false_iff_not, Nat.not_le]
  split
  next h => simp [h, or_comm]
  next h => simp [h, or_comm]
  next h => simp [h]
  next h0 h1 h2 =>
    have : byteAt 0 b ≠ 0 := h0
    have : byteAt 0 b ≠ 1 := h1
    have : byteAt 0 b ≠ 2 := h2
    simp only [true_or, true_iff]
    omega

/-! ### The statement -/

/-- Settles O5: the order of the checks is the definition's; the tables are compared kind by kind. -/
theorem frameChecksInOrder : Obligations.FrameChecksInOrder := by
  unfold Obligations.FrameChecksInOrder
  refine ⟨fun p f n => ⟨checkFrame_of_unknown, fun k hk => ?_⟩, by decide, fun k g => ?_, fun k p n b => ?_, fun k p b => ?_⟩
  · rw [checkFrame_of_kind hk]
    refine ⟨fun h => by simp [h], fun h h' => by simp [h, h'], fun h h' h'' => by simp [h, h', h''],
      fun h h' h'' h''' => by simp [h, h', h'', h'''], fun h h' h'' h''' => by simp [h, h', h'', h''']⟩
  · cases k <;> simp [ReqKind.permitted]
  · cases k with
    | restore => exact ReqKind.restore_lengthOk
    | addUse => exact ReqKind.addUse_lengthOk
    | loadCalendar => exact ReqKind.loadCalendar_lengthOk
    | _ => simp [ReqKind.lengthOk, ReqKind.listedLength]
  · refine ⟨laneOk_eq_false, ?_⟩
    cases k with
    | setLane => simpa using ReqKind.setLane_codesOk
    | laneReport => simp [ReqKind.codesOk]
    | _ => simp [ReqKind.codesOk]

end Sys2Proof.Machine

/-! Each command is a path of port moves, and so the queues, the transactions and the stamps keep what they ask for. -/

namespace Sys2Proof.Machine

/-! ### Requests that are answered -/

section

variable {s : State}

theorem State.grantTo_portPath {sel : Frame → Bool} {eval : State → List Byte → State × List Byte}
    (h : ∀ (t : State) bs, t.QueuesKept (eval t bs).1) : s.PortPath (s.grantTo sel eval) := by
  cases hg : s.grantable sel with
  | none => rw [State.grantTo_of_none hg]
  | some r =>
    rw [State.grantTo_of_grantable hg]
    obtain ⟨helig, hmem, -⟩ := State.grantable_eligible hg
    obtain ⟨hplace, -⟩ := List.getElem?_eq_some_iff.1 (State.mem_storeReqs.1 hmem)
    exact (State.PortMove.completed ((s.charge_queuesKept _).trans (h _ _)) (State.eligible_hasPlace helig) hplace).path

theorem State.serve_portPath {p : Port} {sel : Frame → Bool} {eval : State → List Byte → State × List Byte}
    (h : ∀ (t : State) bs, t.QueuesKept (eval t bs).1) : s.PortPath (s.serve p sel eval) := by
  cases hs : s.servable p sel with
  | none => rw [State.serve_of_none hs]
  | some x =>
    obtain ⟨i, f⟩ := x
    rw [State.serve_of_servable hs]
    exact (State.PortMove.completed (h _ _) (State.servable_eq_some.1 hs).1 (State.servable_place hs)).path

theorem State.answerFrame_portPath (p : Port) : s.PortPath (s.answerFrame p) := by
  unfold State.answerFrame
  split
  next i f c hnext =>
    obtain ⟨hroom, hold⟩ := State.nextServed_eq_some.1 hnext
    obtain ⟨-, older, younger, hqueue, hplace, -⟩ := oldestServed_eq_some.1 hold
    exact (State.PortMove.completed (.refl s) hroom (by rw [hqueue]; simp; omega)).path
  · exact .refl

/-! ### Resets and ticks -/

theorem State.warmReset_port (s : State) (p : Port) :
    s.warmReset.port p = if p = .office then s.office.warm.withFlag (.device .restarted) else (s.port p).warm := by
  unfold State.warmReset
  cases p with
  | office => rw [State.raiseDevice_port, if_pos rfl, if_pos rfl]; simp [State.port]
  | gate k => rw [State.raiseDevice_port, if_neg (by simp), if_neg (by simp)]; simp [State.port]

theorem PortRec.warm_transactionOk (r : PortRec) : r.warm.TransactionOk := by
  constructor
  · intro got h
    cases hx : r.transaction with
    | none => simp [PortRec.warm, hx] at h
    | some x => cases x <;> simp [PortRec.warm, hx, Transaction.cut] at h
  · intro left h
    cases hx : r.transaction with
    | none => simp [PortRec.warm, hx] at h
    | some x => cases x <;> simp [PortRec.warm, hx, Transaction.cut] at h

theorem State.warmReset_portPath (s : State) : s.PortPath s.warmReset := by
  refine (State.PortMove.reset (fun p => ?_) ?_).path
  · rw [State.warmReset_port]
    split
    · exact ⟨rfl, rfl, setFlag_sublist (.device .restarted) [], fun _ => PortRec.warm_transactionOk _⟩
    · exact ⟨rfl, rfl, List.nil_sublist _, fun _ => PortRec.warm_transactionOk _⟩
  · simp [State.warmReset, Arbiter.warm]

theorem State.reset_port (p : Port) : State.reset.port p = .powerOn (if p = .office then [.device .restarted] else []) := by
  cases p <;> simp [State.reset, State.port]

theorem State.powerOn_port (s : State) (p : Port) : s.powerOn.port p = State.reset.port p := by simp [State.powerOn]

theorem State.powerOn_portPath (s : State) : s.PortPath s.powerOn := by
  refine (State.PortMove.reset (fun p => ?_) ?_).path
  · rw [State.powerOn_port, State.reset_port]
    refine ⟨rfl, rfl, ?_, fun _ => ⟨by simp [PortRec.powerOn], by simp [PortRec.powerOn]⟩⟩
    split
    · exact List.singleton_sublist.2 (mem_allEvents _)
    · exact List.nil_sublist _
  · simp [State.powerOn, State.reset]

theorem State.tickAll_portPath (s : State) (lines : LiftLines) : s.PortPath (s.tickAll lines) := by
  have hdrew (t : State) (ls : List Lane) : t.QueuesKept (t.drewOrder ls) := .of_ports (by simp) (by simp) (by simp)
  have hholds (t : State) : t.PortPath t.testHolds :=
    (State.PortPath.foldl _ (fun _ _ => State.PortMove.due.path) _ t).trans (hdrew _ _).path
  exact ((s.tickedLifts_queuesKept lines).path.trans (hholds _)).trans (State.tickTimer_queuesKept _).path

theorem State.ifTick_portPath (s : State) (lines : LiftLines) (due : Bool) : s.PortPath (if due then s.tickAll lines else s) := by
  split
  · exact s.tickAll_portPath lines
  · exact .refl

theorem State.expire_portPath (s : State) (x : Expiry) : s.PortPath (s.expire x) := by
  have hstart : s.PortPath (s.withArbiter { s.arbiter with expiries := s.arbiter.expiries.erase x }) := State.PortMove.expired.path
  unfold State.expire
  dsimp only
  split
  · split
    · exact hstart.trans (State.expireHold_queuesKept _ _ _).path
    · exact hstart
  · exact hstart

/-! ### Transactions -/

theorem sentFrame_eq_some {bs : List Byte} {f : Frame} {n : Nat} (h : sentFrame bs = some (f, n)) :
    64 < n ∧ f.payload = [] ∨ n ≤ 64 ∧ n = f.payload.length := by
  unfold sentFrame at h
  split at h
  · split at h
    · simp only [Option.some.injEq, Prod.mk.injEq] at h
      obtain ⟨rfl, rfl⟩ := h
      exact .inl ⟨by omega, rfl⟩
    · split at h
      · simp only [Option.some.injEq, Prod.mk.injEq] at h
        obtain ⟨rfl, rfl⟩ := h
        exact .inr ⟨by omega, by simp; omega⟩
      · simp at h
  · simp at h

/-- A frame that passes is not announced longer than it is (R184). -/
theorem sentFrame_length {bs : List Byte} {p : Port} {f : Frame} {n : Nat} (h : sentFrame bs = some (f, n))
    (hpass : checkFrame p f n = none) : n = f.payload.length := by
  rcases sentFrame_eq_some h with ⟨hlong, -⟩ | ⟨-, hn⟩
  · exact absurd hpass (checkFrame_of_long hlong)
  · exact hn

theorem State.takeFrame_portPath {p : Port} {bs : List Byte} {f : Frame} {n : Nat} (hsent : sentFrame bs = some (f, n))
    (hroom : (s.port p).requests.length < Config.queuePlaces) : s.PortPath (s.takeFrame p f n) := by
  have hrole (r : Role) (hfits : s.RoleFits p f r) (hnone : r.stamps = 0) : s.PortPath (s.enqueue p f r) := by
    have h := State.PortMove.takes hroom hfits
    have hsame : (s.enqueue p f r).withArbiter { s.arbiter with nextStamp := s.arbiter.nextStamp + r.stamps } = s.enqueue p f r := by
      rw [hnone, Nat.add_zero]
      cases p <;> rfl
    exact (hsame ▸ h).path
  unfold State.takeFrame
  split
  · exact hrole _ trivial rfl
  · exact s.warmReset_portPath
  next k hrestart hpass hkind =>
    rw [sentFrame_length hsent hpass] at hpass
    split
    next hstore =>
      exact (State.PortMove.takes (r := .store s.arbiter.nextStamp) hroom ⟨hpass, ⟨k, hkind, hstore⟩, rfl⟩).path
    next hstore => exact hrole .served ⟨hpass, k, hkind, by simpa using hstore, hrestart⟩ rfl
  · exact .refl

/-- A port that waits for a frame, and does so once more bytes are in. -/
theorem State.inProgress_portPath (p : Port) {x : Option Transaction}
    (h : (s.port p).TransactionOk → { s.port p with transaction := x }.TransactionOk) : s.PortPath (s.inProgress p x) :=
  (State.PortMove.transacts (f := fun r => { r with transaction := x }) rfl rfl rfl h).path

theorem PortRec.TransactionOk.over (r : PortRec) (ends : Bool) : { r with transaction := Transaction.over.after ends }.TransactionOk := by
  cases ends <;> simp [PortRec.TransactionOk, Transaction.after]

theorem PortRec.TransactionOk.sending (r : PortRec) {got : List Byte} (h : sentFrame got = none) (ends : Bool) :
    { r with transaction := (Transaction.sending got).after ends }.TransactionOk := by
  cases ends <;> simp [PortRec.TransactionOk, Transaction.after, h]

theorem State.shiftIn_portPath (p : Port) (bytes : List Byte) (ends : Bool) : s.PortPath (s.shiftIn p bytes ends) := by
  unfold State.shiftIn
  split
  · split
    next hnone => exact State.inProgress_portPath p fun _ => .sending _ hnone ends
    next f n hsent =>
      have hover : s.PortPath (s.inProgress p (Transaction.over.after ends)) := State.inProgress_portPath p fun _ => .over _ ends
      dsimp only
      split
      · exact hover
      next hfree =>
        refine hover.trans (State.takeFrame_portPath hsent ?_)
        simp only [State.requestFree] at hfree
        split at hfree
        · exact absurd rfl hfree
        · simp only [State.inProgress_port, if_true]; omega
  · exact State.inProgress_portPath p fun _ => .over _ ends
  · exact .refl

/-- The bytes that a FETCH has left when it begins are the whole of the oldest response (R187). -/
theorem State.opened_transactionOk (p : Port) (code : Byte) (x : List Byte) :
    { s.port p with dataOut := x, transaction := some (s.opening p code) }.TransactionOk := by
  unfold State.opening
  split
  · simp [PortRec.TransactionOk, sentFrame]
  split
  · refine ⟨by simp, fun left h => ?_⟩
    simp only [Option.some.injEq, Transaction.fetching.injEq] at h
    obtain ⟨rfl, hsome⟩ := h
    cases hreset : s.pins.resetActive with
    | true => simp [hreset] at hsome
    | false =>
      cases hqueue : (s.port p).responses with
      | nil => simp [hreset, hqueue] at hsome
      | cons f rest => exact ⟨by simp [Frame.bytes], f, rest, rfl, by simp⟩
  · simp [PortRec.TransactionOk]

theorem State.opened_portPath (p : Port) (code : Byte) : s.PortPath (s.opened p code) :=
  (State.PortMove.transacts (f := fun r => { r with dataOut := [s.statusByte p], transaction := some (s.opening p code) }) rfl rfl rfl
    fun _ => State.opened_transactionOk p code _).path

theorem State.ifOpened_portPath (p : Port) (begins : Bool) (code : Byte) :
    s.PortPath (if begins then s.opened p code else s) := by
  split
  · exact State.opened_portPath p code
  · exact .refl

theorem State.shiftOut_portPath (p : Port) (n : Nat) (ends : Bool) : s.PortPath (s.shiftOut p n ends) := by
  unfold State.shiftOut
  split
  next left response hfetch =>
    have hshort {response' : Bool} (h : response' = true → left.length > n ∧ response = true) (r : PortRec) (hx : r.transaction
        = (Transaction.fetching (left.drop n) response').after ends) (hr : r.responses = (s.port p).responses)
        (hok : (s.port p).TransactionOk) : r.TransactionOk := by
      cases ends with
      | true => simp [PortRec.TransactionOk, hx, Transaction.after]
      | false =>
        refine ⟨by simp [hx, Transaction.after], fun rest hrest => ?_⟩
        simp only [hx, Transaction.after, Bool.false_eq_true, if_false, Option.some.injEq, Transaction.fetching.injEq] at hrest
        obtain ⟨rfl, hyes⟩ := hrest
        obtain ⟨hlong, rfl⟩ := h hyes
        obtain ⟨-, f, queue, hqueue, hsuffix⟩ := hok.2 left hfetch
        refine ⟨by simp [List.drop_eq_nil_iff]; omega, f, queue, hr.trans hqueue, (List.drop_suffix n left).trans hsuffix⟩
    dsimp only
    by_cases hlast : (response && left.length ≤ n) = true
    · refine (State.PortMove.fetched ?_ ?_ ?_ ?_).path
      · rfl
      · simp [hlast]
      · rfl
      · cases ends <;> simp [PortRec.TransactionOk, Transaction.after, hlast]
    · refine (State.PortMove.transacts ?_ ?_ ?_ fun hok => hshort (response' := response && !(response && left.length ≤ n)) ?_ _ rfl
        ?_ hok).path
      · rfl
      · simp [hlast]
      · rfl
      · cases response <;> simp_all
      · simp [hlast]
  · exact .refl

end

/-! ### Every command -/

/-- Every command is a path of port moves. -/
theorem exec_portPath (c : Instr) (s t : State) (hexec : exec c s = .next t) : s.PortPath t := by
  have idle (t : State) (_ : List Byte) : t.QueuesKept t := .refl t
  cases c with
  | send p bytes =>
    cases hexec
    exact (State.ifOpened_portPath p _ _).trans (State.shiftIn_portPath _ _ _)
  | restart tag =>
    cases hexec
    exact (State.ifOpened_portPath .office _ _).trans (State.shiftIn_portPath _ _ _)
  | fetch p n =>
    cases hexec
    exact (State.ifOpened_portPath p _ _).trans (State.shiftOut_portPath _ _ _)
  | status p code =>
    cases hexec
    refine (State.opened_portPath p code).trans (State.inProgress_portPath p fun _ => ?_)
    simp [PortRec.TransactionOk]
  | answeredFrame p => cases hexec; exact State.answerFrame_portPath p
  | readEvents p => cases hexec; exact State.serve_portPath fun t => t.readEvents_queuesKept p
  | present => cases hexec; exact State.grantTo_portPath fun t _ => t.present_queuesKept _ _
  | passed => cases hexec; exact State.grantTo_portPath State.passed_queuesKept
  | release => cases hexec; exact State.grantTo_portPath State.release_queuesKept
  | laneReportJam => cases hexec; exact State.grantTo_portPath State.jam_queuesKept
  | laneReportClear => cases hexec; exact State.grantTo_portPath State.clearJam_queuesKept
  | laneReportQuery => cases hexec; exact State.grantTo_portPath idle
  | issue => cases hexec; exact State.grantTo_portPath State.issue_queuesKept
  | reissue => cases hexec; exact State.grantTo_portPath State.reissue_queuesKept
  | suspend => cases hexec; exact State.grantTo_portPath State.suspend_queuesKept
  | resume => cases hexec; exact State.grantTo_portPath State.resume_queuesKept
  | restore => cases hexec; exact State.grantTo_portPath State.restore_queuesKept
  | addUse => cases hexec; exact State.grantTo_portPath State.addUse_queuesKept
  | inquire => cases hexec; exact State.grantTo_portPath State.inquire_queuesKept
  | refund => cases hexec; exact State.grantTo_portPath State.refund_queuesKept
  | setLane => cases hexec; exact State.grantTo_portPath State.setLaneRequest_queuesKept
  | loadProduct => cases hexec; exact State.serve_portPath State.loadProduct_queuesKept
  | setResort => cases hexec; exact State.serve_portPath State.setResort_queuesKept
  | setClock => cases hexec; exact State.serve_portPath State.setClock_queuesKept
  | loadCalendarBase | loadCalendarRuns => cases hexec; exact State.serve_portPath State.loadCalendar_queuesKept
  | setScheme => cases hexec; exact State.serve_portPath State.setScheme_queuesKept
  | setLift => cases hexec; exact State.serve_portPath State.setLiftRequest_queuesKept
  | setReport => cases hexec; exact State.serve_portPath State.setReport_queuesKept
  | takeSnapshot => cases hexec; exact State.serve_portPath fun t _ => t.takeSnapshot_queuesKept
  | readCounts => cases hexec; exact State.serve_portPath State.readCounts_queuesKept
  | loadTariff => cases hexec; exact State.serve_portPath State.loadTariff_queuesKept
  | setStorePolicy => cases hexec; exact State.serve_portPath State.setStorePolicy_queuesKept
  | setEvents => cases hexec; exact State.serve_portPath State.setEvents_queuesKept
  | readClock | readLanes | readStore => cases hexec; exact State.serve_portPath idle
  | tick lines => cases hexec; exact s.tickAll_portPath lines
  | dayRollover lines | clockStall lines | holdDue lines | autoTransfer lines | sweepDeadlineReached lines =>
    cases hexec
    exact s.ifTick_portPath lines _
  | expiry =>
    cases hexec
    split
    · exact (s.charge_queuesKept _).path.trans (State.expire_portPath _ _)
    · exact .refl
  | sweepBatch =>
    cases hexec
    split
    · exact ((s.charge_queuesKept _).trans (State.sweepBatch_queuesKept _)).path
    · exact .refl
  | resetLine =>
    cases hexec
    split
    · exact .refl
    · exact (s.withPins_queuesKept _).path.trans (State.warmReset_portPath _)
  | resetLineInactive => cases hexec; exact (s.withPins_queuesKept _).path
  | powerOnReset => cases hexec; exact s.powerOn_portPath

/-- What every port move keeps, every step keeps. -/
theorem step_keeps_ports {P : State → Prop} (hmove : ∀ s t : State, s.PortMove t → P s → P t) {s t : State} (h : step s = .next t)
    (hs : P s) : P t := by
  have hpath : s.PortPath t := by
    cases hp : s.pending with
    | nil =>
      rw [step_of_pending_nil hp] at h
      cases h
      exact .refl
    | cons c rest =>
      rw [step_of_pending_cons hp] at h
      exact (s.withPending_queuesKept rest).path.trans (exec_portPath c _ t h)
  clear h
  induction hpath with
  | refl => exact hs
  | tail _ hm ih => exact hmove _ _ hm ih

end Sys2Proof.Machine

/-! The queues as the ports fill them: what every port move keeps. -/

namespace Sys2Proof.Machine

/-- The arbiter is no part of a port. -/
theorem State.withArbiter_same_port (s : State) (x : Arbiter) (p : Port) : (s.withArbiter x).port p = s.port p := by simp

/-! ### Lengths, flags and transactions -/

/-- The ranges of a port and its transaction in progress. -/
def PortRec.Fits (r : PortRec) : Prop := r.ok ∧ r.TransactionOk

theorem PortRec.TransactionOk.congr {r r' : PortRec} (h : r.TransactionOk) (htransaction : r'.transaction = r.transaction)
    (hqueue : r.responses <+: r'.responses) : r'.TransactionOk := by
  obtain ⟨new, hnew⟩ := hqueue
  refine ⟨fun got hgot => h.1 got (htransaction ▸ hgot), fun left hleft => ?_⟩
  obtain ⟨hne, f, rest, hold, hsuffix⟩ := h.2 left (htransaction ▸ hleft)
  exact ⟨hne, f, rest ++ new, by rw [← hnew, hold]; rfl, hsuffix⟩

theorem PortRec.Kept.fits {r r' : PortRec} (h : r.Kept r') (hr : r.Fits) : r'.Fits := by
  obtain ⟨⟨hrequests, hresponses, hflags⟩, htransaction⟩ := hr
  refine ⟨⟨by rw [h.requests]; exact hrequests, by rw [h.responses]; exact hresponses, h.ordered hflags⟩, ?_⟩
  exact htransaction.congr h.transaction (by rw [h.responses])

theorem State.PortMove.fits {s t : State} (h : s.PortMove t) (hs : ∀ p, (s.port p).Fits) (q : Port) : (t.port q).Fits := by
  cases h with
  | kept hkept => exact (hkept.ports q).fits (hs q)
  | @completed u p i f bs hkept hroom hplace =>
    have hfits (p : Port) : (u.port p).Fits := (hkept.ports p).fits (hs p)
    rw [State.complete_port]
    split
    · obtain ⟨⟨hrequests, -, hflags⟩, htransaction⟩ := hfits p
      refine ⟨⟨?_, ?_, hflags⟩, htransaction.congr rfl (List.prefix_append _ _)⟩
      · exact (List.eraseIdx_sublist _ _).length_le.trans hrequests
      · rw [(hkept.ports p).responses, List.length_append, List.length_singleton]
        exact hroom
    · exact hfits q
  | @transacts p f hrequests hresponses hflags htransaction =>
    rw [State.modPort_port]
    split
    · exact ⟨⟨hrequests ▸ (hs p).1.1, hresponses ▸ (hs p).1.2.1, hflags ▸ (hs p).1.2.2⟩, htransaction (hs p).2⟩
    · exact hs q
  | @fetched p f hrequests hresponses hflags htransaction =>
    rw [State.modPort_port]
    split
    · refine ⟨⟨hrequests ▸ (hs p).1.1, ?_, hflags ▸ (hs p).1.2.2⟩, htransaction⟩
      rw [hresponses, List.length_tail]
      exact (Nat.sub_le _ _).trans (hs p).1.2.1
    · exact hs q
  | @takes p f r hroom _ =>
    rw [State.withArbiter_same_port, State.enqueue_port]
    split
    · refine ⟨⟨?_, (hs p).1.2.1, (hs p).1.2.2⟩, (hs p).2⟩
      rw [List.length_append, List.length_singleton]
      exact hroom
    · exact hs q
  | due => simpa using hs q
  | expired => simpa using hs q
  | reset hports _ =>
    obtain ⟨hrequests, hresponses, hflags, htransaction⟩ := hports q
    exact ⟨⟨by simp [hrequests], by simp [hresponses], hflags⟩, htransaction (hs q).2⟩

/-! ### The stamps of a queue -/

/-- The stamp of a waiting frame. -/
def Waiting.stamp? (w : Waiting) : Option Nat :=
  match w.role with
  | .store n => some n
  | _ => none

theorem storeReqsOf_stamps (p : Port) (i : Nat) (ws : List Waiting) :
    (storeReqsOf p i ws).map StoreReq.stamp = ws.filterMap Waiting.stamp? := by
  induction ws generalizing i with
  | nil => rfl
  | cons w ws ih =>
    obtain ⟨f, role⟩ := w
    cases role <;> simp [storeReqsOf, Waiting.stamp?, ih, List.filterMap_cons]

/-- The stamps of the requests that wait at the ports. -/
def State.waitingStamps (s : State) : List Nat := allPorts.flatMap fun p => (s.port p).requests.filterMap Waiting.stamp?

theorem State.storeReqs_stamps (s : State) : s.storeReqs.map StoreReq.stamp = s.waitingStamps := by
  simp only [State.storeReqs, State.waitingStamps, List.map_flatMap, storeReqsOf_stamps]

/-- What a queue asks for, said of the stamps alone. -/
theorem State.queuesOk_iff {s : State} : s.QueuesOk ↔
    (∀ p, ∀ w ∈ (s.port p).requests, s.WaitingOk p w)
      ∧ (s.waitingStamps ++ s.arbiter.expiries.map Expiry.stamp).Nodup
      ∧ (∀ p, ((s.port p).requests.filterMap Waiting.stamp?).Pairwise (· < ·))
      ∧ ∀ x ∈ s.arbiter.expiries, x.stamp < s.arbiter.nextStamp := by
  constructor
  · rintro ⟨h1, h2, h3, h4⟩
    rw [State.storeReqs_stamps] at h2
    exact ⟨h1, h2, fun p => storeReqsOf_stamps p 0 _ ▸ h3 p, h4⟩
  · rintro ⟨h1, h2, h3, h4⟩
    refine ⟨h1, by rw [State.storeReqs_stamps]; exact h2, fun p => ?_, h4⟩
    rw [storeReqsOf_stamps]
    exact h3 p

/-- The stamp of a requester that waits as it should was given before. -/
theorem State.WaitingOk.stamp_lt {s : State} {p : Port} {w : Waiting} (h : s.WaitingOk p w) {n : Nat} (hn : w.stamp? = some n) :
    n < s.arbiter.nextStamp := by
  obtain ⟨f, role⟩ := w
  cases role with
  | store stamp =>
    obtain rfl : stamp = n := by simpa [Waiting.stamp?] using hn
    exact h.2.2
  | answered | served => simp [Waiting.stamp?] at hn

theorem State.WaitingOk.mono {s t : State} {p : Port} {w : Waiting} (h : s.WaitingOk p w)
    (hstamp : s.arbiter.nextStamp ≤ t.arbiter.nextStamp) : t.WaitingOk p w := by
  obtain ⟨f, role⟩ := w
  cases role with
  | store stamp => exact ⟨h.1, h.2.1, h.2.2.trans_le hstamp⟩
  | answered => trivial
  | served => exact h

/-- What drops frames and expiries, and gives no stamp again. -/
theorem State.QueuesOk.shrinks {s t : State} (h : s.QueuesOk) (hrequests : ∀ p, (t.port p).requests.Sublist (s.port p).requests)
    (hexpiries : t.arbiter.expiries.Sublist s.arbiter.expiries) (hstamp : s.arbiter.nextStamp ≤ t.arbiter.nextStamp) : t.QueuesOk := by
  obtain ⟨hwaiting, hnodup, hordered, hexpired⟩ := State.queuesOk_iff.1 h
  refine State.queuesOk_iff.2 ⟨fun p w hw => (hwaiting p w ((hrequests p).subset hw)).mono hstamp, ?_, fun p => ?_, fun x hx => ?_⟩
  · refine List.Sublist.nodup (.append ?_ (hexpiries.map _)) hnodup
    exact List.Sublist.flatMap_right _ fun p _ => (hrequests p).filterMap _
  · exact (hordered p).sublist ((hrequests p).filterMap _)
  · exact (hexpired x (hexpiries.subset hx)).trans_le hstamp

/-- Every stamp in use was given before. -/
theorem State.QueuesOk.given {s : State} (h : s.QueuesOk) {n : Nat} (hn : n ∈ s.waitingStamps ++ s.arbiter.expiries.map Expiry.stamp) :
    n < s.arbiter.nextStamp := by
  rcases List.mem_append.1 hn with hn | hn
  · simp only [State.waitingStamps, List.mem_flatMap, List.mem_filterMap] at hn
    obtain ⟨p, -, w, hw, hstamp⟩ := hn
    exact (h.waiting p w hw).stamp_lt hstamp
  · obtain ⟨x, hx, rfl⟩ := List.mem_map.1 hn
    exact h.expired x hx

/-- A frame more at the end of one queue adds its stamp, if it has one. -/
theorem State.waitingStamps_enqueue (s : State) (p : Port) (f : Frame) (r : Role) :
    (s.enqueue p f r).waitingStamps.Perm ((Waiting.stamp? ⟨f, r⟩).toList ++ s.waitingStamps) := by
  obtain ⟨before, after, hports⟩ := List.append_of_mem (mem_allPorts p)
  have hnodup : (before ++ p :: after).Nodup := hports ▸ (by decide)
  obtain ⟨-, hlater, hapart⟩ := List.nodup_append.1 hnodup
  have hsame (ps : List Port) (hps : p ∉ ps) : (ps.flatMap fun q => ((s.enqueue p f r).port q).requests.filterMap Waiting.stamp?)
      = ps.flatMap fun q => (s.port q).requests.filterMap Waiting.stamp? := by
    refine List.flatMap_congr fun q hq => ?_
    rw [State.enqueue_port, if_neg fun (h : q = p) => hps (h ▸ hq)]
  have hbefore : p ∉ before := fun hp => hapart p hp p (by simp) rfl
  have hafter : p ∉ after := (List.nodup_cons.1 hlater).1
  simp only [State.waitingStamps, hports, List.flatMap_append, List.flatMap_cons, hsame _ hbefore, hsame _ hafter]
  have hown : ((s.enqueue p f r).port p).requests.filterMap Waiting.stamp?
      = (s.port p).requests.filterMap Waiting.stamp? ++ (Waiting.stamp? ⟨f, r⟩).toList := by
    cases h : Waiting.stamp? ⟨f, r⟩ <;> simp [h]
  rw [hown]
  refine List.perm_iff_count.2 fun n => ?_
  simp only [List.count_append]
  omega

/-- A frame taken with the role that its checks give it keeps the queues. -/
theorem State.QueuesOk.takes {s : State} (h : s.QueuesOk) {p : Port} {f : Frame} {r : Role} (hfits : s.RoleFits p f r) :
    ((s.enqueue p f r).withArbiter { s.arbiter with nextStamp := s.arbiter.nextStamp + r.stamps }).QueuesOk := by
  obtain ⟨hwaiting, hnodup, hordered, hexpired⟩ := State.queuesOk_iff.1 h
  have hnew (t : State) (ht : t.arbiter.nextStamp = s.arbiter.nextStamp + r.stamps) : t.WaitingOk p ⟨f, r⟩ := by
    cases r with
    | answered => trivial
    | served => exact hfits
    | store stamp =>
      obtain ⟨hpass, hkind, rfl⟩ := hfits
      exact ⟨hpass, hkind, by rw [ht]; exact Nat.lt_succ_self _⟩
  have hfresh : ∀ n ∈ (Waiting.stamp? ⟨f, r⟩).toList, n = s.arbiter.nextStamp := by
    cases r with
    | store stamp => simpa [Waiting.stamp?] using hfits.2.2
    | _ => simp [Waiting.stamp?]
  have honce : (Waiting.stamp? ⟨f, r⟩).toList.Nodup := by cases Waiting.stamp? ⟨f, r⟩ <;> simp
  refine State.queuesOk_iff.2 ⟨fun q w hw => ?_, ?_, fun q => ?_, fun x hx => ?_⟩
  · rw [State.withArbiter_same_port, State.enqueue_port] at hw
    split at hw
    next hq =>
      subst hq
      rcases List.mem_append.1 hw with hw | hw
      · exact (hwaiting q w hw).mono (by simp)
      · obtain rfl := List.mem_singleton.1 hw
        exact hnew _ rfl
    · exact (hwaiting q w hw).mono (by simp)
  · have hstamps : ((s.enqueue p f r).withArbiter { s.arbiter with nextStamp := s.arbiter.nextStamp + r.stamps }).waitingStamps
        = (s.enqueue p f r).waitingStamps := by simp [State.waitingStamps]
    rw [hstamps, ((s.waitingStamps_enqueue p f r).append_right _).nodup_iff, List.append_assoc, List.nodup_append]
    refine ⟨honce, by simpa using hnodup, fun n hn m hm he => ?_⟩
    have := h.given (by simpa using hm)
    have := hfresh n hn
    omega
  · rw [State.withArbiter_same_port, State.enqueue_port]
    split
    · simp only [List.filterMap_append, List.pairwise_append]
      refine ⟨hordered p, ?_, fun n hn m hm => ?_⟩
      · cases hs : Waiting.stamp? ⟨f, r⟩ <;> simp [hs]
      · have hm : m ∈ (Waiting.stamp? ⟨f, r⟩).toList := by simpa [eq_comm] using hm
        obtain ⟨w, hw, hstamp⟩ := List.mem_filterMap.1 hn
        exact hfresh m hm ▸ (hwaiting p w hw).stamp_lt hstamp
    · exact hordered q
  · have := hexpired x (by simpa using hx)
    simp only [State.withArbiter_fields]
    omega

theorem State.QueuesOk.due {s : State} (h : s.QueuesOk) (l : Lane) : (s.makeDue l).QueuesOk := by
  obtain ⟨hwaiting, hnodup, hordered, hexpired⟩ := State.queuesOk_iff.1 h
  have hexpiries : (s.makeDue l).arbiter.expiries = s.arbiter.expiries ++ [{ lane := l, stamp := s.arbiter.nextStamp }] := by
    simp [State.makeDue]
  have hstamp : (s.makeDue l).arbiter.nextStamp = s.arbiter.nextStamp + 1 := by simp [State.makeDue]
  refine State.queuesOk_iff.2 ⟨fun q w hw => ?_, ?_, fun q => by simpa using hordered q, fun x hx => ?_⟩
  · exact (hwaiting q w (by simpa using hw)).mono (by omega)
  · have hstamps : (s.makeDue l).waitingStamps = s.waitingStamps := by simp [State.waitingStamps]
    rw [hstamps, hexpiries, List.map_append, ← List.append_assoc, List.nodup_append]
    refine ⟨hnodup, by simp, fun n hn m hm he => ?_⟩
    have := h.given hn
    obtain rfl : m = s.arbiter.nextStamp := by simpa using hm
    omega
  · rw [hexpiries] at hx
    rw [hstamp]
    rcases List.mem_append.1 hx with hx | hx
    · exact (hexpired x hx).trans (Nat.lt_succ_self _)
    · obtain rfl := List.mem_singleton.1 hx
      exact Nat.lt_succ_self _

/-- Empty queues are as the ports fill them. -/
theorem State.QueuesOk.of_empty {s : State} (hrequests : ∀ p, (s.port p).requests = []) (hexpiries : s.arbiter.expiries = []) :
    s.QueuesOk := by
  refine State.queuesOk_iff.2 ⟨by simp [hrequests], ?_, by simp [hrequests], by simp [hexpiries]⟩
  have hnone : s.waitingStamps = [] := List.flatMap_eq_nil_iff.2 fun p _ => by rw [hrequests p]; rfl
  simp [hnone, hexpiries]

theorem State.PortMove.queuesOk {s t : State} (hmove : s.PortMove t) (h : s.QueuesOk) : t.QueuesOk := by
  cases hmove with
  | kept hkept =>
    exact h.shrinks (fun p => by rw [(hkept.ports p).requests]) (by rw [hkept.expiries]) (by rw [hkept.nextStamp])
  | @completed u p i f bs hkept _ _ =>
    refine h.shrinks (fun q => ?_) (by simp [State.complete, hkept.expiries]) (by simp [State.complete, hkept.nextStamp])
    rw [State.complete_port]
    split
    next hq => rw [hq, ← (hkept.ports p).requests]; exact List.eraseIdx_sublist _ _
    · rw [(hkept.ports q).requests]
  | @transacts p f hrequests _ _ _ | @fetched p f hrequests _ _ _ =>
    refine h.shrinks (fun q => ?_) (by simp) (by simp)
    rw [State.modPort_port]
    split
    next hq => rw [hq, hrequests]
    · exact List.Sublist.refl _
  | takes _ hfits => exact h.takes hfits
  | due => exact h.due _
  | expired => exact h.shrinks (by simp) (by simpa using List.erase_sublist) (by simp)
  | reset hports hexpiries => exact .of_empty (fun p => (hports p).1) hexpiries

/-- Settles O55: every step is a path of changes of the queues, each of which gives a fresh stamp at most (`State.PortMove`). -/
theorem stepsKeepQueues : Obligations.StepsKeepQueues := fun _ _ hs hstep =>
  step_keeps_ports (fun _ _ hmove h => hmove.queuesOk h) hstep hs

end Sys2Proof.Machine

/-! Bytes: the number that bytes spell, and the bytes that spell a number (R196). -/

namespace Sys2Proof.Machine

@[simp] theorem numberOf_nil : numberOf [] = 0 := rfl

theorem numberOf_concat (bs : List Byte) (b : Byte) : numberOf (bs ++ [b]) = numberOf bs * 256 + b.toNat := by
  simp [numberOf]

theorem numberOf_append (as bs : List Byte) : numberOf (as ++ bs) = numberOf as * 256 ^ bs.length + numberOf bs := by
  induction bs using List.reverseRecOn with
  | nil => simp
  | append_singleton bs b ih =>
    rw [← List.append_assoc, numberOf_concat, numberOf_concat, ih, List.length_append, List.length_singleton, Nat.pow_succ]
    ring

theorem numberOf_cons (b : Byte) (bs : List Byte) : numberOf (b :: bs) = b.toNat * 256 ^ bs.length + numberOf bs := by
  have h := numberOf_append [b] bs
  simpa [numberOf] using h

theorem numberOf_lt (bs : List Byte) : numberOf bs < 256 ^ bs.length := by
  induction bs using List.reverseRecOn with
  | nil => simp
  | append_singleton bs b ih =>
    rw [numberOf_concat, List.length_append, List.length_singleton, Nat.pow_succ]
    have := b.isLt
    omega

@[simp] theorem bytesOf_length (w n : Nat) : (bytesOf w n).length = w := by
  induction w generalizing n with
  | zero => rfl
  | succ w ih => simp [bytesOf, ih]

/-- What is written in `w` bytes reads as it was, as far as it fits. -/
theorem numberOf_bytesOf (w n : Nat) : numberOf (bytesOf w n) = n % 256 ^ w := by
  induction w with
  | zero => simp [bytesOf, Nat.mod_one]
  | succ w ih =>
    have hsplit : n % 256 ^ (w + 1) = n % 256 ^ w + 256 ^ w * (n / 256 ^ w % 256) := Nat.mod_mul
    rw [bytesOf, numberOf_cons, ih, bytesOf_length, BitVec.toNat_ofNat, hsplit, Nat.add_comm, Nat.mul_comm]

theorem fieldAt_lt (i w : Nat) (p : List Byte) : fieldAt i w p < 256 ^ w := by
  refine (numberOf_lt _).trans_le (Nat.pow_le_pow_right (by decide) ?_)
  simp

@[simp] theorem byteOf_toNat (n : Nat) : (byteOf n).toNat = n % 256 := by simp [byteOf]

/-- A field behind the bytes `as`. -/
theorem fieldAt_append_of_le {i : Nat} {as : List Byte} (h : as.length ≤ i) (w : Nat) (bs : List Byte) :
    fieldAt i w (as ++ bs) = fieldAt (i - as.length) w bs := by
  simp [fieldAt, List.drop_append, List.drop_eq_nil_of_le h]

/-- A field within the bytes `as`. -/
theorem fieldAt_append_of_lt {i w : Nat} {as : List Byte} (h : i + w ≤ as.length) (bs : List Byte) :
    fieldAt i w (as ++ bs) = fieldAt i w as := by
  have hdrop : i ≤ as.length := by omega
  rw [fieldAt, List.drop_append_of_le_length hdrop, List.take_append_of_le_length (by simp; omega), fieldAt]

theorem fieldAt_bytesOf (w n : Nat) : fieldAt 0 w (bytesOf w n) = n % 256 ^ w := by
  rw [fieldAt, List.drop_zero, List.take_of_length_le (by simp), numberOf_bytesOf]

theorem byteAt_append_of_le {i : Nat} {as : List Byte} (h : as.length ≤ i) (bs : List Byte) :
    byteAt i (as ++ bs) = byteAt (i - as.length) bs := by
  simp [byteAt, List.getElem?_append_right h]

theorem byteAt_append_of_lt {i : Nat} {as : List Byte} (h : i < as.length) (bs : List Byte) : byteAt i (as ++ bs) = byteAt i as := by
  simp [byteAt, List.getElem?_append_left h]

@[simp] theorem byteAt_cons_zero (b : Byte) (bs : List Byte) : byteAt 0 (b :: bs) = b.toNat := rfl

@[simp] theorem byteAt_cons_succ (i : Nat) (b : Byte) (bs : List Byte) : byteAt (i + 1) (b :: bs) = byteAt i bs := rfl

@[simp] theorem fieldAt_cons_succ (i w : Nat) (b : Byte) (bs : List Byte) : fieldAt (i + 1) w (b :: bs) = fieldAt i w bs := rfl

end Sys2Proof.Machine

/-! The ranges of every step, and the state after power-on reset. -/

namespace Sys2Proof.Machine

/-! ### The tables that the office loads -/

/-- The ranges of the products, the tariff, the resort code and the calendar. -/
structure State.TablesOk (s : State) : Prop where
  products : ∀ c : Fin 64, (s.product c).ok
  tariff   : ∀ (row : Fin 8) (c : DayClass), s.rate row c ≤ 200000
  resort   : s.resort ≤ 65535
  calendar : s.calendar.base ≤ Config.lastDay

theorem State.TablesOk.congr {s t : State} (h : s.TablesOk) (hproducts : t.products = s.products) (htariff : t.tariff = s.tariff)
    (hresort : t.resort = s.resort) (hcalendar : t.calendar = s.calendar) : t.TablesOk := by
  obtain ⟨h1, h2, h3, h4⟩ := h
  refine ⟨fun c => ?_, fun row c => ?_, hresort ▸ h3, hcalendar ▸ h4⟩
  · rw [State.product, hproducts]; exact h1 c
  · rw [State.rate, htariff]; exact h2 row c

theorem State.TablesOk.of_onlyChanges {ps : List Part} {s t : State} (h : s.TablesOk) (hframe : onlyChanges ps s t)
    (hps : ∀ p ∈ [Part.products, .tariff, .resort, .calendar], p ∉ ps) : t.TablesOk := by
  simp only [List.forall_mem_cons, List.not_mem_nil, false_imp_iff, implies_true, and_true] at hps
  obtain ⟨hproducts, htariff, hresort, hcalendar⟩ := hps
  exact h.congr (hframe _ hproducts) (hframe _ htariff) (hframe _ hresort) (hframe _ hcalendar)

theorem productArg_ok (p : List Byte) : (productArg p).ok := by
  unfold productArg
  split
  · decide
  · refine ⟨(clamp_le (by decide) _).2, (clamp_le (by decide) _).2, (clamp_le (by decide) _).1, (clamp_le (by decide) _).2,
      (clamp_le (by decide) _).2, by simp⟩

theorem ratesArg_le (p : List Byte) (c : DayClass) : (ratesArg p)[c] ≤ 200000 := by
  fin_cases c <;> simp [ratesArg]

theorem State.loadProduct_tablesOk {s : State} (h : s.TablesOk) (p : List Byte) : (s.loadProduct p).1.TablesOk := by
  unfold State.loadProduct
  dsimp only
  split
  · exact h
  · refine ⟨fun c => ?_, h.tariff, h.resort, h.calendar⟩
    have hc := h.products c
    simp only [State.product, State.withProducts_fields, Fin.getElem_fin, Vector.getElem_set] at hc ⊢
    split
    · exact productArg_ok p
    · exact hc

theorem State.loadTariff_tablesOk {s : State} (h : s.TablesOk) (p : List Byte) : (s.loadTariff p).1.TablesOk := by
  unfold State.loadTariff
  dsimp only
  split
  · exact h
  · refine ⟨h.products, fun row c => ?_, h.resort, h.calendar⟩
    have hc := h.tariff row c
    simp only [State.rate, State.withTariff_fields, Fin.getElem_fin, Vector.getElem_set] at hc ⊢
    split
    · exact ratesArg_le p c
    · exact hc

theorem State.setResort_tablesOk {s : State} (h : s.TablesOk) (p : List Byte) : (s.setResort p).1.TablesOk := by
  have hwrite (n : Nat) (hn : n ≤ 65535) : (s.withResort n).TablesOk := ⟨h.products, h.tariff, hn, h.calendar⟩
  have hcode := fieldAt_lt 0 2 p
  exact hwrite _ (by omega)

theorem Calendar.run_base (c : Calendar) (start count : Nat) (k : DayClass) : (c.run start count k).base = c.base := by
  unfold Calendar.run
  rfl

theorem applyRuns_base (at_ r : Nat) (p : List Byte) (c : Calendar) (n : Nat) : (applyRuns at_ r p c n).1.base = c.base := by
  induction r generalizing at_ c n with
  | zero => rfl
  | succ r ih => rw [applyRuns, ih, Calendar.run_base]

theorem State.loadCalendar_tablesOk {s : State} (h : s.TablesOk) (p : List Byte) : (s.loadCalendar p).1.TablesOk := by
  have hcalendar (c : Calendar) (hc : c.base ≤ Config.lastDay) : (s.withCalendar c).TablesOk := ⟨h.products, h.tariff, h.resort, hc⟩
  unfold State.loadCalendar
  split
  · exact hcalendar _ (clamp_le (by decide) _).2
  split
  · unfold State.loadCalendarRuns
    dsimp only
    split
    · exact h
    · exact hcalendar _ (by rw [applyRuns_base]; exact h.calendar)
  · exact h

theorem State.serve_tablesOk {s : State} (h : s.TablesOk) {sel : Frame → Bool} {eval : State → List Byte → State × List Byte}
    (heval : ∀ bs, (eval s bs).1.TablesOk) : (s.serve .office sel eval).TablesOk := by
  cases hs : s.servable .office sel with
  | none => rwa [State.serve_of_none hs]
  | some x =>
    rw [State.serve_of_servable hs]
    exact (heval _).of_onlyChanges (State.modPort_onlyChanges (ps := [.office]) (by simp [portPart])) (by simp)

theorem State.reset_tablesOk : State.reset.TablesOk := by
  refine ⟨fun c => ?_, fun row c => ?_, by decide, by decide⟩
  · simp only [State.product, State.reset, Fin.getElem_fin, Vector.getElem_replicate]
    decide
  · simp [State.rate, State.reset]

theorem exec_tablesOk (c : Instr) (s t : State) (hexec : exec c s = .next t) (h : s.TablesOk) : t.TablesOk := by
  have framed (hdisjoint : ∀ p ∈ [Part.products, .tariff, .resort, .calendar], p ∉ touches c) : t.TablesOk := by
    obtain ⟨u, hnext, hframe⟩ := exec_next_onlyChanges c s
    obtain rfl : u = t := by simpa [hnext] using hexec
    exact h.of_onlyChanges hframe hdisjoint
  cases c with
  | loadProduct => cases hexec; exact State.serve_tablesOk h (State.loadProduct_tablesOk h)
  | loadTariff => cases hexec; exact State.serve_tablesOk h (State.loadTariff_tablesOk h)
  | setResort => cases hexec; exact State.serve_tablesOk h (State.setResort_tablesOk h)
  | loadCalendarBase | loadCalendarRuns => cases hexec; exact State.serve_tablesOk h (State.loadCalendar_tablesOk h)
  | powerOnReset =>
    cases hexec
    exact State.reset_tablesOk.congr rfl rfl rfl rfl
  | send p bytes => exact framed (by cases p <;> simp [touches, warmParts])
  | fetch p n => exact framed (by cases p <;> simp [touches, portPart])
  | status p code => exact framed (by cases p <;> simp [touches, portPart])
  | answeredFrame p => exact framed (by cases p <;> simp [touches, portPart])
  | readEvents p => exact framed (by cases p <;> simp [touches, portPart])
  | _ => exact framed (by simp [touches, warmParts, grantParts, tickParts])

/-! ### Every range -/

theorem State.inRange_iff {s : State} : s.InRange ↔ (∀ p, (s.port p).Fits) ∧ s.DeviceOk ∧ s.TablesOk := by
  constructor
  · intro h
    exact ⟨fun p => ⟨h.ports p, h.sends p⟩,
      ⟨h.clock, h.lanes, h.instants, h.lifts, h.counts, h.sweep, h.walk, h.arbiter⟩, ⟨h.products, h.tariff, h.resort, h.calendar⟩⟩
  · rintro ⟨hports, hdevice, htables⟩
    exact ⟨fun p => (hports p).1, fun p => (hports p).2, hdevice.clock, hdevice.lanes, hdevice.instants, hdevice.lifts, hdevice.counts,
      hdevice.sweep, hdevice.walk, hdevice.arbiter, htables.products, htables.tariff, htables.resort, htables.calendar⟩

/-- Settles O54: the ports by the moves of their queues, the device and the tables command by command. -/
theorem stepsKeepRanges : Obligations.StepsKeepRanges := by
  unfold Obligations.StepsKeepRanges
  intro s t hs hstep
  obtain ⟨hports, hdevice, htables⟩ := State.inRange_iff.1 hs
  refine State.inRange_iff.2 ⟨step_keeps_ports (fun _ _ hmove h => hmove.fits h) hstep hports, ?_⟩
  cases hp : s.pending with
  | nil =>
    rw [step_of_pending_nil hp] at hstep
    cases hstep
    exact ⟨hdevice, htables⟩
  | cons c rest =>
    rw [step_of_pending_cons hp] at hstep
    have hpending : (s.withPending rest).DeviceOk :=
      ⟨hdevice.clock, hdevice.lanes, hdevice.instants, hdevice.lifts, hdevice.counts, hdevice.sweep, hdevice.walk, hdevice.arbiter⟩
    exact ⟨exec_tame c _ t hstep hpending, exec_tablesOk c _ t hstep (htables.congr rfl rfl rfl rfl)⟩

/-! ### After power-on reset -/

theorem PortRec.powerOn_fits {flags : List Event} (h : flags.Sublist allEvents) : (PortRec.powerOn flags).Fits :=
  ⟨⟨Nat.zero_le _, Nat.zero_le _, h⟩, by simp [PortRec.TransactionOk, PortRec.powerOn]⟩

theorem State.reset_inRange : State.reset.InRange := by
  refine State.inRange_iff.2 ⟨fun p => ?_, State.reset_deviceOk, State.reset_tablesOk⟩
  rw [State.reset_port]
  refine PortRec.powerOn_fits ?_
  split
  · exact List.singleton_sublist.2 (mem_allEvents _)
  · exact List.nil_sublist _

theorem State.reset_queuesOk : State.reset.QueuesOk :=
  .of_empty (fun p => by rw [State.reset_port]; rfl) rfl

/-- Settles O53: each invariant holds of empty stores, queues and counters. -/
theorem resetMeetsEveryInvariant : Obligations.ResetMeetsEveryInvariant :=
  ⟨State.reset_inRange, State.reset_queuesOk, State.reset_storeOk, State.reset_holdsOk, State.reset_historyOk, State.reset_entriesOk,
    State.reset_balanced⟩

theorem PortRec.powerOn_flagged (p : Port) (e : Event) :
    (PortRec.powerOn (if p = .office then [.device .restarted] else [])).flagged e = true ↔ p = .office ∧ e = .device .restarted := by
  cases p <;> simp [PortRec.powerOn, PortRec.flagged]

theorem PortRec.powerOn_attention (p : Port) :
    (PortRec.powerOn (if p = .office then [.device .restarted] else [])).attention = false := by
  cases p <;> simp [PortRec.powerOn, PortRec.attention, PortRec.masked, Event.kindIndex]
  decide

/-- Settles O8: the state of power-on reset is `State.reset` with the parts that the model keeps. -/
theorem powerOnResetValues : Obligations.PowerOnResetValues := by
  unfold Obligations.PowerOnResetValues
  intro s
  refine ⟨s.powerOn, rfl, fun p => ?_, fun n => rfl, rfl, fun c => ?_, rfl, fun g => rfl, ?_, rfl, rfl, rfl, fun i => ?_, fun l => ?_,
    fun f => ?_, rfl, ?_, rfl, rfl, rfl, rfl, rfl, rfl, rfl, rfl, fun row c => ?_, rfl, rfl, rfl, rfl, rfl, rfl, rfl⟩
  · rw [State.powerOn_port, State.reset_port]
    exact ⟨rfl, rfl, rfl, rfl, PortRec.powerOn_attention p, rfl, rfl, PortRec.powerOn_flagged p⟩
  · simp [State.product, State.powerOn, State.reset, Product.powerOn]
  · simp only [State.powerOn, State.reset, State.withPending, State.withPins, State.withOrderIndex]
  · simp [State.powerOn, State.reset]
  · have h : s.powerOn.lane l = State.reset.lane l := rfl
    rw [h, State.reset_lane]
    rfl
  · simp [State.lift, State.powerOn, State.reset, LiftRec.powerOn]
  · simp [State.powerOn, State.reset, CountUnit.powerOn]
  · simp [State.rate, State.powerOn, State.reset]

end Sys2Proof.Machine

/-! What a command leaves alone at the ports: the masks and edge modes, the flags that are set, and the number of waiting frames. -/

namespace Sys2Proof.Machine

/-! ### The settings, the flags and the frames of the ports -/

/-- The masks and edge modes of every port stay. -/
def State.SettingsKept (s t : State) : Prop := ∀ p, (t.port p).masks = (s.port p).masks ∧ (t.port p).edges = (s.port p).edges

/-- No flag is cleared. -/
def State.FlagsKept (s t : State) : Prop := ∀ p e, e ∈ (s.port p).flags → e ∈ (t.port p).flags

/-- The frames that wait in the two queues of a port. -/
def PortRec.frames (r : PortRec) : Nat := r.requests.length + r.responses.length

/-- The number of frames that wait at every port stays. -/
def State.FramesKept (s t : State) : Prop := ∀ p, (t.port p).frames = (s.port p).frames

/-- All three. -/
structure State.Undisturbed (s t : State) : Prop where
  settings : s.SettingsKept t
  flags    : s.FlagsKept t
  frames   : s.FramesKept t

theorem State.SettingsKept.refl (s : State) : s.SettingsKept s := fun _ => ⟨rfl, rfl⟩

theorem State.SettingsKept.trans {s t u : State} (h : s.SettingsKept t) (h' : t.SettingsKept u) : s.SettingsKept u :=
  fun p => ⟨(h' p).1.trans (h p).1, (h' p).2.trans (h p).2⟩

theorem State.FlagsKept.refl (s : State) : s.FlagsKept s := fun _ _ h => h

theorem State.FlagsKept.trans {s t u : State} (h : s.FlagsKept t) (h' : t.FlagsKept u) : s.FlagsKept u := fun p e he => h' p e (h p e he)

theorem State.FramesKept.refl (s : State) : s.FramesKept s := fun _ => rfl

theorem State.FramesKept.trans {s t u : State} (h : s.FramesKept t) (h' : t.FramesKept u) : s.FramesKept u :=
  fun p => (h' p).trans (h p)

theorem State.Undisturbed.refl (s : State) : s.Undisturbed s := ⟨.refl s, .refl s, .refl s⟩

theorem State.Undisturbed.trans {s t u : State} (h : s.Undisturbed t) (h' : t.Undisturbed u) : s.Undisturbed u :=
  ⟨h.settings.trans h'.settings, h.flags.trans h'.flags, h.frames.trans h'.frames⟩

theorem State.SettingsKept.of_ports {s t : State} (h : ∀ p, t.port p = s.port p) : s.SettingsKept t := fun p => by rw [h p]; exact ⟨rfl, rfl⟩

theorem State.FlagsKept.of_ports {s t : State} (h : ∀ p, t.port p = s.port p) : s.FlagsKept t := fun p e he => by rwa [h p]

theorem State.Undisturbed.of_ports {s t : State} (h : ∀ p, t.port p = s.port p) : s.Undisturbed t :=
  ⟨.of_ports h, .of_ports h, fun p => by rw [h p]⟩

theorem State.Undisturbed.of_raised {s t : State} (h : s.Raised t) : s.Undisturbed t :=
  ⟨fun p => ⟨(h p).masks, (h p).edges⟩, fun p => (h p).kept, fun p => by rw [PortRec.frames, (h p).requests, (h p).responses]; rfl⟩

theorem State.QueuesKept.frames {s t : State} (h : s.QueuesKept t) : s.FramesKept t :=
  fun p => by rw [PortRec.frames, (h.ports p).requests, (h.ports p).responses]; rfl

theorem State.modPort_settings (s : State) (p : Port) {f : PortRec → PortRec} (hmasks : (f (s.port p)).masks = (s.port p).masks)
    (hedges : (f (s.port p)).edges = (s.port p).edges) : s.SettingsKept (s.modPort p f) := fun q => by
  rw [State.modPort_port]
  split
  next hq => rw [hq]; exact ⟨hmasks, hedges⟩
  · exact ⟨rfl, rfl⟩

theorem State.modPort_flags (s : State) (p : Port) {f : PortRec → PortRec} (h : (f (s.port p)).flags = (s.port p).flags) :
    s.FlagsKept (s.modPort p f) := fun q e he => by
  rw [State.modPort_port]
  split
  next hq => rw [h]; exact hq ▸ he
  · exact he

theorem State.modPort_frames (s : State) (p : Port) {f : PortRec → PortRec} (h : (f (s.port p)).frames = (s.port p).frames) :
    s.FramesKept (s.modPort p f) := fun q => by
  rw [State.modPort_port]
  split
  next hq => rw [hq]; exact h
  · rfl

/-! ### Requests that are answered -/

/-- The place that a completion frees is the place that its response takes (R186). -/
theorem State.complete_undisturbed (s : State) (p : Port) {i : Nat} (f : Frame) (bs : List Byte) (h : i < (s.port p).requests.length) :
    s.Undisturbed (s.complete p i f bs) := by
  refine ⟨s.modPort_settings p rfl rfl, s.modPort_flags p rfl, s.modPort_frames p ?_⟩
  simp only [PortRec.frames, List.length_eraseIdx_of_lt h, List.length_append, List.length_singleton]
  omega

section

variable {s : State} {sel : Frame → Bool} {eval : State → List Byte → State × List Byte}

theorem State.grantTo_undisturbed (h : ∀ (t : State) bs, t.Raised (eval t bs).1) : s.Undisturbed (s.grantTo sel eval) := by
  cases hg : s.grantable sel with
  | none => rw [State.grantTo_of_none hg]; exact .refl s
  | some r =>
    rw [State.grantTo_of_grantable hg]
    obtain ⟨-, hmem, -⟩ := State.grantable_eligible hg
    obtain ⟨hplace, -⟩ := List.getElem?_eq_some_iff.1 (State.mem_storeReqs.1 hmem)
    have heval := (State.Undisturbed.of_ports (s := s) (t := s.charge (.request r)) (by simp)).trans (.of_raised (h _ r.frame.payload))
    refine heval.trans (State.complete_undisturbed _ _ _ _ ?_)
    rw [(h _ _ _).requests]
    simpa using hplace

/-- A served request is completed, whatever its block does to the flags and settings. -/
theorem State.serve_cases {p : Port} : s.serve p sel eval = s ∨ ∃ (i : Nat) (f : Frame), i < (s.port p).requests.length
    ∧ s.serve p sel eval = (eval s f.payload).1.complete p i f (eval s f.payload).2 := by
  cases hs : s.servable p sel with
  | none => exact .inl (State.serve_of_none hs eval)
  | some x => exact .inr ⟨x.1, x.2, State.servable_place hs, State.serve_of_servable hs eval⟩

theorem State.serve_settings {p : Port} (h : ∀ (t : State) bs, t.SettingsKept (eval t bs).1) : s.SettingsKept (s.serve p sel eval) := by
  rcases State.serve_cases (s := s) (sel := sel) (eval := eval) (p := p) with hs | ⟨i, f, -, hs⟩ <;> rw [hs]
  · exact .refl s
  · exact (h _ _).trans (State.modPort_settings _ p rfl rfl)

theorem State.serve_flags {p : Port} (h : ∀ (t : State) bs, t.FlagsKept (eval t bs).1) : s.FlagsKept (s.serve p sel eval) := by
  rcases State.serve_cases (s := s) (sel := sel) (eval := eval) (p := p) with hs | ⟨i, f, -, hs⟩ <;> rw [hs]
  · exact .refl s
  · exact (h _ _).trans (State.modPort_flags _ p rfl)

theorem State.serve_frames {p : Port} (h : ∀ (t : State) bs, t.QueuesKept (eval t bs).1) : s.FramesKept (s.serve p sel eval) := by
  rcases State.serve_cases (s := s) (sel := sel) (eval := eval) (p := p) with hs | ⟨i, f, hi, hs⟩ <;> rw [hs]
  · exact .refl s
  · refine (h s f.payload).frames.trans (State.complete_undisturbed _ p f _ ?_).frames
    rw [((h _ _).ports p).requests]
    exact hi

theorem State.serve_undisturbed {p : Port} (h : ∀ (t : State) bs, t.Raised (eval t bs).1) : s.Undisturbed (s.serve p sel eval) := by
  have hkept (t : State) (bs : List Byte) := State.Undisturbed.of_raised (h t bs)
  refine ⟨State.serve_settings fun t bs => (hkept t bs).settings, State.serve_flags fun t bs => (hkept t bs).flags, ?_⟩
  rcases State.serve_cases (s := s) (sel := sel) (eval := eval) (p := p) with hs | ⟨i, f, hi, hs⟩ <;> rw [hs]
  · exact .refl s
  · refine (hkept s f.payload).frames.trans (State.complete_undisturbed _ p f _ ?_).frames
    rw [(h _ _ p).requests]
    exact hi

end

section

variable (s : State)

theorem State.answerFrame_undisturbed (p : Port) : s.Undisturbed (s.answerFrame p) := by
  unfold State.answerFrame
  split
  next i f c hnext =>
    obtain ⟨-, older, younger, hqueue, hplace, -⟩ := oldestServed_eq_some.1 (State.nextServed_eq_some.1 hnext).2
    exact s.complete_undisturbed p f _ (by rw [hqueue]; simp; omega)
  · exact .refl s

theorem State.readEvents_settings (p : Port) (bs : List Byte) : s.SettingsKept (s.readEvents p bs).1 := by
  cases p with
  | gate k => exact s.modPort_settings (.gate k) (f := (·.read (gateCarried k))) rfl rfl
  | office =>
    simp only [State.readEvents, State.readOfficeEvents]
    split
    · exact .refl s
    · exact s.modPort_settings .office (f := (·.read (officeCarried (byteAt 0 bs)))) rfl rfl

theorem State.setEvents_flags (p : List Byte) : s.FlagsKept (s.setEvents p).1 := by
  unfold State.setEvents
  split
  next port edges _ _ =>
    exact s.modPort_flags port (f := fun r => { r with masks := BitVec.ofNat 15 (fieldAt 1 2 p), edges := edges }) rfl
  · exact .refl s

/-! ### Transactions and resets -/

theorem State.warmReset_settings : s.SettingsKept s.warmReset := fun p => by
  rw [State.warmReset_port]
  split
  next hp => subst hp; exact ⟨rfl, rfl⟩
  · exact ⟨rfl, rfl⟩

/-- A frame taken leaves the settings; at a gate port, which can take no RESTART, it changes its own request queue alone. -/
theorem State.takeFrame_settings (p : Port) (f : Frame) (n : Nat) : s.SettingsKept (s.takeFrame p f n) := by
  have henqueue (r : Role) : s.SettingsKept (s.enqueue p f r) := s.modPort_settings p rfl rfl
  unfold State.takeFrame
  split
  · exact henqueue _
  · exact s.warmReset_settings
  · split
    · exact (henqueue _).trans (.of_ports (State.withArbiter_same_port _ _))
    · exact henqueue _
  · exact .refl s

theorem State.takeFrame_gate_port (k : Fin 4) (f : Frame) (n : Nat) :
    s.FlagsKept (s.takeFrame (.gate k) f n) ∧ ∀ p, p ≠ .gate k → (s.takeFrame (.gate k) f n).port p = s.port p := by
  have henqueue (r : Role) : s.FlagsKept (s.enqueue (.gate k) f r) ∧ ∀ p, p ≠ .gate k → (s.enqueue (.gate k) f r).port p = s.port p :=
    ⟨s.modPort_flags (.gate k) rfl, fun p hp => by rw [State.enqueue_port, if_neg hp]⟩
  unfold State.takeFrame
  split
  · exact henqueue _
  next hcheck hrestart => simp [checkFrame_gate_restart n hrestart] at hcheck
  · split
    · exact ⟨(henqueue _).1.trans (.of_ports (State.withArbiter_same_port _ _)), fun p hp => by
        rw [State.withArbiter_same_port]; exact (henqueue _).2 p hp⟩
    · exact henqueue _
  · exact ⟨.refl s, fun _ _ => rfl⟩

theorem State.inProgress_undisturbed (p : Port) (x : Option Transaction) : s.Undisturbed (s.inProgress p x) :=
  ⟨s.modPort_settings p rfl rfl, s.modPort_flags p rfl, s.modPort_frames p rfl⟩

theorem State.opened_undisturbed (p : Port) (code : Byte) : s.Undisturbed (s.opened p code) :=
  ⟨s.modPort_settings p rfl rfl, s.modPort_flags p rfl, s.modPort_frames p rfl⟩

theorem State.ifOpened_undisturbed (p : Port) (begins : Bool) (code : Byte) :
    s.Undisturbed (if begins then s.opened p code else s) := by
  split
  · exact s.opened_undisturbed p code
  · exact .refl s

theorem State.ifOpened_port_ne {p q : Port} (h : q ≠ p) (begins : Bool) (code : Byte) :
    (if begins then s.opened p code else s).port q = s.port q := by
  split
  · rw [State.opened_port, if_neg h]
  · rfl

theorem State.send_settings (p : Port) (bytes : Piece (List Byte)) : s.SettingsKept (s.send p bytes) := by
  have hshift (t : State) : t.SettingsKept (t.shiftIn p bytes.data bytes.ends) := by
    unfold State.shiftIn
    split
    · split
      · exact (t.inProgress_undisturbed p _).settings
      · dsimp only
        split
        · exact (t.inProgress_undisturbed p _).settings
        · exact (t.inProgress_undisturbed p _).settings.trans (State.takeFrame_settings _ _ _ _)
    · exact (t.inProgress_undisturbed p _).settings
    · exact .refl t
  exact (s.ifOpened_undisturbed p _ _).settings.trans (hshift _)

theorem State.send_gate_port (k : Fin 4) (bytes : Piece (List Byte)) :
    s.FlagsKept (s.send (.gate k) bytes) ∧ ∀ p, p ≠ .gate k → (s.send (.gate k) bytes).port p = s.port p := by
  have hshift (t : State) : t.FlagsKept (t.shiftIn (.gate k) bytes.data bytes.ends)
      ∧ ∀ p, p ≠ .gate k → (t.shiftIn (.gate k) bytes.data bytes.ends).port p = t.port p := by
    have hprogress (x : Option Transaction) : t.FlagsKept (t.inProgress (.gate k) x)
        ∧ ∀ p, p ≠ .gate k → (t.inProgress (.gate k) x).port p = t.port p :=
      ⟨(t.inProgress_undisturbed _ x).flags, fun p hp => by rw [State.inProgress_port, if_neg hp]⟩
    unfold State.shiftIn
    split
    · split
      · exact hprogress _
      next f n _ =>
        dsimp only
        split
        · exact hprogress _
        · obtain ⟨hflags, hports⟩ := hprogress (Transaction.over.after bytes.ends)
          obtain ⟨hflags', hports'⟩ := State.takeFrame_gate_port (t.inProgress (.gate k) (Transaction.over.after bytes.ends)) k f n
          exact ⟨hflags.trans hflags', fun p hp => (hports' p hp).trans (hports p hp)⟩
    · exact hprogress _
    · exact ⟨.refl t, fun _ _ => rfl⟩
  exact ⟨(s.ifOpened_undisturbed _ _ _).flags.trans (hshift _).1,
    fun p hp => ((hshift _).2 p hp).trans (s.ifOpened_port_ne hp _ _)⟩

theorem State.fetch_port (p : Port) (n : Piece Nat) :
    s.SettingsKept (s.fetch p n) ∧ s.FlagsKept (s.fetch p n) ∧ ∀ q, q ≠ p → (s.fetch p n).port q = s.port q := by
  have hshift (t : State) : t.SettingsKept (t.shiftOut p n.data n.ends) ∧ t.FlagsKept (t.shiftOut p n.data n.ends)
      ∧ ∀ q, q ≠ p → (t.shiftOut p n.data n.ends).port q = t.port q := by
    unfold State.shiftOut
    split
    · exact ⟨t.modPort_settings p rfl rfl, t.modPort_flags p rfl, fun q hq => by rw [State.modPort_port, if_neg hq]⟩
    · exact ⟨.refl t, .refl t, fun _ _ => rfl⟩
  have hopened := s.ifOpened_undisturbed p n.begins Config.fetchCode
  exact ⟨hopened.settings.trans (hshift _).1, hopened.flags.trans (hshift _).2.1,
    fun q hq => ((hshift _).2.2 q hq).trans (s.ifOpened_port_ne hq _ _)⟩

end

/-! ### Every command -/

/-- The commands that can do more at the ports than answer a request and set flags. -/
def worksAtPorts : Instr → Bool
  | .send _ _ | .fetch _ _ | .readEvents _ | .setEvents | .restart _ | .resetLine | .powerOnReset => true
  | _ => false

theorem exec_undisturbed (c : Instr) (s t : State) (hexec : exec c s = .next t) (hc : worksAtPorts c = false) : s.Undisturbed t := by
  have idle (t : State) (_ : List Byte) : t.Raised t := .refl t
  have tick (lines : LiftLines) (due : Bool) : s.Undisturbed (if due then s.tickAll lines else s) := by
    split
    · exact .of_raised (by simp)
    · exact .refl s
  cases c with
  | send | fetch | readEvents | setEvents | restart | resetLine | powerOnReset => cases hc
  | status p code => cases hexec; exact (s.opened_undisturbed p code).trans (State.inProgress_undisturbed _ p none)
  | answeredFrame p => cases hexec; exact s.answerFrame_undisturbed p
  | present => cases hexec; exact State.grantTo_undisturbed fun t _ => .present (.refl t) _ _
  | passed => cases hexec; exact State.grantTo_undisturbed fun t => .passed (.refl t)
  | release => cases hexec; exact State.grantTo_undisturbed fun t => .release (.refl t)
  | laneReportJam => cases hexec; exact State.grantTo_undisturbed fun t => .jam (.refl t)
  | laneReportClear => cases hexec; exact State.grantTo_undisturbed fun t => .clearJam (.refl t)
  | laneReportQuery => cases hexec; exact State.grantTo_undisturbed idle
  | issue => cases hexec; exact State.grantTo_undisturbed fun t => .issue (.refl t)
  | reissue => cases hexec; exact State.grantTo_undisturbed fun t => .reissue (.refl t)
  | suspend => cases hexec; exact State.grantTo_undisturbed fun t => .suspend (.refl t)
  | resume => cases hexec; exact State.grantTo_undisturbed fun t => .resume (.refl t)
  | restore => cases hexec; exact State.grantTo_undisturbed fun t => .restore (.refl t)
  | addUse => cases hexec; exact State.grantTo_undisturbed fun t => .addUse (.refl t)
  | inquire => cases hexec; exact State.grantTo_undisturbed fun t => .inquire (.refl t)
  | refund => cases hexec; exact State.grantTo_undisturbed fun t => .refund (.refl t)
  | setLane => cases hexec; exact State.grantTo_undisturbed fun t => .setLaneRequest (.refl t)
  | loadProduct => cases hexec; exact State.serve_undisturbed fun t => .loadProduct (.refl t)
  | setResort => cases hexec; exact State.serve_undisturbed fun t => .setResort (.refl t)
  | setClock => cases hexec; exact State.serve_undisturbed fun t => .setClock (.refl t)
  | loadCalendarBase | loadCalendarRuns => cases hexec; exact State.serve_undisturbed fun t => .loadCalendar (.refl t)
  | setScheme => cases hexec; exact State.serve_undisturbed fun t => .setScheme (.refl t)
  | setLift => cases hexec; exact State.serve_undisturbed fun t => .setLiftRequest (.refl t)
  | setReport => cases hexec; exact State.serve_undisturbed fun t => .setReport (.refl t)
  | takeSnapshot => cases hexec; exact State.serve_undisturbed fun t _ => .takeSnapshot (.refl t)
  | readCounts => cases hexec; exact State.serve_undisturbed fun t => .readCounts (.refl t)
  | loadTariff => cases hexec; exact State.serve_undisturbed fun t => .loadTariff (.refl t)
  | setStorePolicy => cases hexec; exact State.serve_undisturbed fun t => .setStorePolicy (.refl t)
  | readClock | readLanes | readStore => cases hexec; exact State.serve_undisturbed idle
  | tick lines => cases hexec; exact .of_raised (by simp)
  | dayRollover lines | clockStall lines | holdDue lines | autoTransfer lines | sweepDeadlineReached lines => cases hexec; exact tick lines _
  | expiry =>
    cases hexec
    split
    · exact .of_raised (by simp)
    · exact .refl s
  | sweepBatch =>
    cases hexec
    split
    · exact .of_raised (by simp)
    · exact .refl s
  | resetLineInactive => cases hexec; exact .of_ports (by simp)

/-- Settles O3: a command that works at the ports, one by one; every other only answers requests and sets flags. -/
theorem portFrames : Obligations.PortFrames := by
  unfold Obligations.PortFrames
  refine ⟨⟨fun c s t p hexec hset hpower => ?_, fun c s t p e hexec hread hoffice hrestart hline hpower he => ?_⟩,
    fun c s t p hexec hsend hfetch hoffice hrestart hline hpower => ?_⟩
  · suffices s.SettingsKept t from this p
    cases hc : worksAtPorts c with
    | false => exact (exec_undisturbed c s t hexec hc).settings
    | true =>
      cases c with
      | send q bytes => cases hexec; exact s.send_settings q bytes
      | restart tag => cases hexec; exact s.send_settings .office _
      | fetch q n => cases hexec; exact (s.fetch_port q n).1
      | readEvents q => cases hexec; exact State.serve_settings fun t => t.readEvents_settings q
      | setEvents => exact absurd rfl hset
      | resetLine =>
        cases hexec
        split
        · exact .refl s
        · exact (State.SettingsKept.of_ports (by simp)).trans (State.warmReset_settings _)
      | powerOnReset => exact absurd rfl hpower
      | _ => cases hc
  · suffices s.FlagsKept t by
      simp only [PortRec.flagged, List.contains_iff_mem] at he ⊢
      exact this p e he
    cases hc : worksAtPorts c with
    | false => exact (exec_undisturbed c s t hexec hc).flags
    | true =>
      cases c with
      | send q bytes =>
        cases hexec
        cases q with
        | gate k => exact (s.send_gate_port k bytes).1
        | office => exact absurd rfl (hoffice bytes)
      | restart tag => exact absurd rfl (hrestart tag)
      | fetch q n => cases hexec; exact (s.fetch_port q n).2.1
      | readEvents q => exact absurd rfl (hread q)
      | setEvents => cases hexec; exact State.serve_flags State.setEvents_flags
      | resetLine => exact absurd rfl hline
      | powerOnReset => exact absurd rfl hpower
      | _ => cases hc
  · suffices (t.port p).frames = (s.port p).frames from this
    cases hc : worksAtPorts c with
    | false => exact (exec_undisturbed c s t hexec hc).frames p
    | true =>
      cases c with
      | send q bytes =>
        cases hexec
        cases q with
        | gate k => rw [(s.send_gate_port k bytes).2 p fun h => hsend bytes (h ▸ rfl)]
        | office => exact absurd rfl (hoffice bytes)
      | restart tag => exact absurd rfl (hrestart tag)
      | fetch q n => cases hexec; rw [(s.fetch_port q n).2.2 p fun h => hfetch n (h ▸ rfl)]
      | readEvents q => cases hexec; exact State.serve_frames (fun t => t.readEvents_queuesKept q) p
      | setEvents => cases hexec; exact State.serve_frames State.setEvents_queuesKept p
      | resetLine => exact absurd rfl hline
      | powerOnReset => exact absurd rfl hpower
      | _ => cases hc

end Sys2Proof.Machine

/-! SEND, FETCH, STATUS and the frames that a port serves itself (sections 10.1 to 10.3). -/

namespace Sys2Proof.Machine

/-! ### Taking a frame -/

section

variable {s : State} {p : Port} {f : Frame} {n : Nat}

theorem State.takeFrame_of_fails {c : Code} (h : checkFrame p f n = some c) : s.takeFrame p f n = s.enqueue p f (.answered c) := by
  simp [State.takeFrame, h]

theorem State.takeFrame_of_restart (h : checkFrame p f n = none) (hk : ReqKind.ofCode f.kind = some .restart) :
    s.takeFrame p f n = s.warmReset := by
  simp [State.takeFrame, h, hk]

/-- A frame that passes waits for the store with a fresh stamp, or for its port (R184, R185). -/
theorem State.takeFrame_of_passes {k : ReqKind} (h : checkFrame p f n = none) (hk : ReqKind.ofCode f.kind = some k) (hr : k ≠ .restart) :
    s.takeFrame p f n = if k.storeClass.isSome then
        (s.enqueue p f (.store s.arbiter.nextStamp)).withArbiter { s.arbiter with nextStamp := s.arbiter.nextStamp + 1 }
      else s.enqueue p f .served := by
  unfold State.takeFrame
  split
  next hc => exact absurd (hc.symm.trans h) (by simp)
  next _ hrestart => exact absurd (Option.some.inj (hk.symm.trans hrestart)) hr
  next k' _ _ hk' =>
    obtain rfl : k = k' := Option.some.inj (hk.symm.trans hk')
    rfl
  next _ hno => exact absurd (hk.symm.trans hno) (by simp)

/-- The frame of a SEND within 64 payload bytes; what follows is ignored (R183). -/
theorem sentFrame_of_whole {kind tag len : Byte} {payload : List Byte} (extra : List Byte) (hlen : len.toNat ≤ 64)
    (hpayload : payload.length = len.toNat) :
    sentFrame ([kind, tag, len] ++ payload ++ extra) = some ({ kind, tag, payload }, len.toNat) := by
  have hshort : ¬64 < payload.length := by omega
  simp [sentFrame, hshort, ← hpayload]

theorem sentFrame_of_long {kind tag len : Byte} {rest : List Byte} (hlen : 64 < len.toNat) :
    sentFrame (kind :: tag :: len :: rest) = some ({ kind, tag, payload := [] }, len.toNat) := by
  simp [sentFrame, hlen]

/-- When a frame is whole (R183). -/
theorem sentFrame_isSome {all : List Byte} : (sentFrame all).isSome = true ↔
    ∃ kind tag len rest, all = kind :: tag :: len :: rest ∧ (64 < len.toNat ∨ len.toNat ≤ rest.length) := by
  unfold sentFrame
  split
  next kind tag len rest =>
    simp only [List.cons.injEq, ↓existsAndEq, and_true, true_and]
    split
    · simp [*]
    · split <;> simp [*]
  next hno =>
    simp only [Option.isSome_none, Bool.false_eq_true, false_iff, not_exists]
    rintro kind tag len rest ⟨rfl, -⟩
    exact hno kind tag len rest rfl

/-! ### SEND -/

/-- What a SEND leaves at its port before it takes a frame: the transaction `x`, and the bytes shifted out so far. -/
def State.sent (s : State) (p : Port) (bytes : Piece (List Byte)) (x : Transaction) : State :=
  s.setPort p { s.port p with transaction := if bytes.ends then none else some x, dataOut := s.dataSoFar p bytes.begins }

theorem State.inProgress_sent {bytes : Piece (List Byte)} (x : Transaction) :
    (if bytes.begins then s.opened p Config.sendCode else s).inProgress p (x.after bytes.ends) = s.sent p bytes x := by
  cases h : bytes.begins <;> simp [State.inProgress_eq, State.opened_eq, State.sent, State.dataSoFar, Transaction.after, h]

theorem State.requestFree_eq_zero : s.requestFree p = 0 ↔ ¬s.canTake p := by
  unfold State.requestFree State.canTake
  split <;> simp_all
  omega

theorem State.canTake_congr {t : State} (hpins : t.pins = s.pins) (hqueue : (t.port p).requests = (s.port p).requests) :
    t.canTake p ↔ s.canTake p := by
  simp [State.canTake, hpins, hqueue]

/-- A SEND in progress, with what it has shifted in: the frame is taken once it is whole, where the port can take it (R183, R188). -/
theorem State.send_of_shiftedIn {bytes : Piece (List Byte)} {all : List Byte} (h : s.shiftedIn p bytes = some all) :
    (sentFrame all = none → s.send p bytes = s.sent p bytes (.sending all))
    ∧ ∀ f n, sentFrame all = some (f, n) →
      (¬s.canTake p → s.send p bytes = s.sent p bytes .over)
      ∧ (s.canTake p → s.send p bytes = (s.sent p bytes .over).takeFrame p f n) := by
  have hgot : ∃ got, ((if bytes.begins then s.opened p Config.sendCode else s).port p).transaction = some (.sending got)
      ∧ got ++ bytes.data = all := by
    cases hb : bytes.begins with
    | true => exact ⟨[], by simp [State.opening], by simpa [State.shiftedIn, hb] using h⟩
    | false =>
      simp only [State.shiftedIn, hb] at h
      split at h
      · cases ‹false = true›
      split at h
      next got hx => exact ⟨got, hx, by simpa using h⟩
      · cases h
  obtain ⟨got, hx, rfl⟩ := hgot
  have hcan : (if bytes.begins then s.opened p Config.sendCode else s).requestFree p = 0 ↔ ¬s.canTake p := by
    rw [State.requestFree_eq_zero, State.canTake_congr] <;> cases bytes.begins <;> simp [State.opened]
  refine ⟨fun hnone => ?_, fun f n hsome => ⟨fun hno => ?_, fun hyes => ?_⟩⟩
  · simp only [State.send, State.shiftIn, hx, hnone, State.inProgress_sent]
  · simp only [State.send, State.shiftIn, hx, hsome, State.inProgress_sent, if_pos (hcan.2 hno)]
  · have hfree := fun h0 => hcan.1 h0 hyes
    simp only [State.send, State.shiftIn, hx, hsome, State.inProgress_sent, if_neg hfree]

/-- With no SEND in progress a piece does nothing but end the transaction (log entry 11). -/
theorem State.send_of_not_shiftedIn {bytes : Piece (List Byte)} (h : s.shiftedIn p bytes = none) :
    s.send p bytes = if (s.port p).transaction = some .over then
      s.setPort p { s.port p with transaction := if bytes.ends then none else some .over } else s := by
  unfold State.shiftedIn at h
  split at h
  · cases h
  next hb =>
    unfold State.send State.shiftIn
    simp only [hb]
    cases hx : (s.port p).transaction with
    | none => simp [hx]
    | some x => cases x <;> simp_all [State.inProgress_eq, Transaction.after]

theorem State.sent_enqueue (bytes : Piece (List Byte)) (x : Transaction) (r : Role) :
    (s.sent p bytes x).enqueue p f r = s.setPort p { s.port p with
      requests := (s.port p).requests ++ [{ frame := f, role := r }]
      transaction := if bytes.ends then none else some x, dataOut := s.dataSoFar p bytes.begins } := by
  simp [State.enqueue, State.sent, State.modPort_setPort]

theorem State.canTake_not : ¬s.canTake p ↔ s.pins.resetActive = true ∨ Config.queuePlaces ≤ (s.port p).requests.length := by
  unfold State.canTake
  cases s.pins.resetActive <;> simp

/-- The port of a frame that has been taken. -/
theorem State.setPort_at (s : State) (p : Port) (r : PortRec) :
    (s.setPort p r).port p = r ∧ ∀ q, q ≠ p → (s.setPort p r).port q = s.port q :=
  ⟨by simp, fun q hq => by simp [hq]⟩

end

/-- Settles O4: the SEND in progress takes its frame by `State.takeFrame`, whose cases are those of the checks. -/
theorem sendTakesAFrame : Obligations.SendTakesAFrame := by
  unfold Obligations.SendTakesAFrame
  refine ⟨fun p kind tag len payload extra bytes s role hcan hin hlen hpayload hrole => ?_,
    fun p kind tag len rest bytes s hcan hin hlen => ?_, fun p bytes s hin => ?_, fun p all bytes s hin => ⟨fun hno => ?_, fun hyes hbusy => ?_⟩⟩
  · have hwrite (r : PortRec) (a : Arbiter) : onlyChanges [portPart p, .arbiter] s ((s.setPort p r).withArbiter a) :=
      (s.setPort_onlyChanges p r (by simp)).trans (by simp [onlyChanges_iff])
    have hsend := ((State.send_of_shiftedIn hin).2 _ _ (sentFrame_of_whole extra hlen hpayload)).2 hcan
    refine ⟨_, rfl, ?_⟩
    rw [hsend]
    rcases hrole with ⟨c, hfails, rfl⟩ | ⟨hpasses, k, hkind, hrestart, rfl⟩
    · rw [State.takeFrame_of_fails hfails, State.sent_enqueue]
      refine ⟨(s.setPort_at _ _).1, (s.setPort_at _ _).2, by simp, s.setPort_onlyChanges p _ (by simp)⟩
    · rw [State.takeFrame_of_passes hpasses hkind hrestart]
      have harbiter : (s.sent p bytes .over).arbiter = s.arbiter := by simp [State.sent]
      rw [harbiter]
      split
      · rw [State.sent_enqueue]
        refine ⟨?_, fun q hq => ?_, by simp, hwrite _ _⟩
        · rw [State.withArbiter_same_port]; exact (s.setPort_at _ _).1
        · rw [State.withArbiter_same_port]; exact (s.setPort_at _ _).2 q hq
      · rw [State.sent_enqueue]
        refine ⟨(s.setPort_at _ _).1, (s.setPort_at _ _).2, by simp, s.setPort_onlyChanges p _ (by simp)⟩
  · have hsend := ((State.send_of_shiftedIn hin).2 _ _ (sentFrame_of_long hlen)).2 hcan
    refine ⟨_, rfl, ?_⟩
    have hfails : checkFrame p { kind, tag, payload := [] } len.toNat = some (match ReqKind.ofCode kind with
        | none => .unknownRequest
        | some k => if k.permitted p then .badLength else .notPermitted) := by
      cases hkind : ReqKind.ofCode kind with
      | none => exact checkFrame_of_unknown hkind
      | some k =>
        have hlength : k.lengthOk p len.toNat [] = false := Bool.eq_false_iff.2 fun h => by
          have := ReqKind.listedLength_le (ReqKind.listedLength_of_lengthOk h)
          omega
        rw [checkFrame_of_kind hkind]
        cases hpermitted : k.permitted p <;> simp [hlength, hpermitted]
    rw [hsend, State.takeFrame_of_fails hfails, State.sent_enqueue]
    exact ⟨(s.setPort_at _ _).1, (s.setPort_at _ _).2, s.setPort_onlyChanges p _ (by simp)⟩
  · exact congrArg Host.Outcome.next (State.send_of_not_shiftedIn hin)
  · have hnone : sentFrame all = none := Option.not_isSome_iff_eq_none.1 fun h => hno (sentFrame_isSome.1 h)
    exact congrArg Host.Outcome.next ((State.send_of_shiftedIn hin).1 hnone)
  · obtain ⟨⟨f, n⟩, hsome⟩ := Option.isSome_iff_exists.1 (sentFrame_isSome.2 hyes)
    exact congrArg Host.Outcome.next (((State.send_of_shiftedIn hin).2 f n hsome).1 (State.canTake_not.2 hbusy))

/-! ### The status byte -/

/-- The fields of the status byte (R197). -/
theorem State.statusByte_toNat (s : State) (p : Port) :
    (s.statusByte p).toNat = 128 * (s.port p).attention.toNat + 64 * (s.port p).restarted.toNat + 8 * min 7 (s.requestFree p)
      + min 7 (s.port p).responses.length := by
  rw [State.statusByte, byteOf_toNat]
  cases (s.port p).attention <;> cases (s.port p).restarted <;> simp [bitAt] <;> omega

theorem State.statusByte_fields (s : State) (p : Port) :
    (s.statusByte p).getLsbD 7 = (s.port p).attention ∧ (s.statusByte p).getLsbD 6 = (s.port p).restarted
    ∧ (s.statusByte p).toNat / 8 % 8 = min 7 (s.requestFree p) ∧ (s.statusByte p).toNat % 8 = min 7 (s.port p).responses.length := by
  have h := s.statusByte_toNat p
  have hbit (i : Nat) : (s.statusByte p).getLsbD i = decide ((s.statusByte p).toNat / 2 ^ i % 2 = 1) := by
    rw [BitVec.getLsbD, Nat.testBit_eq_decide_div_mod_eq]
  refine ⟨?_, ?_, by omega, by omega⟩
  · rw [hbit, h]
    cases (s.port p).attention <;> cases (s.port p).restarted <;> simp <;> omega
  · rw [hbit, h]
    cases (s.port p).attention <;> cases (s.port p).restarted <;> simp <;> omega

/-! ### FETCH and STATUS -/

section

variable {s : State} {p : Port}

theorem State.opening_cases (s : State) (p : Port) (code : Byte) :
    (s.opening p code = .sending [] ↔ code = 1) ∧ ((∃ left response, s.opening p code = .fetching left response) ↔ code = 2)
    ∧ (s.opening p code = .over ↔ code ≠ 1 ∧ code ≠ 2) := by
  unfold State.opening
  split
  next h => subst h; simp
  next h1 =>
    split
    next h => subst h; simp
    next h2 => simp_all

/-- A FETCH that begins while nothing can be delivered shifts out the empty frame (R187, R188). -/
theorem State.fetch_empty (n : Nat) (ends : Bool) (h : s.pins.resetActive = true ∨ (s.port p).responses = []) :
    s.fetch p ⟨n, true, ends⟩ = s.setPort p { s.port p with
      transaction := if ends then none else some (.fetching (([0, 0, 0] : List Byte).drop n) false)
      dataOut := s.statusByte p :: ([0, 0, 0] : List Byte).take n } := by
  have hnone : (if s.pins.resetActive then none else (s.port p).responses.head?) = none := by
    rcases h with h | h <;> simp [h]
  rw [State.fetch_begins, hnone]
  simp [Transaction.after, emptyFrame, Frame.bytes, byteOf]

/-- A FETCH that begins while a response waits shifts out its bytes; with the last of them it leaves (R187). -/
theorem State.fetch_oldest {f : Frame} {rest : List Frame} (n : Nat) (ends : Bool) (hline : s.pins.resetActive = false)
    (hqueue : (s.port p).responses = f :: rest) :
    s.fetch p ⟨n, true, ends⟩ = s.setPort p { s.port p with
      responses := if f.bytes.length ≤ n then rest else f :: rest
      transaction := if ends then none else some (.fetching (f.bytes.drop n) (!decide (f.bytes.length ≤ n)))
      dataOut := s.statusByte p :: f.bytes.take n } := by
  rw [State.fetch_begins]
  simp [hline, hqueue, Transaction.after]

theorem Frame.bytes_length (f : Frame) : f.bytes.length = 3 + f.payload.length := by
  simp [Frame.bytes]
  omega

end

/-- Settles O6: a transaction that begins settles what it shifts out (`State.fetch_begins`); a later command goes on. -/
theorem fetchAndStatus : Obligations.FetchAndStatus := by
  unfold Obligations.FetchAndStatus
  refine ⟨fun p n ends s => ⟨fun f rest hline hqueue hn => ?_, fun f rest hline hqueue hn => ?_, fun hnone => ?_,
    fun left response hx => ?_, fun hno => ?_⟩, fun p code s => ⟨?_, ?_⟩, fun p code s => ?_⟩
  · have hlast : f.bytes.length ≤ n := by rw [Frame.bytes_length]; exact hn
    refine congrArg Host.Outcome.next ((State.fetch_oldest n ends hline hqueue).trans ?_)
    rw [if_pos hlast, List.drop_eq_nil_of_le hlast, List.take_of_length_le hlast, decide_eq_true hlast]
    rfl
  · have hnot : ¬f.bytes.length ≤ n := by rw [Frame.bytes_length]; omega
    refine congrArg Host.Outcome.next ((State.fetch_oldest n ends hline hqueue).trans ?_)
    rw [if_neg hnot, ← hqueue, decide_eq_false hnot]
    rfl
  · exact congrArg Host.Outcome.next (State.fetch_empty n ends hnone)
  · refine congrArg Host.Outcome.next ((State.shiftOut_fetching hx n ends).trans ?_)
    have hmore : decide (n < left.length) = !decide (left.length ≤ n) := by rw [← decide_not, decide_eq_decide]; omega
    rw [hmore]
    by_cases hlast : left.length ≤ n <;> cases response <;> simp [hlast, Transaction.after]
  · refine congrArg Host.Outcome.next ?_
    rw [State.fetch, if_neg Bool.false_ne_true]
    unfold State.shiftOut
    split
    · exact absurd ‹_› (hno _ _)
    · rfl
  · refine congrArg Host.Outcome.next ?_
    simp [State.opened_eq, State.inProgress_eq]
  · exact s.statusByte_fields p
  · exact ⟨(s.opening_cases p code).1, (s.opening_cases p code).2.1, (s.opening_cases p code).2.2, fun _ => rfl, fun _ => rfl⟩

/-! ### Frames that a port serves itself -/

/-- Settles O7: the oldest port-served frame stands behind requests of the store alone (`oldestServed_eq_some`). -/
theorem portServedFramesInOrder : Obligations.PortServedFramesInOrder := by
  unfold Obligations.PortServedFramesInOrder
  refine ⟨fun p s older younger f c hqueue holder hroom => ?_, fun s p k i f => ?_⟩
  · have hnext : s.nextServed p = some (older.length, { frame := f, role := .answered c }) :=
      State.nextServed_eq_some.2 ⟨hroom, oldestServed_eq_some.2 ⟨by simp, older, younger, hqueue, by simp, holder⟩⟩
    refine congrArg Host.Outcome.next ?_
    simp only [State.answerFrame, hnext, State.complete, State.modPort, hqueue]
    rw [List.eraseIdx_append_of_length_le (Nat.le_refl _), Nat.sub_self, List.eraseIdx_cons_zero]
    rfl
  · rw [State.serves, State.servable_eq_some, isKind_iff]

end Sys2Proof.Machine

/-! The event unit: what sets a flag, the attention line, and READ_EVENTS and SET_EVENTS (sections 10.5 and 10.6). -/

namespace Sys2Proof.Machine

/-! ### Bits in a byte -/

/-- The number whose bits, from bit 0 on, are those of a list. -/
def bitsOf : List Bool → Nat
  | [] => 0
  | b :: bs => b.toNat + 2 * bitsOf bs

theorem bitsOf_lt (bs : List Bool) : bitsOf bs < 2 ^ bs.length := by
  induction bs with
  | nil => simp [bitsOf]
  | cons b bs ih =>
    have := b.toNat_lt
    simp only [bitsOf, List.length_cons, Nat.pow_succ]
    omega

theorem bitsOf_append (as bs : List Bool) : bitsOf (as ++ bs) = bitsOf as + 2 ^ as.length * bitsOf bs := by
  induction as with
  | nil => simp [bitsOf]
  | cons a as ih => simp only [List.cons_append, bitsOf, ih, List.length_cons, Nat.pow_succ]; ring

/-- A bit below those of what stands above. -/
theorem testBit_bitsOf_add {bs : List Bool} {i : Nat} (h : i < bs.length) (m : Nat) :
    (bitsOf bs + 2 ^ bs.length * m).testBit i = bs.getD i false := by
  induction bs generalizing i with
  | nil => simp at h
  | cons b bs ih =>
    have hsplit : bitsOf (b :: bs) + 2 ^ (b :: bs).length * m = b.toNat + 2 * (bitsOf bs + 2 ^ bs.length * m) := by
      simp only [bitsOf, List.length_cons, Nat.pow_succ]; ring
    have hlt := b.toNat_lt
    rw [hsplit]
    cases i with
    | zero => cases b <;> simp [Nat.testBit_zero]
    | succ i =>
      rw [Nat.testBit_succ, show (b.toNat + 2 * (bitsOf bs + 2 ^ bs.length * m)) / 2 = bitsOf bs + 2 ^ bs.length * m by omega]
      rw [ih (by simpa using h)]
      rfl

theorem testBit_bitsOf {bs : List Bool} {i : Nat} (h : i < bs.length) : (bitsOf bs).testBit i = bs.getD i false := by
  simpa using testBit_bitsOf_add h 0

theorem bitAt_eq (n : Nat) (b : Bool) : bitAt n b = 2 ^ n * b.toNat := by cases b <;> simp [bitAt]

/-- A bit of a byte. -/
theorem testBit_byteOf (n : Nat) {i : Nat} (h : i < 8) : (byteOf n).toNat.testBit i = n.testBit i := by
  rw [byteOf_toNat, show (256 : Nat) = 2 ^ 8 from rfl, Nat.testBit_mod_two_pow]
  simp [h]

/-- A bit of a byte that carries a list of them. -/
theorem testBit_byteOf_bitsOf {bs : List Bool} {i : Nat} (h : i < bs.length) (h8 : i < 8) :
    (byteOf (bitsOf bs)).toNat.testBit i = bs.getD i false := by
  rw [testBit_byteOf _ h8, testBit_bitsOf h]

/-! ### Flags -/

theorem PortRec.flagged_iff {r : PortRec} {e : Event} : r.flagged e = true ↔ e ∈ r.flags := by simp [PortRec.flagged]

theorem PortRec.withFlag_flagged (r : PortRec) (e x : Event) : (r.withFlag e).flagged x = (x == e || r.flagged x) := by
  simp only [PortRec.flagged, PortRec.withFlag_fields, setFlag_contains]

theorem PortRec.read_flagged (r : PortRec) (carried : List Event) (e : Event) :
    (r.read carried).flagged e = (r.flagged e && !carried.contains e) := by
  rw [Bool.eq_iff_iff]
  simp [PortRec.read, PortRec.flagged]

/-- An event unit's work changes nothing at a port but its flags. -/
theorem PortRec.withFlag_rest (r : PortRec) (e : Event) :
    (r.withFlag e).requests = r.requests ∧ (r.withFlag e).responses = r.responses ∧ (r.withFlag e).masks = r.masks
      ∧ (r.withFlag e).edges = r.edges ∧ (r.withFlag e).restarted = r.restarted ∧ (r.withFlag e).transaction = r.transaction
      ∧ (r.withFlag e).dataOut = r.dataOut := ⟨rfl, rfl, rfl, rfl, rfl, rfl, rfl⟩

theorem State.raise_flagged (s : State) (e x : Event) (p : Port) :
    ((s.raise e).port p).flagged x = ((s.port p).flagged x || (x == e && (s.reached e).contains p)) := by
  rw [State.raise_port]
  split
  next h => rw [PortRec.withFlag_flagged, List.contains_iff_mem.2 h, Bool.and_true, Bool.or_comm]
  next h => rw [show (s.reached e).contains p = false by simpa using h]; simp

theorem Edge.rise_takes (before after : Bool) : Edge.rise.takes before after = (!before && after) :=
  Bool.or_false _

theorem Edge.any_takes (before after : Bool) : Edge.any.takes before after = true :=
  Bool.or_true _

theorem State.handLevel_flagged (s : State) (e x : Event) (before after : Bool) (p : Port) :
    ((s.handLevel e before after).port p).flagged x
      = ((s.port p).flagged x || (x == e && (s.reached e).contains p && ((s.port p).edges.of e).takes before after)) := by
  rw [State.handLevel_port]
  split
  next h =>
    rw [PortRec.withFlag_flagged, List.contains_iff_mem.2 h.1, h.2, Bool.and_true, Bool.and_true, Bool.or_comm]
  next h =>
    have hnot : ((s.reached e).contains p && ((s.port p).edges.of e).takes before after) = false := by
      rw [Bool.eq_false_iff]
      simpa only [ne_eq, Bool.and_eq_true, List.contains_iff_mem] using h
    rw [Bool.and_assoc, hnot]
    simp

/-- The ports that a lane's event reaches (R189). -/
theorem mem_laneReached {p : Port} {l : Lane} : p ∈ [gateOf l, Port.office] ↔
    p = .office ∨ ∃ k : Fin 4, p = .gate k ∧ (l.val = 2 * k.val ∨ l.val = 2 * k.val + 1) := by
  simp only [List.mem_cons, List.not_mem_nil, or_false, or_comm (a := p = gateOf l)]
  refine or_congr_right ⟨fun h => ⟨⟨l.val / 2, by omega⟩, h, by simp only; omega⟩, ?_⟩
  rintro ⟨k, rfl, hl⟩
  exact congrArg Port.gate (Fin.ext (by simp only; omega))

theorem State.gateServes_iff {s : State} {k : Fin 4} {f : Lift} :
    s.gateServes k f = true ↔ ∃ l : Lane, (l.val = 2 * k.val ∨ l.val = 2 * k.val + 1) ∧ s.liftOf l = f := by
  simp only [State.gateServes, Bool.or_eq_true, beq_iff_eq]
  constructor
  · rintro (h | h)
    · exact ⟨evenLane k, .inl rfl, h⟩
    · exact ⟨oddLane k, .inr rfl, h⟩
  · rintro ⟨l, hl | hl, h⟩
    · obtain rfl : l = evenLane k := Fin.ext hl
      exact .inl h
    · obtain rfl : l = oddLane k := Fin.ext hl
      exact .inr h

theorem State.mem_liftReached {s : State} {p : Port} {f : Lift} : p ∈ s.reached (.liftState f) ↔
    p = .office ∨ ∃ k : Fin 4, p = .gate k ∧ s.gateServes k f = true := by
  have hall (k : Fin 4) : k ∈ ([0, 1, 2, 3] : List (Fin 4)) := by fin_cases k <;> simp
  simp only [State.reached, List.mem_append, List.mem_map, List.mem_filter, List.mem_singleton, or_comm (b := p = .office), hall,
    true_and, eq_comm (a := Port.gate _), and_comm (a := s.gateServes _ f = true)]

/-- Settles O10: a flag is set by `PortRec.withFlag` at each port reached, in the table order of the kinds. -/
theorem eventsSetFlagsAtThePortsTheyReach : Obligations.EventsSetFlagsAtThePortsTheyReach := by
  unfold Obligations.EventsSetFlagsAtThePortsTheyReach
  refine ⟨fun s e x p before after => ⟨s.raise_flagged e x p, ?_, fun t ht => ?_⟩,
    fun r kind hlane hlift h5 h6 h7 h8 h9 h10 h11 h12 h13 h14 => ?_, fun s p => ⟨fun l e he => ?_, fun f => ?_, fun d => ?_⟩⟩
  · rw [State.handLevel_flagged]
    cases (s.port p).edges.of e
    · simp [Edge.rise_takes]
    · simp [Edge.any_takes]
  · simp only [List.mem_cons, List.not_mem_nil, or_false] at ht
    rcases ht with rfl | rfl
    · rw [State.raise_port]
      split
      · exact PortRec.withFlag_rest _ e
      · exact ⟨rfl, rfl, rfl, rfl, rfl, rfl, rfl⟩
    · rw [State.handLevel_port]
      split
      · exact PortRec.withFlag_rest _ e
      · exact ⟨rfl, rfl, rfl, rfl, rfl, rfl, rfl⟩
  · have hkind (e : Event) : kind e = e.kindIndex := by
      cases e with
      | laneState l => exact (hlane l).1
      | readerSuspect l => exact (hlane l).2.1
      | holdExpired l => exact (hlane l).2.2.1
      | tailgate l => exact (hlane l).2.2.2
      | liftState f => exact hlift f
      | device d => cases d <;> assumption
    simp [PortRec.attention, PortRec.masked, PortRec.flagged, hkind]
  · simp only [List.mem_cons, List.not_mem_nil, or_false] at he
    rcases he with rfl | rfl | rfl | rfl <;> exact mem_laneReached
  · simp only [State.mem_liftReached, State.gateServes_iff]
  · simp

/-! ### READ_EVENTS -/

/-- Served: the block evaluates the request, and the port completes it (R185). -/
theorem State.serves_serve {s : State} {p : Port} {k : ReqKind} {i : Nat} {f : Frame} (h : s.serves p k i f)
    (eval : State → List Byte → State × List Byte) :
    s.serve p (isKind k) eval = (eval s f.payload).1.complete p i f (eval s f.payload).2 := State.serve_of_servable h eval

/-- A block that leaves the queues leaves the completion of its request alone (R186). -/
theorem State.QueuesKept.answers {s t : State} (h : s.QueuesKept t) (p : Port) (i : Nat) (f : Frame) (bs : List Byte) :
    s.Answers (t.complete p i f bs) p i f bs := by
  refine ⟨?_, ?_, fun q hq => ?_⟩
  · rw [State.complete_port, if_pos rfl, (h.ports p).requests]
  · rw [State.complete_port, if_pos rfl, (h.ports p).responses]
  · rw [State.complete_port, if_neg hq]
    exact ⟨(h.ports q).requests, (h.ports q).responses⟩

theorem PortRec.laneNibble_eq (r : PortRec) (l : Lane) : r.laneNibble l = bitsOf ((laneEvents l).map r.flagged) := by
  simp only [PortRec.laneNibble, bitAt_eq, laneEvents, List.map_cons, List.map_nil, bitsOf]
  omega

theorem PortRec.liftNibble_eq (r : PortRec) : r.liftNibble = bitsOf (allLifts.map fun f => r.flagged (.liftState f)) := by
  simp only [PortRec.liftNibble, bitAt_eq, allLifts, List.map_cons, List.map_nil, bitsOf, List.sum_cons, List.sum_nil]
  simp only [Fin.val_zero, Fin.val_one, Fin.val_two, show (3 : Fin 4).val = 3 from rfl]
  omega

theorem State.liftConditions_eq (s : State) : s.liftConditions = bitsOf (allLifts.map fun f => (s.lift f).stateCondition) := by
  simp only [State.liftConditions, bitAt_eq, allLifts, List.map_cons, List.map_nil, bitsOf, List.sum_cons, List.sum_nil]
  simp only [Fin.val_zero, Fin.val_one, Fin.val_two, show (3 : Fin 4).val = 3 from rfl]
  omega

theorem State.gateEventsReply_eq (s : State) (k : Fin 4) : s.gateEventsReply k =
    [0, byteOf (bitsOf ((laneEvents (evenLane k) ++ laneEvents (oddLane k)).map (s.port (.gate k)).flagged)),
      byteOf (bitsOf ((allLifts.map fun f => (s.port (.gate k)).flagged (.liftState f))
        ++ [false, false, false, (s.port (.gate k)).restarted])),
      byteOf (bitsOf ([(s.lane (evenLane k)).stateCondition, (s.lane (oddLane k)).stateCondition, (s.lane (evenLane k)).suspect,
        (s.lane (oddLane k)).suspect] ++ allLifts.map fun f => (s.lift f).stateCondition))] := by
  have hok : Code.ok.byte = 0 := rfl
  have hlanes (r : PortRec) : r.laneNibble (evenLane k) + 16 * r.laneNibble (oddLane k)
      = bitsOf ((laneEvents (evenLane k) ++ laneEvents (oddLane k)).map r.flagged) := by
    rw [List.map_append, bitsOf_append, PortRec.laneNibble_eq, PortRec.laneNibble_eq]
    rfl
  have hlifts (r : PortRec) : r.liftNibble + bitAt 7 r.restarted
      = bitsOf ((allLifts.map fun f => r.flagged (.liftState f)) ++ [false, false, false, r.restarted]) := by
    rw [bitsOf_append, PortRec.liftNibble_eq, bitAt_eq]
    simp [bitsOf, allLifts]
    omega
  have hconditions (a b c d : Bool) : bitAt 0 a + bitAt 1 b + bitAt 2 c + bitAt 3 d + 16 * s.liftConditions
      = bitsOf ([a, b, c, d] ++ allLifts.map fun f => (s.lift f).stateCondition) := by
    simp only [bitsOf_append, State.liftConditions_eq, bitAt_eq, bitsOf, List.length_cons, List.length_nil]
    omega
  rw [← hlanes, ← hlifts, ← hconditions, ← hok]
  rfl

end Sys2Proof.Machine

/-! READ_EVENTS and SET_EVENTS (section 10.6). -/

namespace Sys2Proof.Machine

/-! ### Bits of the office's response -/

theorem bitsOf_summary (f : Lane → Bool) : (allLanes.map fun l => bitAt l.val (f l)).sum = bitsOf (allLanes.map f) := by
  simp only [bitAt_eq, allLanes, List.map_cons, List.map_nil, bitsOf, List.sum_cons, List.sum_nil]
  simp only [show (3 : Fin 8).val = 3 from rfl, show (4 : Fin 8).val = 4 from rfl, show (5 : Fin 8).val = 5 from rfl,
    show (6 : Fin 8).val = 6 from rfl, show (7 : Fin 8).val = 7 from rfl, Fin.val_zero, Fin.val_one, Fin.val_two]
  omega

theorem PortRec.deviceFlags_eq (r : PortRec) : r.deviceFlags = bitsOf (deviceEvents.map fun d => r.flagged (.device d)) := by
  simp only [PortRec.deviceFlags, bitAt_eq, deviceEvents, DeviceEvent.index, List.map_cons, List.map_nil, bitsOf, List.sum_cons,
    List.sum_nil]
  omega

/-- The flags of the selected lane, or none with NONE. -/
def State.chosenFlags (s : State) (sel : Nat) : List Bool :=
  if sel < 8 then (laneEvents (Fin.ofNat 8 sel)).map s.office.flagged else [false, false, false, false]

theorem State.chosenFlags_length (s : State) (sel : Nat) : (s.chosenFlags sel).length = 4 := by
  unfold State.chosenFlags
  split <;> rfl

/-- The office's response to a READ_EVENTS as lists of bits (R201). -/
theorem State.officeEventsReply_eq (s : State) (sel : Nat) : s.officeEventsReply sel =
    [0] ++ bytesOf 2 (bitsOf ((deviceEvents.map fun d => s.office.flagged (.device d))
        ++ (allLifts.map fun f => s.office.flagged (.liftState f)) ++ [false, s.office.restarted]))
      ++ [byteOf (bitsOf (allLanes.map s.summaryHas)), byteOf (bitsOf (s.chosenFlags sel) + 16 * sel),
        byteOf (bitsOf ([s.history.full, s.tableLow] ++ (allLifts.map fun f => (s.lift f).stateCondition)
          ++ [decide (sel < 8) && (s.lane (Fin.ofNat 8 sel)).stateCondition,
              decide (sel < 8) && (s.lane (Fin.ofNat 8 sel)).suspect]))] := by
  have hflags (r : PortRec) : r.deviceFlags + 1024 * r.liftNibble + bitAt 15 r.restarted
      = bitsOf ((deviceEvents.map fun d => r.flagged (.device d)) ++ (allLifts.map fun f => r.flagged (.liftState f))
        ++ [false, r.restarted]) := by
    rw [bitsOf_append, bitsOf_append, PortRec.deviceFlags_eq, PortRec.liftNibble_eq, bitAt_eq]
    simp [bitsOf, allLifts, deviceEvents]
    omega
  have hchosen : (if sel < 8 then s.office.laneNibble (Fin.ofNat 8 sel) else 0) = bitsOf (s.chosenFlags sel) := by
    unfold State.chosenFlags
    split
    · exact PortRec.laneNibble_eq _ _
    · rfl
  have hconditions (a b c d : Bool) : bitAt 0 a + bitAt 1 b + 4 * s.liftConditions + bitAt 6 c + bitAt 7 d
      = bitsOf ([a, b] ++ (allLifts.map fun f => (s.lift f).stateCondition) ++ [c, d]) := by
    simp only [bitsOf_append, State.liftConditions_eq, bitAt_eq, bitsOf, List.length_cons, List.length_nil, List.length_append,
      List.length_map, allLifts]
    omega
  rw [← hflags, ← hchosen, ← hconditions, ← bitsOf_summary]
  simp only [State.officeEventsReply, State.summaryByte]
  rfl

theorem testBit_fieldAt_bytesOf {bs : List Bool} (hlen : bs.length = 16) {i : Nat} (h : i < 16) :
    (fieldAt 0 2 (bytesOf 2 (bitsOf bs))).testBit i = bs.getD i false := by
  have hlt := bitsOf_lt bs
  rw [fieldAt_bytesOf, Nat.mod_eq_of_lt (by rw [hlen] at hlt; exact hlt), testBit_bitsOf (by omega)]

/-! ### What the office's READ_EVENTS clears -/

theorem officeCarried_device (sel : Nat) (d : DeviceEvent) : (officeCarried sel).contains (.device d) = true := by
  cases d <;> simp [officeCarried, deviceEvents]

theorem officeCarried_lift (sel : Nat) (f : Lift) : (officeCarried sel).contains (.liftState f) = true := by
  fin_cases f <;> simp [officeCarried, allLifts]

theorem mem_laneEvents_iff {l m : Lane} {e : Event} (he : e ∈ laneEvents l) : e ∈ laneEvents m ↔ l = m := by
  simp only [laneEvents, List.mem_cons, List.not_mem_nil, or_false] at he
  rcases he with rfl | rfl | rfl | rfl <;> simp [laneEvents]

theorem officeCarried_lane {sel : Nat} {l : Lane} {e : Event} (he : e ∈ laneEvents l) :
    (officeCarried sel).contains e = (sel == l.val) := by
  have hother : e ∉ allLifts.map Event.liftState ++ deviceEvents.map Event.device := by
    simp only [laneEvents, List.mem_cons, List.not_mem_nil, or_false] at he
    rcases he with rfl | rfl | rfl | rfl <;> simp
  rw [Bool.eq_iff_iff, List.contains_iff_mem, beq_iff_eq, officeCarried, List.append_assoc, List.mem_append, or_iff_left hother]
  split
  next h =>
    rw [mem_laneEvents_iff he, Fin.ext_iff]
    simp only [Fin.val_ofNat, Nat.mod_eq_of_lt h, eq_comm]
  · simp only [List.not_mem_nil, false_iff]
    omega

/-! ### The statement -/

theorem State.readGateEvents_port (s : State) (k : Fin 4) (i : Nat) (f : Frame) (bs : List Byte) (q : Port) :
    ((s.modPort (.gate k) fun r => r.read (gateCarried k)).complete (.gate k) i f bs).port q
      = if q = .gate k then
          { (s.port (.gate k)).read (gateCarried k) with
            requests := (s.port (.gate k)).requests.eraseIdx i
            responses := (s.port (.gate k)).responses ++ [{ kind := f.kind, tag := f.tag, payload := bs }] }
        else s.port q := by
  rw [State.complete_port]
  split <;> simp [*, PortRec.read]

theorem readGateEvents_spec {s : State} {k : Fin 4} {i : Nat} {f : Frame} (hserves : s.serves (.gate k) .readEvents i f) :
    exec (.readEvents (.gate k)) s
      = .next ((s.modPort (.gate k) fun r => r.read (gateCarried k)).complete (.gate k) i f (s.gateEventsReply k)) :=
  congrArg Host.Outcome.next (State.serves_serve hserves _)

/-- Settles O11: the responses as lists of bits, and `PortRec.read` for what is cleared. -/
theorem readEventsReturnsAndClears : Obligations.ReadEventsReturnsAndClears := by
  unfold Obligations.ReadEventsReturnsAndClears
  refine ⟨fun s k i f hserves => ?_, fun s i f hserves hsel => ?_, fun s i f hserves hsel => ?_⟩
  · refine ⟨_, _, readGateEvents_spec hserves,
      (s.readEvents_queuesKept (.gate k) []).answers _ i f _, ?_⟩
    rw [State.gateEventsReply_eq]
    simp only [byteAt_cons_zero, byteAt_cons_succ, State.readGateEvents_port, if_true]
    refine ⟨rfl, rfl, fun j => ?_, fun j => ?_, fun n => ?_, ?_, ?_, ?_, ?_, ?_, fun n => ?_, rfl, fun e => ?_, rfl, rfl,
      fun q hq => if_neg hq, ?_⟩
    · rw [testBit_byteOf_bitsOf (by simp [laneEvents]; omega) (by omega)]
      fin_cases j <;> simp [laneEvents]
    · rw [testBit_byteOf_bitsOf (by simp [laneEvents]; omega) (by omega)]
      fin_cases j <;> simp [laneEvents]
    · rw [testBit_byteOf_bitsOf (by simp [allLifts]; omega) (by omega)]
      fin_cases n <;> simp [allLifts]
    · rw [testBit_byteOf_bitsOf (by simp [allLifts]) (by omega)]; rfl
    · rw [testBit_byteOf_bitsOf (by simp [allLifts]) (by omega)]; rfl
    · rw [testBit_byteOf_bitsOf (by simp [allLifts]) (by omega)]; rfl
    · rw [testBit_byteOf_bitsOf (by simp [allLifts]) (by omega)]; rfl
    · rw [testBit_byteOf_bitsOf (by simp [allLifts]) (by omega)]; rfl
    · rw [testBit_byteOf_bitsOf (by simp [allLifts]; omega) (by omega)]
      fin_cases n <;> simp [allLifts]
    · exact PortRec.read_flagged _ _ e
    · exact (State.modPort_onlyChanges (by simp [portPart])).trans (State.modPort_onlyChanges (by simp [portPart]))
  · have hread : (s.readEvents .office f.payload)
        = (s.modPort .office fun r => r.read (officeCarried (byteAt 0 f.payload)), s.officeEventsReply (byteAt 0 f.payload)) := by
      simp only [State.readEvents, State.readOfficeEvents]
      rw [if_neg (by omega)]
    refine ⟨_, _, congrArg Host.Outcome.next (State.serves_serve hserves _),
      (s.readEvents_queuesKept .office f.payload).answers _ i f _, ?_⟩
    rw [hread, State.officeEventsReply_eq]
    dsimp only
    have hport (bs : List Byte) : ((s.modPort .office fun r => r.read (officeCarried (byteAt 0 f.payload))).complete .office i f bs).office
        = { s.office.read (officeCarried (byteAt 0 f.payload)) with
            requests := s.office.requests.eraseIdx i
            responses := s.office.responses ++ [{ kind := f.kind, tag := f.tag, payload := bs }] } := rfl
    have hflagged (bs : List Byte) (e : Event) :
        ((s.modPort .office fun r => r.read (officeCarried (byteAt 0 f.payload))).complete .office i f bs).office.flagged e
          = (s.office.flagged e && !(officeCarried (byteAt 0 f.payload)).contains e) := PortRec.read_flagged _ _ e
    have hbits {bs : List Bool} (hlen : bs.length = 16) (rest : List Byte) {j : Nat} (hj : j < 16) :
        (fieldAt 1 2 ([0] ++ bytesOf 2 (bitsOf bs) ++ rest)).testBit j = bs.getD j false := by
      rw [List.append_assoc, List.singleton_append, fieldAt_cons_succ, fieldAt_append_of_lt (by simp), testBit_fieldAt_bytesOf hlen hj]
    have htail (n : Nat) (b3 b4 b5 : Byte) : byteAt 3 ([0] ++ bytesOf 2 n ++ [b3, b4, b5]) = b3.toNat
        ∧ byteAt 4 ([0] ++ bytesOf 2 n ++ [b3, b4, b5]) = b4.toNat ∧ byteAt 5 ([0] ++ bytesOf 2 n ++ [b3, b4, b5]) = b5.toNat :=
      ⟨rfl, rfl, rfl⟩
    have hchosen (j : Fin 4) : (byteOf (bitsOf (s.chosenFlags (byteAt 0 f.payload)) + 16 * byteAt 0 f.payload)).toNat.testBit j.val
        = (s.chosenFlags (byteAt 0 f.payload)).getD j.val false := by
      have hlen := s.chosenFlags_length (byteAt 0 f.payload)
      have hbit := testBit_bitsOf_add (i := j.val) (by rw [hlen]; exact j.isLt) (byteAt 0 f.payload)
      rw [hlen] at hbit
      rw [testBit_byteOf _ (by omega)]
      exact hbit
    refine ⟨rfl, rfl, fun d => ?_, fun n => ?_, ?_, fun l => ?_, ?_, fun l hl => ⟨fun j => ?_, ?_, ?_⟩, fun h8 => ⟨fun j => ?_, ?_, ?_⟩,
      ?_, ?_, fun n => ?_, rfl, fun d => ?_, fun n => ?_, fun l e he => ?_, rfl, rfl, ?_⟩
    · rw [hbits rfl _ (by cases d <;> decide)]
      cases d <;> rfl
    · rw [hbits rfl _ (by omega)]
      fin_cases n <;> rfl
    · rw [hbits rfl _ (by omega)]
      rfl
    · rw [(htail _ _ _ _).1, testBit_byteOf_bitsOf (by simp [allLanes]) (by omega)]
      fin_cases l <;> rfl
    · rw [(htail _ _ _ _).2.1, byteOf_toNat]
      have hlt := bitsOf_lt (s.chosenFlags (byteAt 0 f.payload))
      rw [State.chosenFlags_length] at hlt
      omega
    · rw [(htail _ _ _ _).2.1, hchosen j, State.chosenFlags, hl, if_pos l.isLt, Fin.ofNat_eq_cast, Fin.cast_val_eq_self]
      fin_cases j <;> rfl
    · rw [(htail _ _ _ _).2.2, testBit_byteOf_bitsOf (by simp [allLifts]) (by omega), hl, Fin.ofNat_eq_cast, Fin.cast_val_eq_self]
      simp [allLifts]
    · rw [(htail _ _ _ _).2.2, testBit_byteOf_bitsOf (by simp [allLifts]) (by omega), hl, Fin.ofNat_eq_cast, Fin.cast_val_eq_self]
      simp [allLifts]
    · rw [(htail _ _ _ _).2.1, hchosen j, State.chosenFlags, h8, if_neg (by omega)]
      fin_cases j <;> rfl
    · rw [(htail _ _ _ _).2.2, testBit_byteOf_bitsOf (by simp [allLifts]) (by omega), h8]
      simp [allLifts]
    · rw [(htail _ _ _ _).2.2, testBit_byteOf_bitsOf (by simp [allLifts]) (by omega), h8]
      simp [allLifts]
    · rw [(htail _ _ _ _).2.2, testBit_byteOf_bitsOf (by simp [allLifts]) (by omega)]
      rfl
    · rw [(htail _ _ _ _).2.2, testBit_byteOf_bitsOf (by simp [allLifts]) (by omega)]
      rfl
    · rw [(htail _ _ _ _).2.2, testBit_byteOf_bitsOf (by simp [allLifts]; omega) (by omega)]
      fin_cases n <;> rfl
    · rw [hflagged, officeCarried_device]; simp
    · rw [hflagged, officeCarried_lift]; simp
    · rw [hflagged, officeCarried_lane he]; rfl
    · exact (State.modPort_onlyChanges (by simp [portPart])).trans (State.modPort_onlyChanges (by simp [portPart]))
  · refine congrArg Host.Outcome.next ((State.serves_serve hserves _).trans ?_)
    simp only [State.readEvents, State.readOfficeEvents, if_pos hsel]
    rfl

/-! ### SET_EVENTS -/

theorem Edge.ofCode_of_le {n : Nat} (h : n ≤ 1) : Edge.ofCode n = some (if n = 0 then .rise else .any) := by
  rcases Nat.le_one_iff_eq_zero_or_eq_one.1 h with rfl | rfl <;> rfl

theorem Edge.ofCode_of_lt {n : Nat} (h : 1 < n) : Edge.ofCode n = none := by
  obtain ⟨m, rfl⟩ : ∃ m, n = m + 2 := ⟨n - 2, by omega⟩
  rfl

theorem Edge.code_ofCode {n : Nat} (h : n ≤ 1) : (if n = 0 then Edge.rise else .any).code = n := by
  rcases Nat.le_one_iff_eq_zero_or_eq_one.1 h with rfl | rfl <;> rfl

theorem portArg_of_lt {n : Nat} (h : 4 < n) : portArg n = none := by
  obtain ⟨m, rfl⟩ : ∃ m, n = m + 5 := ⟨n - 5, by omega⟩
  rfl

theorem edgesArg_of_codes {p : List Byte} (h : ∀ n ∈ [3, 4, 5, 6, 7], byteAt n p ≤ 1) :
    edgesArg p = some {
      laneState := if byteAt 3 p = 0 then .rise else .any, readerSuspect := if byteAt 4 p = 0 then .rise else .any
      liftState := if byteAt 5 p = 0 then .rise else .any, historyFull := if byteAt 6 p = 0 then .rise else .any
      tableLow := if byteAt 7 p = 0 then .rise else .any } := by
  simp only [List.forall_mem_cons] at h
  obtain ⟨h3, h4, h5, h6, h7, -⟩ := h
  simp [edgesArg, Edge.ofCode_of_le, h3, h4, h5, h6, h7]

theorem edgesArg_of_bad {p : List Byte} (h : ∃ n ∈ [3, 4, 5, 6, 7], 1 < byteAt n p) : edgesArg p = none := by
  obtain ⟨n, hn, hbad⟩ := h
  have hnone := Edge.ofCode_of_lt hbad
  cases hedges : edgesArg p with
  | none => rfl
  | some m =>
    simp only [edgesArg, Option.bind_eq_bind, Option.bind_eq_some_iff] at hedges
    obtain ⟨_, h3, _, h4, _, h5, _, h6, _, h7, -⟩ := hedges
    simp only [List.mem_cons, List.not_mem_nil, or_false] at hn
    rcases hn with rfl | rfl | rfl | rfl | rfl <;> simp_all

/-- The edge modes that five code bytes name (R194). -/
def codesOf (p : List Byte) : EdgeModes :=
  { laneState := if byteAt 3 p = 0 then .rise else .any, readerSuspect := if byteAt 4 p = 0 then .rise else .any
    liftState := if byteAt 5 p = 0 then .rise else .any, historyFull := if byteAt 6 p = 0 then .rise else .any
    tableLow := if byteAt 7 p = 0 then .rise else .any }

/-- The masks and edge modes of one port written (R194). -/
def State.withEvents (s : State) (target : Port) (masks : Nat) (edges : EdgeModes) : State :=
  s.modPort target fun r => { r with masks := BitVec.ofNat 15 masks, edges := edges }

theorem State.withEvents_port (s : State) (target : Port) (masks : Nat) (edges : EdgeModes) (q : Port) :
    ((s.withEvents target masks edges).port q).masks = (if q = target then BitVec.ofNat 15 masks else (s.port q).masks)
    ∧ ((s.withEvents target masks edges).port q).edges = (if q = target then edges else (s.port q).edges)
    ∧ ((s.withEvents target masks edges).port q).flags = (s.port q).flags
    ∧ ((s.withEvents target masks edges).port q).restarted = (s.port q).restarted
    ∧ ((s.withEvents target masks edges).port q).transaction = (s.port q).transaction
    ∧ ((s.withEvents target masks edges).port q).dataOut = (s.port q).dataOut := by
  rw [State.withEvents, State.modPort_port]
  split <;> simp [*]

/-- A completion leaves everything at the ports but the queues of its own (R186). -/
theorem State.complete_rest (s : State) (p : Port) (i : Nat) (f : Frame) (bs : List Byte) :
    (∀ q, ((s.complete p i f bs).port q).flags = (s.port q).flags) ∧ s.SamePorts (s.complete p i f bs) := by
  refine ⟨fun q => ?_, fun q => ?_⟩ <;> rw [State.complete_port] <;> split <;> simp [*]

/-- Settles O12: refused without a target port or with a code that is no edge mode; else the target port is written. -/
theorem setEventsWritesMasksAndEdges : Obligations.SetEventsWritesMasksAndEdges := by
  unfold Obligations.SetEventsWritesMasksAndEdges
  refine fun s i f hserves => ⟨fun hbad => ?_, fun target htarget hcodes => ?_⟩
  · have hrefused : s.setEvents f.payload = (s, [4]) := by
      unfold State.setEvents
      rcases hbad with h | h
      · rw [portArg_of_lt h]; rfl
      · rw [edgesArg_of_bad h]
        cases portArg (byteAt 0 f.payload) <;> rfl
    refine ⟨_, congrArg Host.Outcome.next (State.serves_serve hserves _), ?_⟩
    rw [hrefused]
    exact ⟨(State.QueuesKept.refl s).answers _ i f _, (s.complete_rest _ i f _).1, (s.complete_rest _ i f _).2,
      State.modPort_onlyChanges (by simp [portPart])⟩
  · have hwritten : s.setEvents f.payload = (s.withEvents target (fieldAt 1 2 f.payload) (codesOf f.payload),
        [0, byteOf (byteAt 0 f.payload)] ++ bytesOf 2 (fieldAt 1 2 f.payload % 32768)
            ++ [byteOf (byteAt 3 f.payload), byteOf (byteAt 4 f.payload), byteOf (byteAt 5 f.payload),
                byteOf (byteAt 6 f.payload), byteOf (byteAt 7 f.payload)]) := by
      have hcode (n : Nat) (hn : n ∈ [3, 4, 5, 6, 7]) := Edge.code_ofCode (hcodes n hn)
      simp only [State.setEvents, htarget, edgesArg_of_codes hcodes, PortRec.eventsBytes, State.modPort_port, if_true,
        BitVec.toNat_ofNat, codesOf, State.withEvents, hcode 3 (by simp), hcode 4 (by simp), hcode 5 (by simp), hcode 6 (by simp), hcode 7 (by simp)]
      rfl
    have hport (q : Port) := s.withEvents_port target (fieldAt 1 2 f.payload) (codesOf f.payload) q
    have hkept := s.setEvents_queuesKept f.payload
    rw [hwritten] at hkept
    refine ⟨_, congrArg Host.Outcome.next (State.serves_serve hserves _), ?_⟩
    rw [hwritten]
    obtain ⟨hflags, hsame⟩ := (s.withEvents target (fieldAt 1 2 f.payload) (codesOf f.payload)).complete_rest .office i f _
    refine ⟨hkept.answers _ i f _, ?_, ?_, fun q hq => ⟨?_, ?_⟩, fun q => ⟨?_, ?_, ?_, ?_⟩, ?_⟩
    · rw [(hsame target).1, (hport target).1, if_pos rfl, BitVec.toNat_ofNat]
    · rw [(hsame target).2.1, (hport target).2.1, if_pos rfl]; rfl
    · rw [(hsame q).1, (hport q).1, if_neg hq]
    · rw [(hsame q).2.1, (hport q).2.1, if_neg hq]
    · rw [hflags q, (hport q).2.2.1]
    · rw [(hsame q).2.2.1, (hport q).2.2.2.1]
    · rw [(hsame q).2.2.2.1, (hport q).2.2.2.2.1]
    · rw [(hsame q).2.2.2.2, (hport q).2.2.2.2.2]
    · exact (State.modPort_onlyChanges (by cases target <;> simp [portPart])).trans (State.modPort_onlyChanges (by simp [portPart]))

end Sys2Proof.Machine

/-! The store arbiter: its selection, and the counters after a grant (sections 9.2 to 9.4). -/

namespace Sys2Proof.Machine

/-! ### What waits, and what is eligible -/

section

variable {s : State} {r : StoreReq}

/-- A member that is older than every other is the oldest. -/
theorem oldest_eq_of_first {α : Type} {stamp : α → Nat} {l : List α} {x : α} (hx : x ∈ l) (hfirst : ∀ y ∈ l, y ≠ x → stamp x < stamp y) :
    oldest stamp l = some x := by
  cases h : oldest stamp l with
  | none => rw [oldest_eq_none.1 h] at hx; simp at hx
  | some y =>
    obtain ⟨hy, hmin⟩ := oldest_spec h
    by_contra hne
    have := hfirst y hy fun he => hne (by rw [he])
    have := hmin x hx
    omega

theorem State.eligibleOf_eq_nil {k : StoreClass} :
    s.eligibleOf k = [] ↔ ∀ q ∈ s.storeReqs, s.eligible q = true → q.storeClass ≠ some k := by
  rw [List.eq_nil_iff_forall_not_mem]
  simp only [State.mem_eligibleOf, not_and']
  exact ⟨fun h q hq he hk => h q ⟨hk, he⟩ hq, fun h q hke hq => h q hq hke.2 hke.1⟩

theorem State.oldestA_eq_none : s.oldestA = none ↔ s.eligibleOf .a = [] ∧ s.arbiter.expiries = [] := by
  unfold State.oldestA
  split
  next hr hx => split <;> simp [← oldest_eq_none (stamp := StoreReq.stamp), hr]
  next hr hx => simp [← oldest_eq_none (stamp := StoreReq.stamp), hr]
  next hr hx => simp [← oldest_eq_none (stamp := Expiry.stamp), hx]
  next hr hx => simp [oldest_eq_none.1 hr, oldest_eq_none.1 hx]

theorem State.contested_eq_none : s.contested = none ↔ s.eligibleOf .b = [] ∧ s.eligibleOf .c = [] := by
  unfold State.contested
  split
  next hb hc => split <;> simp [← oldest_eq_none (stamp := StoreReq.stamp), hb]
  next hb hc => simp [← oldest_eq_none (stamp := StoreReq.stamp), hb]
  next hb hc => simp [← oldest_eq_none (stamp := StoreReq.stamp), hc]
  next hb hc => simp [oldest_eq_none.1 hb, oldest_eq_none.1 hc]

theorem State.contested_spec (h : s.contested = some r) :
    oldest StoreReq.stamp (s.eligibleOf .b) = some r ∨ oldest StoreReq.stamp (s.eligibleOf .c) = some r := by
  unfold State.contested at h
  split at h
  next b c hb hc =>
    split at h
    · obtain rfl := Option.some.inj h
      exact .inl hb
    · obtain rfl := Option.some.inj h
      exact .inr hc
  next b hb _ =>
    obtain rfl := Option.some.inj h
    exact .inl hb
  next c _ hc =>
    obtain rfl := Option.some.inj h
    exact .inr hc
  · cases h

/-- No requester is eligible. -/
theorem State.idle_iff : (s.arbiter.expiries = [] ∧ ∀ q ∈ s.storeReqs, s.eligible q = true → q.storeClass = none) ↔
    s.oldestA = none ∧ s.contested = none := by
  rw [State.oldestA_eq_none, State.contested_eq_none]
  simp only [State.eligibleOf_eq_nil]
  constructor
  · rintro ⟨hx, hno⟩
    exact ⟨⟨fun q hq he => by simp [hno q hq he], hx⟩, fun q hq he => by simp [hno q hq he], fun q hq he => by simp [hno q hq he]⟩
  · rintro ⟨⟨ha, hx⟩, hb, hc⟩
    refine ⟨hx, fun q hq he => ?_⟩
    cases hk : q.storeClass with
    | none => rfl
    | some k =>
      cases k with
      | a => exact absurd hk (ha q hq he)
      | b => exact absurd hk (hb q hq he)
      | c => exact absurd hk (hc q hq he)

theorem State.batchDue_iff : s.batchDue = true ↔ ∃ w n, s.sweep.walk = some w ∧ w.urgency = .must n ∧ 4 ≤ n := by
  unfold State.batchDue
  split
  next c n hw => simp [hw]
  next hno =>
    simp only [Bool.false_eq_true, false_iff]
    rintro ⟨⟨c, u⟩, n, hw, rfl, -⟩
    exact hno c n hw

theorem State.oldestA_ne_batch : s.oldestA ≠ some .batch := by
  unfold State.oldestA
  split
  · split <;> simp
  all_goals simp

theorem State.select_batch_iff : s.select = some .batch ↔
    s.batchDue = true ∨ (s.sweep.walk.isSome = true ∧ s.oldestA = none ∧ s.contested = none) := by
  unfold State.select
  by_cases hdue : s.batchDue = true
  · simp [hdue]
  · rw [if_neg hdue]
    simp only [hdue]
    cases ha : s.oldestA with
    | some g =>
      have hnot : g ≠ .batch := fun hg => State.oldestA_ne_batch (hg ▸ ha)
      simpa using hnot
    | none =>
      cases hc : s.contested with
      | some q => simp
      | none => cases s.sweep.walk <;> simp

theorem State.select_none_iff : s.select = none ↔ s.sweep.walk = none ∧ s.oldestA = none ∧ s.contested = none := by
  unfold State.select
  by_cases hdue : s.batchDue = true
  · obtain ⟨w, n, hw, -⟩ := State.batchDue_iff.1 hdue
    simp [hdue, hw]
  · rw [if_neg hdue]
    cases ha : s.oldestA with
    | some g => simp
    | none =>
      cases hc : s.contested with
      | some q => simp
      | none => cases s.sweep.walk <;> simp

/-- The kinds that wait while a hold is open on the pass they name (R166). -/
theorem ReqKind.waitsForHold_iff {k : Option ReqKind} : k.any ReqKind.waitsForHold = true ↔
    k ∈ [some ReqKind.reissue, some .suspend, some .resume, some .addUse, some .refund] := by
  cases k with
  | none => simp
  | some k => cases k <;> simp [ReqKind.waitsForHold]

theorem State.holdOpenOn_eq_false {pass : Nat} : s.holdOpenOn pass = false ↔ ∀ l h, (s.lane l).hold = some h → h.pass ≠ pass := by
  simp only [State.holdOpenOn, List.any_eq_false, Option.any_eq_true, not_exists, not_and, beq_iff_eq, mem_allLanes, true_implies]

theorem State.olderNames_eq_false {pass : Nat} :
    s.olderNames r pass = false ↔ ∀ q ∈ s.storeReqs, q.pass? = some pass → r.stamp ≤ q.stamp := by
  simp only [State.olderNames, List.any_eq_false, Bool.and_eq_true, decide_eq_true_eq, beq_iff_eq, not_and', Nat.not_lt]

/-- When a waiting request is eligible (R164, R165, R166). -/
theorem State.eligible_iff : s.eligible r = true ↔ (s.port r.port).responses.length < Config.queuePlaces ∧ ∀ pass, r.pass? = some pass →
    (∀ q ∈ s.storeReqs, q.pass? = some pass → r.stamp ≤ q.stamp)
    ∧ (r.kind? ∈ [some .reissue, some .suspend, some .resume, some .addUse, some .refund] →
        ∀ l h, (s.lane l).hold = some h → h.pass ≠ pass) := by
  have hplace : s.hasPlace r.port = true ↔ (s.port r.port).responses.length < Config.queuePlaces := by simp [State.hasPlace]
  unfold State.eligible
  cases hp : r.pass? with
  | none => simp [hplace]
  | some n =>
    simp only [Bool.and_eq_true, hplace, Bool.not_eq_true', State.olderNames_eq_false, Bool.and_eq_false_imp, ReqKind.waitsForHold_iff,
      State.holdOpenOn_eq_false, Option.some.injEq, forall_eq']

/-- A request that waits stands in the place of a queue that it names. -/
theorem State.mem_storeReqs_iff : r ∈ s.storeReqs ↔
    ∃ w, (s.port r.port).requests[r.index]? = some w ∧ w.frame = r.frame ∧ w.role = .store r.stamp := by
  rw [State.mem_storeReqs]
  constructor
  · exact fun h => ⟨_, h, rfl, rfl⟩
  · rintro ⟨⟨f, role⟩, h, rfl, rfl⟩
    exact h

/-- The request selected is the oldest of its class that is eligible, and class A goes first (R167). -/
theorem State.select_class (h : s.select = some (.request r)) :
    (r.storeClass = some .a ∧ oldest StoreReq.stamp (s.eligibleOf .a) = some r ∧ ∀ x ∈ s.arbiter.expiries, r.stamp ≤ x.stamp)
      ∨ (s.oldestA = none ∧ ∃ k, k ≠ .a ∧ r.storeClass = some k ∧ oldest StoreReq.stamp (s.eligibleOf k) = some r) := by
  obtain ⟨-, -, -, ⟨hold, hx⟩ | ⟨hnone, hcontested⟩⟩ := State.select_request h
  · exact .inl ⟨(State.mem_eligibleOf.1 (oldest_spec hold).1).2.1, hold, hx⟩
  · rcases State.contested_spec hcontested with hold | hold
    · exact .inr ⟨hnone, .b, by simp, (State.mem_eligibleOf.1 (oldest_spec hold).1).2.1, hold⟩
    · exact .inr ⟨hnone, .c, by simp, (State.mem_eligibleOf.1 (oldest_spec hold).1).2.1, hold⟩

theorem State.select_of_oldestA {g : Grant} (hdue : s.batchDue = false) (h : s.oldestA = some g) : s.select = some g := by
  simp [State.select, hdue, h]

theorem StoreReq.storeClass_of_kind {k : ReqKind} (h : ReqKind.ofCode r.frame.kind = some k) : r.storeClass = k.storeClass := by
  simp [StoreReq.storeClass, StoreReq.kind?, h]

end

/-- Settles O13: the table of R167 read off `State.select`, with the eligibility of R164 to R166. -/
theorem selectionOfTheNextGrant : Obligations.SelectionOfTheNextGrant := by
  unfold Obligations.SelectionOfTheNextGrant
  refine ⟨fun s r h => ?_, fun s => ⟨fun x h => ?_, State.batchDue_iff, ?_, ?_, fun r hr hdue helig hclass hfirst hx => ?_,
    fun x hx hdue hfirst hreqs => ?_⟩, fun s r pass h hpass => ?_, fun s r => ⟨State.mem_storeReqs_iff, State.eligible_iff⟩,
    fun r k hk => ⟨?_, ?_⟩⟩
  · obtain ⟨hmem, helig, hdue, -⟩ := State.select_request h
    have holdest {k : StoreClass} (hk : r.storeClass = some k) (ho : oldest StoreReq.stamp (s.eligibleOf k) = some r) (q : StoreReq)
        (hq : q ∈ s.storeReqs) (he : s.eligible q = true) (hc : q.storeClass = r.storeClass) : r.stamp ≤ q.stamp :=
      (oldest_spec ho).2 q (State.mem_eligibleOf.2 ⟨hq, hc.trans hk, he⟩)
    refine ⟨hmem, helig, hdue, ?_⟩
    rcases State.select_class h with ⟨hk, ho, hx⟩ | ⟨hnone, k, hne, hk, ho⟩
    · exact ⟨holdest hk ho, fun _ => hx, fun hno => absurd hk hno, State.eligible_hasPlace helig, State.mem_storeReqs_iff.1 hmem⟩
    · obtain ⟨ha, hx⟩ := State.oldestA_eq_none.1 hnone
      exact ⟨holdest hk ho, by simp [hx], fun _ => ⟨hx, State.eligibleOf_eq_nil.1 ha⟩, State.eligible_hasPlace helig,
        State.mem_storeReqs_iff.1 hmem⟩
  · obtain ⟨hmem, hmin, hdue, hreqs⟩ := State.select_expiry h
    exact ⟨hmem, hdue, hmin, fun q hq he hc => (hreqs q (State.mem_eligibleOf.2 ⟨hq, hc, he⟩)).le⟩
  · rw [State.select_batch_iff, State.idle_iff]
  · rw [State.select_none_iff, State.idle_iff]
  · have hold : oldest StoreReq.stamp (s.eligibleOf .a) = some r :=
      oldest_eq_of_first (State.mem_eligibleOf.2 ⟨hr, hclass, helig⟩) fun q hq hne =>
        have hq := State.mem_eligibleOf.1 hq
        hfirst q hq.1 hq.2.2 hq.2.1 hne
    refine State.select_of_oldestA hdue ?_
    unfold State.oldestA
    rw [hold]
    cases hex : oldest Expiry.stamp s.arbiter.expiries with
    | none => rfl
    | some x =>
      have := hx x (oldest_spec hex).1
      exact if_neg (by omega)
  · have hold : oldest Expiry.stamp s.arbiter.expiries = some x := oldest_eq_of_first hx hfirst
    refine State.select_of_oldestA hdue ?_
    unfold State.oldestA
    rw [hold]
    cases hr : oldest StoreReq.stamp (s.eligibleOf .a) with
    | none => rfl
    | some r =>
      have hr := State.mem_eligibleOf.1 (oldest_spec hr).1
      exact if_pos (hreqs r hr.1 hr.2.2 hr.2.1)
  · exact (State.eligible_iff.1 (State.select_request h).2.1).2 pass hpass
  · rw [StoreReq.storeClass_of_kind hk]
    cases k <;> rfl
  · unfold StoreReq.pass? StoreReq.kind?
    rw [hk]
    cases k <;> rfl

/-! ### The counters of the arbiter and the sweep after a grant -/

section

variable {s : State}

theorem State.charge_arbiter (g : Grant) : (s.charge g).arbiter = { s.arbiter with
    nextGrant := s.arbiter.nextGrant + 1
    burst := match g with
      | .request r => if r.storeClass = some .a then s.arbiter.burst else s.burstAfter
      | _ => s.arbiter.burst } := rfl

theorem State.charge_sweep (g : Grant) : (s.charge g).sweep = { s.sweep with
    walk := s.sweep.walk.map fun w => { w with urgency := w.urgency.charged g } } := by
  simp [State.charge, State.setWalk]

theorem State.toMust_sweep (s : State) : s.toMust.sweep = { s.sweep with walk := mustWalk s.sweep.walk } := by
  unfold State.toMust
  split
  next c h => simp [State.setWalk, h, mustWalk]
  next hno =>
    have hsame : mustWalk s.sweep.walk = s.sweep.walk := by
      cases hw : s.sweep.walk with
      | none => rfl
      | some w =>
        obtain ⟨c, u⟩ := w
        cases u with
        | may => exact absurd hw (hno c)
        | must n => rfl
    rw [hsame]

theorem State.tableLowTest_sweep (s : State) :
    s.tableLowTest.sweep = if s.tableLow then { s.sweep with walk := mustWalk s.sweep.walk } else s.sweep := by
  unfold State.tableLowTest
  split
  · exact s.toMust_sweep
  · rfl

theorem State.setFreeSlots_sweep (s : State) (n : Nat) : (s.setFreeSlots n).sweep =
    if (s.withFreeSlots n).tableLow then { s.sweep with walk := mustWalk s.sweep.walk } else s.sweep := by
  simp only [State.setFreeSlots, State.tableLowTest_sweep]
  simp [State.tableLow]

theorem State.place_sweep (s : State) (n : Nat) (e : Entry) :
    (s.place n e).sweep = s.sweep ∨ (s.place n e).sweep = { s.sweep with walk := mustWalk s.sweep.walk } := by
  simp only [State.place, State.setFreeSlots_sweep, State.putEntry_frame]
  split
  · exact .inr rfl
  · exact .inl rfl

end

section

variable (s : State) (x : Expiry)

theorem State.expire_arbiter : (s.expire x).arbiter = { s.arbiter with expiries := s.arbiter.expiries.erase x } := by
  simp only [State.expire]
  repeat' split
  all_goals simp

theorem State.expire_sweep : (s.expire x).sweep = s.sweep := by
  simp only [State.expire]
  repeat' split
  all_goals simp

end

/-- A completion is the port's alone. -/
theorem State.complete_arbiter (s : State) (p : Port) (i : Nat) (f : Frame) (bs : List Byte) : (s.complete p i f bs).arbiter = s.arbiter := by
  simp [State.complete]

theorem State.complete_sweep (s : State) (p : Port) (i : Nat) (f : Frame) (bs : List Byte) : (s.complete p i f bs).sweep = s.sweep := by
  simp [State.complete]

/-! ### Only ISSUE and RESTORE touch the sweep -/

section

variable (s : State) (p : List Byte)

@[simp] theorem State.passed_sweep : (s.passed p).1.sweep = s.sweep := by
  simp only [State.passed]
  repeat' split
  all_goals simp

@[simp] theorem State.release_sweep : (s.release p).1.sweep = s.sweep := by
  simp only [State.release]
  repeat' split
  all_goals simp

@[simp] theorem State.jam_sweep : (s.jam p).1.sweep = s.sweep := by
  simp only [State.jam]
  repeat' split
  all_goals simp

@[simp] theorem State.clearJam_sweep : (s.clearJam p).1.sweep = s.sweep := by
  simp only [State.clearJam]
  repeat' split
  all_goals simp

@[simp] theorem State.reissue_sweep : (s.reissue p).1.sweep = s.sweep := by
  simp only [State.reissue]
  repeat' split
  all_goals simp

@[simp] theorem State.suspend_sweep : (s.suspend p).1.sweep = s.sweep := by
  simp only [State.suspend]
  repeat' split
  all_goals simp

@[simp] theorem State.resume_sweep : (s.resume p).1.sweep = s.sweep := by
  simp only [State.resume]
  repeat' split
  all_goals simp

@[simp] theorem State.addUse_sweep : (s.addUse p).1.sweep = s.sweep := by
  simp only [State.addUse]
  repeat' split
  all_goals simp

@[simp] theorem State.inquire_sweep : (s.inquire p).1.sweep = s.sweep := by
  simp only [State.inquire]
  repeat' split
  all_goals simp

@[simp] theorem State.refund_sweep : (s.refund p).1.sweep = s.sweep := by
  simp only [State.refund, State.refundValued]
  repeat' split
  all_goals simp

@[simp] theorem State.setLaneRequest_sweep : (s.setLaneRequest p).1.sweep = s.sweep := by simp [State.setLaneRequest]

theorem State.issue_sweep : (s.issue p).1.sweep = s.sweep ∨ (s.issue p).1.sweep = { s.sweep with walk := mustWalk s.sweep.walk } := by
  unfold State.issue
  dsimp only
  split
  · exact .inl rfl
  split
  · exact .inl rfl
  split
  · exact .inl rfl
  split
  · exact .inr s.toMust_sweep
  · exact s.place_sweep _ _

theorem State.restore_sweep :
    (s.restore p).1.sweep = s.sweep ∨ (s.restore p).1.sweep = { s.sweep with walk := mustWalk s.sweep.walk } := by
  unfold State.restore
  dsimp only
  split
  · exact .inl rfl
  split
  · exact .inl rfl
  split
  · exact .inr s.toMust_sweep
  split
  · exact s.place_sweep _ _
  split
  · exact .inl rfl
  · exact State.place_sweep (s.withHistory _) _ _

end

/-! ### The tables of R168 and R174 -/

section

variable {s : State}

theorem State.contested_of_room {b c : StoreReq} (hb : oldest StoreReq.stamp (s.eligibleOf .b) = some b)
    (hc : oldest StoreReq.stamp (s.eligibleOf .c) = some c) :
    s.contested = if s.arbiter.burst < s.arbiter.burstLimit then some b else some c := by
  simp [State.contested, hb, hc]

theorem State.select_of_contested {r : StoreReq} (hdue : s.batchDue = false) (ha : s.oldestA = none) (hc : s.contested = some r) :
    s.select = some (.request r) := by
  simp [State.select, hdue, ha, hc]

/-- In the B-or-C case the grant sets the lane burst counter (R168). -/
theorem State.charge_burst {r : StoreReq} {k : StoreClass} (hk : k ≠ .a) (hr : r ∈ s.eligibleOf k) :
    (s.charge (.request r)).arbiter.burst = s.burstAfter := by
  have hclass := (State.mem_eligibleOf.1 hr).2.1
  rw [State.charge_arbiter]
  dsimp only
  rw [hclass, if_neg (by simpa using hk)]

theorem State.eligibleOf_isEmpty {k : StoreClass} {r : StoreReq} (h : oldest StoreReq.stamp (s.eligibleOf k) = some r) :
    (s.eligibleOf k).isEmpty = false := by
  rw [List.isEmpty_eq_false_iff]
  exact List.ne_nil_of_mem (oldest_spec h).1

/-- A requester's grant, where its evaluation leaves the arbiter and the sweep but what R172 does to the walk. -/
theorem State.grantTo_counters {sel : Frame → Bool} {eval : State → List Byte → State × List Byte} {r : StoreReq}
    (hg : s.grantable sel = some r) {touchesSweep : Prop} (harbiter : ∀ t bs, (eval t bs).1.arbiter = t.arbiter)
    (hsweep : ∀ t bs, (eval t bs).1.sweep = t.sweep
      ∨ (touchesSweep ∧ (eval t bs).1.sweep = { t.sweep with walk := mustWalk t.sweep.walk })) :
    (s.grantTo sel eval).arbiter = (s.charge (.request r)).arbiter
      ∧ ((s.grantTo sel eval).sweep = (s.charge (.request r)).sweep
        ∨ (touchesSweep ∧ (s.grantTo sel eval).sweep = { s.sweep with walk := mustWalk (s.charge (.request r)).sweep.walk })) := by
  rw [State.grantTo_of_grantable hg]
  refine ⟨(State.complete_arbiter _ _ _ _ _).trans (harbiter _ _), ?_⟩
  rw [State.complete_sweep]
  refine (hsweep (s.charge (.request r)) r.frame.payload).imp_right fun h => ⟨h.1, ?_⟩
  rw [h.2, State.charge_sweep]

end

/-- Settles O14: `State.charge` sets the counters; the requests leave them (`State.passed_arbiter` and the others). -/
theorem laneBurstAndGrantCountTables : Obligations.LaneBurstAndGrantCountTables := by
  unfold Obligations.LaneBurstAndGrantCountTables
  refine ⟨fun s => ⟨fun hdue ha => ⟨fun b c hb hc hlt => ?_, fun b c hb hc hle => ?_, fun b hb hc => ?_, fun c hb hc => ?_⟩, fun r hr => ?_,
    fun x => ?_, ?_⟩, fun s g => ⟨?_, fun h => ?_, fun c h => ?_, fun c n h => ?_, s.charge_onlyChanges g⟩, fun s c sel r hc hg => ?_,
    fun s x hx => ?_, fun s hs => ?_⟩
  · refine ⟨State.select_of_contested hdue ha ((State.contested_of_room hb hc).trans (if_pos hlt)), ?_⟩
    rw [State.charge_burst (by decide) (oldest_spec hb).1, State.burstAfter,
      if_pos ⟨State.eligibleOf_isEmpty hb, State.eligibleOf_isEmpty hc, hlt⟩]
  · refine ⟨State.select_of_contested hdue ha ((State.contested_of_room hb hc).trans (if_neg (by omega))), ?_⟩
    rw [State.charge_burst (by decide) (oldest_spec hc).1, State.burstAfter, if_neg (by omega)]
  · refine ⟨State.select_of_contested hdue ha (by simp [State.contested, hb, hc, oldest]), ?_⟩
    rw [State.charge_burst (by decide) (oldest_spec hb).1, State.burstAfter, if_neg (by simp [hc])]
  · refine ⟨State.select_of_contested hdue ha (by simp [State.contested, hb, hc, oldest]), ?_⟩
    rw [State.charge_burst (by decide) (oldest_spec hc).1, State.burstAfter, if_neg (by simp [hb])]
  · rw [State.charge_arbiter]
    exact if_pos hr
  · rw [State.charge_arbiter]
  · rw [State.charge_arbiter]
  · rw [State.charge_arbiter]
  · rw [State.charge_sweep, h]; rfl
  · rw [State.charge_sweep, h]
    cases g <;> rfl
  · rw [State.charge_sweep, h]
    cases g <;> simp [Urgency.charged]
  · simp only [grantedCommands, List.mem_cons, List.not_mem_nil, or_false, Prod.mk.injEq] at hc
    rcases hc with ⟨rfl, rfl⟩ | ⟨rfl, rfl⟩ | ⟨rfl, rfl⟩ | ⟨rfl, rfl⟩ | ⟨rfl, rfl⟩ | ⟨rfl, rfl⟩ | ⟨rfl, rfl⟩ | ⟨rfl, rfl⟩ | ⟨rfl, rfl⟩
      | ⟨rfl, rfl⟩ | ⟨rfl, rfl⟩ | ⟨rfl, rfl⟩ | ⟨rfl, rfl⟩ | ⟨rfl, rfl⟩ | ⟨rfl, rfl⟩
    · exact ⟨_, rfl, State.grantTo_counters hg (fun t _ => by simp) fun t _ => .inl (by simp)⟩
    · exact ⟨_, rfl, State.grantTo_counters hg State.passed_arbiter fun t p => .inl (t.passed_sweep p)⟩
    · exact ⟨_, rfl, State.grantTo_counters hg State.release_arbiter fun t p => .inl (t.release_sweep p)⟩
    · exact ⟨_, rfl, State.grantTo_counters hg State.jam_arbiter fun t p => .inl (t.jam_sweep p)⟩
    · exact ⟨_, rfl, State.grantTo_counters hg State.clearJam_arbiter fun t p => .inl (t.clearJam_sweep p)⟩
    · exact ⟨_, rfl, State.grantTo_counters hg (fun _ _ => rfl) fun _ _ => .inl rfl⟩
    · exact ⟨_, rfl, State.grantTo_counters hg State.setLaneRequest_arbiter fun t p => .inl (t.setLaneRequest_sweep p)⟩
    · exact ⟨_, rfl, State.grantTo_counters hg State.issue_arbiter fun t p => (t.issue_sweep p).imp_right fun h => ⟨.inl rfl, h⟩⟩
    · exact ⟨_, rfl, State.grantTo_counters hg State.reissue_arbiter fun t p => .inl (t.reissue_sweep p)⟩
    · exact ⟨_, rfl, State.grantTo_counters hg State.suspend_arbiter fun t p => .inl (t.suspend_sweep p)⟩
    · exact ⟨_, rfl, State.grantTo_counters hg State.resume_arbiter fun t p => .inl (t.resume_sweep p)⟩
    · exact ⟨_, rfl, State.grantTo_counters hg State.restore_arbiter fun t p => (t.restore_sweep p).imp_right fun h => ⟨.inr rfl, h⟩⟩
    · exact ⟨_, rfl, State.grantTo_counters hg State.addUse_arbiter fun t p => .inl (t.addUse_sweep p)⟩
    · exact ⟨_, rfl, State.grantTo_counters hg State.inquire_arbiter fun t p => .inl (t.inquire_sweep p)⟩
    · exact ⟨_, rfl, State.grantTo_counters hg State.refund_arbiter fun t p => .inl (t.refund_sweep p)⟩
  · refine ⟨_, congrArg Host.Outcome.next (by rw [State.grantableExpiry_eq_some.2 hx]), State.expire_sweep _ _, ?_⟩
    rw [State.expire_arbiter, State.charge_arbiter]
  · refine ⟨_, congrArg Host.Outcome.next (if_pos hs), by simp⟩

end Sys2Proof.Machine

/-! Requests on entries: ISSUE, REISSUE, SUSPEND and RESUME (section 1.7). -/

namespace Sys2Proof.Machine

/-! ### The store that a grant evaluates -/

section

variable {s : State} {r : StoreReq} {k : ReqKind}

/-- A granted request is evaluated on the charged state and completed at its port. -/
theorem State.grants_next (h : s.grants k r) (eval : State → List Byte → State × List Byte) : s.grantTo (isKind k) eval
    = (eval (s.charge (.request r)) r.frame.payload).1.complete r.port r.index r.frame (eval (s.charge (.request r)) r.frame.payload).2 :=
  State.grantTo_of_grantable h eval

theorem State.findSlot_congr {t : State} (h : t.slots = s.slots) (pass : Nat) : t.findSlot pass = s.findSlot pass := by
  simp [State.findSlot, State.entryAt, h]

theorem State.findPass_congr {t : State} (h : t.slots = s.slots) (pass : Nat) : t.findPass pass = s.findPass pass := by
  simp [State.findPass, State.findSlot_congr h, State.entryAt, h]

theorem State.freeSlotFor_congr {t : State} (h : t.slots = s.slots) (pass : Nat) : t.freeSlotFor pass = s.freeSlotFor pass := by
  simp [State.freeSlotFor, State.entryAt, h]

@[simp] theorem State.charge_findPass (g : Grant) (pass : Nat) : (s.charge g).findPass pass = s.findPass pass :=
  State.findPass_congr (by simp) pass

theorem State.findSlot_isSome {pass : Nat} : (s.findSlot pass).isSome = true ↔ s.findPass pass ≠ none := by
  unfold State.findPass
  cases h : s.findSlot pass with
  | none => simp
  | some n =>
    have hany := List.find?_some h
    cases he : s.entryAt n with
    | none => simp [he] at hany
    | some e => simp [he]

theorem State.findSlot_eq_none {pass : Nat} : s.findSlot pass = none ↔ s.findPass pass = none := by
  have h := State.findSlot_isSome (s := s) (pass := pass)
  cases hs : s.findSlot pass <;> simp_all

/-- The first member of a list in rising order that meets a condition is the lowest. -/
theorem find?_eq_some_of_rising {l : List Nat} (hl : l.Pairwise (· < ·)) {p : Nat → Bool} {n : Nat} :
    l.find? p = some n ↔ n ∈ l ∧ p n = true ∧ ∀ m ∈ l, m < n → p m = false := by
  induction l with
  | nil => simp
  | cons a l ih =>
    obtain ⟨ha, hl⟩ := List.pairwise_cons.1 hl
    rw [List.find?_cons]
    cases hp : p a with
    | true =>
      simp only [Option.some.injEq]
      constructor
      · rintro rfl
        refine ⟨by simp, hp, fun m hm hlt => ?_⟩
        rcases List.mem_cons.1 hm with rfl | hm
        · omega
        · have := ha m hm; omega
      · rintro ⟨hmem, -, hfirst⟩
        rcases List.mem_cons.1 hmem with rfl | hmem
        · rfl
        · have := hfirst a (by simp) (ha n hmem)
          simp [hp] at this
    | false =>
      rw [ih hl]
      constructor
      · rintro ⟨hmem, hn, hfirst⟩
        refine ⟨by simp [hmem], hn, fun m hm hlt => ?_⟩
        rcases List.mem_cons.1 hm with rfl | hm
        · exact hp
        · exact hfirst m hm hlt
      · rintro ⟨hmem, hn, hfirst⟩
        rcases List.mem_cons.1 hmem with rfl | hmem
        · simp [hp] at hn
        · exact ⟨hmem, hn, fun m hm hlt => hfirst m (by simp [hm]) hlt⟩

theorem bucketSlots_rising (b : Nat) : (bucketSlots b).Pairwise (· < ·) := by
  refine List.Pairwise.map _ (fun i j h => ?_) List.pairwise_lt_range
  omega

/-- The slot for a new entry is the lowest-numbered free one of its bucket (R4). -/
theorem State.freeSlotFor_eq_some {pass n : Nat} : s.freeSlotFor pass = some n ↔ s.LowestFree pass n := by
  unfold State.freeSlotFor State.LowestFree
  rw [find?_eq_some_of_rising (bucketSlots_rising _)]
  simp only [mem_bucketSlots, Option.isNone_iff_eq_none, Option.isNone_eq_false_iff]

theorem State.freeSlotFor_eq_none {pass : Nat} : s.freeSlotFor pass = none ↔ s.BucketFull pass := by
  unfold State.freeSlotFor State.BucketFull
  simp only [List.find?_eq_none, mem_bucketSlots, Option.isNone_iff_eq_none, ← Option.isSome_iff_ne_none]

/-- What the event unit and the queues see of a grant: the response, and flags at most. -/
theorem State.granted_ports {t : State} {bs : List Byte} (hraised : (s.charge (.request r)).Raised t)
    (hsame : (s.charge (.request r)).SameTransactions t) :
    s.Answers (t.complete r.port r.index r.frame bs) r.port r.index r.frame bs
      ∧ s.SamePorts (t.complete r.port r.index r.frame bs) := by
  have hports (p : Port) : (s.charge (.request r)).port p = s.port p := by simp
  have hrest := (t.complete_rest r.port r.index r.frame bs).2
  refine ⟨⟨?_, ?_, fun q hq => ?_⟩, fun q => ?_⟩
  · rw [State.complete_port, if_pos rfl, (hraised r.port).requests, hports]
  · rw [State.complete_port, if_pos rfl, (hraised r.port).responses, hports]
  · rw [State.complete_port, if_neg hq, (hraised q).requests, (hraised q).responses, hports]
    exact ⟨rfl, rfl⟩
  · obtain ⟨h1, h2, h3, h4, h5⟩ := hrest q
    rw [h1, h2, h3, h4, h5, (hraised q).masks, (hraised q).edges, (hraised q).restarted, hsame q, (hraised q).dataOut, hports]
    exact ⟨rfl, rfl, rfl, rfl, rfl⟩

/-! ### Placing an entry -/

theorem State.place_sweep_eq (n : Nat) (e : Entry) : (s.place n e).sweep = { s.sweep with
    walk := if s.freeSlots - 1 < s.sweep.floor then mustWalk s.sweep.walk else s.sweep.walk } := by
  simp only [State.place, State.setFreeSlots_sweep, State.putEntry_frame, State.tableLow, State.withFreeSlots_fields, decide_eq_true_eq]
  split <;> rfl

/-- A fall of the free-slot count below the floor sets TABLE_LOW at the office (R178). -/
theorem State.place_tableLow {n : Nat} {e : Entry} (hbefore : s.tableLow = false) (hafter : (s.place n e).tableLow = true) :
    (s.place n e).office.flagged (.device .tableLow) = true := by
  have hlow : ((s.putEntry n e).withFreeSlots (s.freeSlots - 1)).tableLow = true := by
    simp only [State.tableLow, State.place_freeSlots, State.place_sweep_eq] at hafter
    simpa [State.tableLow] using hafter
  have hhigh : (s.putEntry n e).tableLow = false := by simpa [State.tableLow] using hbefore
  have hport : (s.place n e).port .office
      = (((s.putEntry n e).withFreeSlots (s.freeSlots - 1)).judgeLevel (.device .tableLow) false true).port .office := by
    simp [State.place, State.setFreeSlots, hlow, hhigh]
  have hoffice : (s.place n e).office = (s.place n e).port .office := rfl
  rw [hoffice, hport, State.judgeLevel_port, if_pos (by simp [Edge.takes]), PortRec.withFlag_flagged]
  simp

/-- Where an entry is placed, in the state after its grant (R14, R172, R178). -/
theorem State.place_granted {n : Nat} {e : Entry} {bs : List Byte} (u : State) (hslots : u.slots = s.slots)
    (hfree : u.freeSlots = s.freeSlots) (hsweep : u.sweep = (s.charge (.request r)).sweep) :
    let t := (u.place n e).complete r.port r.index r.frame bs
    t.entryAt n = some e ∧ s.SameSlotsBut t n ∧ t.freeSlots = s.freeSlots - 1
      ∧ t.sweep = { s.sweep with
          walk := if t.freeSlots < s.sweep.floor then mustWalk (s.charge (.request r)).sweep.walk
            else (s.charge (.request r)).sweep.walk }
      ∧ (s.tableLow = false → t.tableLow = true → t.office.flagged (.device .tableLow) = true) := by
  have hentries (m : Nat) : ((u.place n e).complete r.port r.index r.frame bs).entryAt m = if m = n then some e else u.entryAt m := by
    simp [State.complete]
  have hfloor : u.sweep.floor = s.sweep.floor := by rw [hsweep, State.charge_sweep]
  have hcount : ((u.place n e).complete r.port r.index r.frame bs).freeSlots = s.freeSlots - 1 := by
    simp [State.complete, State.place_freeSlots, hfree]
  refine ⟨by rw [hentries, if_pos rfl], fun m hm => ?_, hcount, ?_, fun hbefore hafter => ?_⟩
  · rw [hentries, if_neg hm, State.entryAt, hslots]
    rfl
  · rw [hcount, State.complete_sweep, State.place_sweep_eq, hfree, hfloor, hsweep, State.charge_sweep]
  · have hflags := (u.place n e).complete_rest r.port r.index r.frame bs
    have hlow : (u.place n e).tableLow = true := by
      simpa [State.tableLow, State.complete] using hafter
    have hhigh : u.tableLow = false := by rw [State.tableLow, hfree, hfloor]; exact hbefore
    have hflag := State.place_tableLow hhigh hlow
    rw [PortRec.flagged_iff] at hflag ⊢
    exact (hflags.1 .office).symm ▸ hflag

/-- What a grant changes is what the frame of its command lists. -/
theorem exec_frame {c : Instr} {t : State} (h : exec c s = .next t) : onlyChanges (touches c) s t :=
  commandsCompleteAndChangeOnlyTheirParts.2 c s t h

/-- The sweep raised to MUST, as a write of its walk (R172). -/
theorem State.toMust_eq (s : State) : s.toMust = s.setWalk (mustWalk s.sweep.walk) := by
  unfold State.toMust
  split
  next h => rw [h]; rfl
  next h =>
    have hsame : mustWalk s.sweep.walk = s.sweep.walk := by
      obtain hw | ⟨⟨cursor, _ | n⟩, hw⟩ := (s.sweep.walk).eq_none_or_eq_some
      · rw [hw]; rfl
      · exact absurd hw (h cursor)
      · rw [hw]; rfl
    rw [hsame]
    rfl

end

/-! ### ISSUE -/

section

variable {s : State} {p : List Byte}

theorem State.issue_of_bad (h : (issueFields p).ok = false) : s.issue p = (s, bare .badValue) := by
  unfold State.issue
  exact if_pos h

theorem State.issue_of_void (h : (issueFields p).ok = true) (hvoid : (s.product (Fin.ofNat 64 (issueFields p).product)).defined = false) :
    s.issue p = (s, bare .productVoid) := by
  unfold State.issue
  exact (if_neg (ne_false_of_eq_true h)).trans (if_pos hvoid)

theorem State.issue_of_known (h : (issueFields p).ok = true) (hdefined : (s.product (Fin.ofNat 64 (issueFields p).product)).defined = true)
    (hknown : s.findPass (issueFields p).pass ≠ none) : s.issue p = (s, bare .exists_) := by
  unfold State.issue
  exact (if_neg (ne_false_of_eq_true h)).trans ((if_neg (ne_false_of_eq_true hdefined)).trans (if_pos (State.findSlot_isSome.2 hknown)))

theorem State.issue_of_new (h : (issueFields p).ok = true) (hdefined : (s.product (Fin.ofNat 64 (issueFields p).product)).defined = true)
    (hnew : s.findPass (issueFields p).pass = none) :
    (s.freeSlotFor (issueFields p).pass = none → s.issue p = (s.toMust, bare .bucketFull))
      ∧ ∀ n, s.freeSlotFor (issueFields p).pass = some n → s.issue p = (s.place n (issueFields p).entry,
          [Code.ok.byte] ++ bytesOf 4 (issueFields p).pass ++ bytesOf 2 (issueFields p).validTo) := by
  have hslot : s.findSlot (issueFields p).pass = none := State.findSlot_eq_none.2 hnew
  refine ⟨fun hfull => ?_, fun n hfree => ?_⟩
  · simp only [State.issue, h, hdefined, hslot, hfull, Bool.true_eq_false, if_false, Option.isSome_none, Bool.false_eq_true]
  · simp only [State.issue, h, hdefined, hslot, hfree, Bool.true_eq_false, if_false, Option.isSome_none, Bool.false_eq_true]

end

/-- Settles O16: `State.issue` case by case; the slot is the lowest free one, and `State.place` judges TABLE_LOW. -/
theorem issuePlacesAnEntry : Obligations.IssuePlacesAnEntry := by
  unfold Obligations.IssuePlacesAnEntry
  refine ⟨fun s r n hgrants => ?_, fun s r hgrants => ?_⟩
  · intro f hvalid hproduct habsent hlowest
    have heval := (State.issue_of_new (s := s.charge (.request r)) (p := r.frame.payload) ((IssueFields.ok_iff _).2 hvalid)
      (by simpa using hproduct) (by simpa using habsent)).2 n (by
        rw [State.freeSlotFor_congr (s := s) (by simp)]; exact State.freeSlotFor_eq_some.2 hlowest)
    have hexec : exec .issue s = .next (((s.charge (.request r)).place n f.entry).complete r.port r.index r.frame
        ([0] ++ bytesOf 4 f.pass ++ bytesOf 2 f.validTo)) :=
      congrArg Host.Outcome.next ((State.grants_next hgrants _).trans (by rw [heval]; rfl))
    refine ⟨_, hexec, ?_⟩
    obtain ⟨hentry, hothers, hcount, hsweep, hlow⟩ := State.place_granted (s := s) (r := r) (n := n) (e := f.entry)
      (bs := [0] ++ bytesOf 4 f.pass ++ bytesOf 2 f.validTo) (s.charge (.request r)) (by simp) (by simp) rfl
    obtain ⟨hanswers, hports⟩ := State.granted_ports (s := s) (r := r) (t := (s.charge (.request r)).place n f.entry)
      (bs := [0] ++ bytesOf 4 f.pass ++ bytesOf 2 f.validTo) (by simp) (by simp [State.SameTransactions.refl])
    exact ⟨hentry, hothers, hcount, hanswers, by rw [State.complete_arbiter]; simp, hsweep, hlow, hports, exec_frame hexec⟩
  · intro f answer g
    have hproduct : (g.product (Fin.ofNat 64 f.product)).defined = (s.product (Fin.ofNat 64 f.product)).defined := by simp [g]
    have hfind : g.findPass f.pass = s.findPass f.pass := by simp [g]
    have hfree : g.freeSlotFor f.pass = s.freeSlotFor f.pass := State.freeSlotFor_congr (by simp [g]) _
    have hanswer {u : State} {c : Code} (h : g.issue r.frame.payload = (u, bare c)) : exec .issue s = .next (answer u c.byte) :=
      congrArg Host.Outcome.next ((State.grants_next hgrants _).trans (by rw [h]; rfl))
    refine ⟨fun hbad => hanswer (State.issue_of_bad ?_), fun hvalid hvoid => hanswer (State.issue_of_void ?_ (hproduct.trans hvoid)),
      fun hvalid hdefined hknown => hanswer (State.issue_of_known ?_ (hproduct.trans hdefined) (hfind.trans_ne hknown)),
      fun hvalid hdefined hnew hfull => ?_⟩
    · rw [← Bool.not_eq_true, IssueFields.ok_iff]; exact hbad
    · exact (IssueFields.ok_iff _).2 hvalid
    · exact (IssueFields.ok_iff _).2 hvalid
    · rw [← State.toMust_eq]
      exact hanswer ((State.issue_of_new ((IssueFields.ok_iff _).2 hvalid) (hproduct.trans hdefined) (hfind.trans hnew)).1
        (hfree.trans (State.freeSlotFor_eq_none.2 hfull)))

end Sys2Proof.Machine

/-! Requests on entries that exist: REISSUE, SUSPEND and RESUME, and RESTORE and ADD_USE with their records (section 1.7). -/

namespace Sys2Proof.Machine

section

variable {s : State} {r : StoreReq}

/-- A granted request, once its evaluation on the charged state is known. -/
theorem State.grants_answers {k : ReqKind} (h : s.grants k r) {eval : State → List Byte → State × List Byte} {u : State} {bs : List Byte}
    (heval : eval (s.charge (.request r)) r.frame.payload = (u, bs)) :
    s.grantTo (isKind k) eval = u.complete r.port r.index r.frame bs := by
  rw [State.grants_next h, heval]

end

/-! ### REISSUE, SUSPEND and RESUME -/

section

variable {s : State} {p : List Byte} {n : Nat} {e : Entry} {q : LiveState}

theorem State.reissue_of_none (h : s.findPass (passArg p) = none) : s.reissue p = (s, bare .unknown) := by
  simp only [State.reissue, h]

theorem State.reissue_of_last (h : s.findPass (passArg p) = some (n, e)) (hseq : e.seq = 15) :
    s.reissue p = (s, bare .sequenceExhausted) := by
  simp only [State.reissue, h, if_pos hseq]

theorem State.reissue_of_some (h : s.findPass (passArg p) = some (n, e)) (hseq : e.seq ≠ 15) :
    s.reissue p = (s.putEntry n { e with seq := e.seq + 1 }, [Code.ok.byte, byteOf (e.seq + 1)]) := by
  simp only [State.reissue, h, if_neg hseq]

theorem State.suspend_of_none (h : s.findPass (passArg p) = none) : s.suspend p = (s, bare .unknown) := by
  simp only [State.suspend, h]

theorem State.suspend_of_live (h : s.findPass (passArg p) = some (n, e)) (hq : e.state = .live q) :
    s.suspend p = (s.putEntry n { e with state := .suspended q }, [Code.ok.byte, byteOf (PassState.suspended q).stateByte]) := by
  simp only [State.suspend, h, hq]

theorem State.suspend_of_other (h : s.findPass (passArg p) = some (n, e)) (hno : ∀ q, e.state ≠ .live q) :
    s.suspend p = (s, bare .notAllowed) := by
  cases hs : e.state with
  | live q => exact absurd hs (hno q)
  | suspended q => simp only [State.suspend, h, hs]
  | refunded d a => simp only [State.suspend, h, hs]
  | expired => simp only [State.suspend, h, hs]

theorem State.resume_of_none (h : s.findPass (passArg p) = none) : s.resume p = (s, bare .unknown) := by
  simp only [State.resume, h]

theorem State.resume_of_suspended (h : s.findPass (passArg p) = some (n, e)) (hq : e.state = .suspended q) :
    s.resume p = (s.putEntry n { e with state := .live q }, [Code.ok.byte, byteOf (PassState.live q).stateByte]) := by
  simp only [State.resume, h, hq]

theorem State.resume_of_other (h : s.findPass (passArg p) = some (n, e)) (hno : ∀ q, e.state ≠ .suspended q) :
    s.resume p = (s, bare .notAllowed) := by
  cases hs : e.state with
  | live q => simp only [State.resume, h, hs]
  | suspended q => exact absurd hs (hno q)
  | refunded d a => simp only [State.resume, h, hs]
  | expired => simp only [State.resume, h, hs]

end

/-- Settles O17: the cases of `State.reissue`, `State.suspend` and `State.resume`, each on the charged state. -/
theorem reissueSuspendAndResume : Obligations.ReissueSuspendAndResume := by
  unfold Obligations.ReissueSuspendAndResume
  refine ⟨fun s r hgrants => ?_, fun s r hgrants => ?_, fun s r hgrants => ?_⟩ <;> intro g
  · have hexec {u : State} {bs : List Byte} (h : g.reissue r.frame.payload = (u, bs)) :
        exec .reissue s = .next (u.complete r.port r.index r.frame bs) := congrArg Host.Outcome.next (State.grants_answers hgrants h)
    have hfind : g.findPass (passArg r.frame.payload) = s.findPass (passArg r.frame.payload) := by simp [g]
    rw [← hfind]
    exact ⟨fun hnone => hexec (State.reissue_of_none hnone),
      fun n e he => ⟨fun h => hexec (State.reissue_of_last he h), fun h => hexec (State.reissue_of_some he h)⟩⟩
  · have hexec {u : State} {bs : List Byte} (h : g.suspend r.frame.payload = (u, bs)) :
        exec .suspend s = .next (u.complete r.port r.index r.frame bs) := congrArg Host.Outcome.next (State.grants_answers hgrants h)
    have hfind : g.findPass (passArg r.frame.payload) = s.findPass (passArg r.frame.payload) := by simp [g]
    rw [← hfind]
    exact ⟨fun hnone => hexec (State.suspend_of_none hnone),
      fun n e he => ⟨fun h => hexec (State.suspend_of_other he h), fun q hq => hexec (State.suspend_of_live he hq)⟩⟩
  · have hexec {u : State} {bs : List Byte} (h : g.resume r.frame.payload = (u, bs)) :
        exec .resume s = .next (u.complete r.port r.index r.frame bs) := congrArg Host.Outcome.next (State.grants_answers hgrants h)
    have hfind : g.findPass (passArg r.frame.payload) = s.findPass (passArg r.frame.payload) := by simp [g]
    rw [← hfind]
    exact ⟨fun hnone => hexec (State.resume_of_none hnone),
      fun n e he => ⟨fun h => hexec (State.resume_of_other he h), fun q hq => hexec (State.resume_of_suspended he hq)⟩⟩

end Sys2Proof.Machine

/-! RESTORE: the checks in order and the entry that it rebuilds (section 1.7). -/

namespace Sys2Proof.Machine

theorem RawRecord.all_fieldsOk_iff {rs : List RawRecord} : rs.all RawRecord.fieldsOk = true ↔ RecordsValid rs := by
  simp [RawRecord.fieldsOk, RecordsValid, and_assoc]

section

variable {s : State} {p : List Byte}

/-- What steps 1 to 4 of R18 ask of the payload of a RESTORE. -/
structure RestoreValid (today : Nat) (p : List Byte) : Prop where
  fields  : (issueFields p).Valid
  lost    : restoreLost p ≤ 30
  count   : restoreCount p ≤ 5
  records : RecordsValid (restoreRecords p)
  days    : DaysValid (issueFields p).validFrom (issueFields p).validTo today (restoreRecords p)
  room    : restoreCount p + restoreLost p ≤ (issueFields p).bought

theorem State.restoreCheck_of_unset (h : s.clock.state = .unset) : s.restoreCheck p = .clockUnset := if_pos h

theorem State.restoreCheck_of_running (hclock : s.clock.state = .running) : s.restoreCheck p =
    if (issueFields p).ok = false ∨ 30 < restoreLost p ∨ 5 < restoreCount p then .badValue
    else if (restoreRecords p).all RawRecord.fieldsOk = false
      ∨ recordDaysOk (issueFields p).validFrom (issueFields p).validTo s.clock.day (restoreRecords p) = false then .badValue
    else if (issueFields p).bought < restoreCount p + restoreLost p then .badValue
    else if (s.product (Fin.ofNat 64 (issueFields p).product)).defined = false then .productVoid
    else if (s.product (Fin.ofNat 64 (issueFields p).product)).kind = .control ∧ (restoreCount p ≠ 0 ∨ restoreLost p ≠ 0) then .badValue
    else .ok := if_neg (by rw [hclock]; exact ClockState.noConfusion)

theorem State.restoreCheck_of_bad (hclock : s.clock.state = .running) (hbad : ¬RestoreValid s.clock.day p) :
    s.restoreCheck p = .badValue := by
  rw [State.restoreCheck_of_running hclock]
  split_ifs with h1 h2 h3
  · rfl
  · rfl
  · rfl
  all_goals
    simp only [not_or, Bool.not_eq_false] at h1 h2
    exact absurd ⟨(IssueFields.ok_iff _).1 h1.1, by omega, by omega, RawRecord.all_fieldsOk_iff.1 h2.1, recordDaysOk_iff.1 h2.2,
      by omega⟩ hbad

theorem State.restoreCheck_of_valid (hclock : s.clock.state = .running) (hvalid : RestoreValid s.clock.day p) : s.restoreCheck p =
    if (s.product (Fin.ofNat 64 (issueFields p).product)).defined = false then .productVoid
    else if (s.product (Fin.ofNat 64 (issueFields p).product)).kind = .control ∧ (restoreCount p ≠ 0 ∨ restoreLost p ≠ 0) then .badValue
    else .ok := by
  obtain ⟨hfields, hlost, hcount, hrecords, hdays, hroom⟩ := hvalid
  rw [State.restoreCheck_of_running hclock, if_neg, if_neg, if_neg (by omega)]
  · rw [RawRecord.all_fieldsOk_iff.2 hrecords, recordDaysOk_iff.2 hdays]; simp
  · rw [(IssueFields.ok_iff _).2 hfields]; simp; omega

@[simp] theorem State.charge_restoreCheck (g : Grant) : (s.charge g).restoreCheck p = s.restoreCheck p := by simp [State.restoreCheck]

/-- The entry that a RESTORE rebuilds, by its chain (R19). -/
def restoredEntry (p : List Byte) (c : Option Chain) : Entry :=
  { (issueFields p).entry with
    used := restoreCount p + restoreLost p, lost := restoreLost p
    state := .live (restoredState (restoreCount p + restoreLost p) (issueFields p).bought), chain := c
    lastUse := ((restoreRecords p).map RawRecord.record).getLast?.map UseRecord.day }

/-- The response of a RESTORE that rebuilds an entry (R19). -/
def restoredReply (p : List Byte) : List Byte :=
  [Code.ok.byte, byteOf (restoredState (restoreCount p + restoreLost p) (issueFields p).bought).code,
    byteOf (restoreCount p + restoreLost p)]

theorem restoreRecords_length (p : List Byte) : ((restoreRecords p).map RawRecord.record).length = restoreCount p := by
  simp [restoreRecords, rawRecords_length]

theorem restoreRecords_nil (h : restoreCount p = 0) : (restoreRecords p).map RawRecord.record = [] :=
  List.eq_nil_of_length_eq_zero ((restoreRecords_length p).trans h)

theorem restoreRecords_isEmpty (h : 1 ≤ restoreCount p) : ((restoreRecords p).map RawRecord.record).isEmpty = false := by
  rw [List.isEmpty_eq_false_iff, ← List.length_pos_iff, restoreRecords_length]
  exact h

theorem State.restore_of_refused {c : Code} (h : s.restoreCheck p = c) (hc : c ≠ .ok) : s.restore p = (s, bare c) := by
  subst h
  exact if_pos hc

theorem State.restore_of_known (h : s.restoreCheck p = .ok) (hknown : s.findPass (issueFields p).pass ≠ none) :
    s.restore p = (s, bare .exists_) :=
  (if_neg (by simp [h])).trans (if_pos (State.findSlot_isSome.2 hknown))

/-- A RESTORE of a pass that has no entry, from its search for a place on. -/
theorem State.restore_of_new (h : s.restoreCheck p = .ok) (hnew : s.findPass (issueFields p).pass = none) :
    (s.freeSlotFor (issueFields p).pass = none → s.restore p = (s.toMust, bare .bucketFull))
      ∧ ∀ n, s.freeSlotFor (issueFields p).pass = some n →
        (restoreCount p = 0 → s.restore p = (s.place n (restoredEntry p none), restoredReply p))
        ∧ (1 ≤ restoreCount p →
          (s.history.free = [] → s.restore p = (s, bare .historyFull))
          ∧ ∀ a, s.history.append none ((restoreRecords p).map RawRecord.record) = some a →
              s.restore p = ((s.withHistory a.history).place n (restoredEntry p (some a.chain)), restoredReply p)) := by
  have hslot : s.findSlot (issueFields p).pass = none := State.findSlot_eq_none.2 hnew
  refine ⟨fun hfull => ?_, fun n hfree => ⟨fun hzero => ?_, fun hsome => ⟨fun hempty => ?_, fun a ha => ?_⟩⟩⟩
  · simp only [State.restore, h, hslot, hfull, ne_eq, not_true, if_false, Option.isSome_none, Bool.false_eq_true]
  · simp only [State.restore, h, hslot, hfree, ne_eq, not_true, if_false, Option.isSome_none, Bool.false_eq_true, restoreRecords_nil hzero,
      List.isEmpty_nil, if_true, restoredEntry, restoredReply, List.getLast?_nil, Option.map_none]
    rfl
  · have hnone : s.history.append none ((restoreRecords p).map RawRecord.record) = none := by simp [History.append, hempty]
    simp only [State.restore, h, hslot, hfree, ne_eq, not_true, if_false, Option.isSome_none, Bool.false_eq_true,
      restoreRecords_isEmpty hsome, hnone]
  · simp only [State.restore, h, hslot, hfree, ne_eq, not_true, if_false, Option.isSome_none, Bool.false_eq_true,
      restoreRecords_isEmpty hsome, ha, restoredEntry, restoredReply]

/-- Where the records of a RESTORE go: nowhere without records, and otherwise into the granule at the head of the free queue, which is
the whole chain (R19, R39). -/
structure RestoredHistory (p : List Byte) (h h' : History) (c : Option Chain) : Prop where
  none : restoreCount p = 0 → c = none ∧ h' = h
  some : 1 ≤ restoreCount p → ∃ g rest, h.free = g :: rest ∧ c = some { head := g, tail := g, fill := restoreCount p } ∧ h'.free = rest
    ∧ h'.granule g = some { link := .last (restoreCount p), records := (restoreRecords p).map RawRecord.record }
    ∧ (∀ j, j ≠ g → h'.granule j = h.granule j) ∧ h'.full = h.full

theorem State.restore_places {n : Nat} (h : s.restoreCheck p = .ok) (hnew : s.findPass (issueFields p).pass = none)
    (hfree : s.freeSlotFor (issueFields p).pass = some n) (hroom : restoreCount p = 0 ∨ s.history.free ≠ []) :
    ∃ h' c, s.restore p = ((s.withHistory h').place n (restoredEntry p c), restoredReply p) ∧ RestoredHistory p s.history h' c := by
  obtain ⟨hzero, hsome⟩ := (State.restore_of_new h hnew).2 n hfree
  by_cases h0 : restoreCount p = 0
  · exact ⟨s.history, none, hzero h0, fun _ => ⟨rfl, rfl⟩, fun h1 => absurd h1 (by omega)⟩
  · have h1 : 1 ≤ restoreCount p := by omega
    obtain ⟨g, rest, hqueue⟩ := List.exists_cons_of_ne_nil (hroom.resolve_left h0)
    have ha := History.append_none hqueue ((restoreRecords p).map RawRecord.record)
    refine ⟨_, _, (hsome h1).2 _ ha, fun h => absurd h h0, fun _ => ⟨g, rest, hqueue, ?_, rfl, ?_, fun j hj => ?_, rfl⟩⟩
    · rw [restoreRecords_length]
    · rw [History.putGranule_granule, if_pos rfl, restoreRecords_length]
    · rw [History.putGranule_granule, if_neg hj, History.withFree_granule]

end

/-- Settles O18: `State.restoreCheck` gives the first check that fails, and `State.restore_places` the entry and its one granule. -/
theorem restoreRebuildsAnEntry : Obligations.RestoreRebuildsAnEntry := by
  unfold Obligations.RestoreRebuildsAnEntry
  refine ⟨fun s r n hgrants => ?_, fun s r hgrants => ?_⟩
  · intro p f product rs counted q hclock hvalid hlost hcount hrecords hdays hroom hdefined hkind habsent hlowest hqueue
    have hcheck : (s.charge (.request r)).restoreCheck p = .ok := by
      rw [State.charge_restoreCheck, State.restoreCheck_of_valid hclock ⟨hvalid, hlost, hcount, hrecords, hdays, hroom⟩,
        if_neg (ne_false_of_eq_true hdefined), if_neg]
      rintro ⟨hcontrol, hne⟩
      rcases hkind with hrider | hzero
      · exact Kind.noConfusion (hrider.symm.trans hcontrol)
      · have : restoreCount p + restoreLost p = 0 := hzero
        omega
    obtain ⟨h', c, heval, hhistory⟩ := State.restore_places (n := n) hcheck (by simpa using habsent)
      (by rw [State.freeSlotFor_congr (s := s) (by simp)]; exact State.freeSlotFor_eq_some.2 hlowest) (by simpa using hqueue)
    have hexec : exec .restore s = .next ((((s.charge (.request r)).withHistory h').place n (restoredEntry p c)).complete r.port r.index
        r.frame (restoredReply p)) := congrArg Host.Outcome.next (State.grants_answers hgrants heval)
    obtain ⟨hentry, hothers, hfree, hsweep, hlow⟩ := State.place_granted (s := s) (r := r) (n := n) (e := restoredEntry p c)
      (bs := restoredReply p) ((s.charge (.request r)).withHistory h') (by simp) (by simp) (by simp)
    obtain ⟨hanswers, hports⟩ := State.granted_ports (s := s) (r := r)
      (t := ((s.charge (.request r)).withHistory h').place n (restoredEntry p c)) (bs := restoredReply p) (by simp)
      (by simp [State.SameTransactions.refl])
    have hkept : ((((s.charge (.request r)).withHistory h').place n (restoredEntry p c)).complete r.port r.index r.frame
        (restoredReply p)).history = h' := by simp
    simp only [State.charge_frame] at hhistory
    refine ⟨_, c, hexec, hentry, fun h0 => ?_, fun h1 => ?_, hothers, hfree, hanswers, ?_, hsweep, hlow, hports, exec_frame hexec⟩
    · rw [hkept]; exact hhistory.none h0
    · rw [hkept]; exact hhistory.some h1
    · rw [State.complete_arbiter]; simp
  · intro p f product counted refused g
    have hanswer {u : State} {c : Code} (h : g.restore p = (u, bare c)) :
        exec .restore s = .next (u.complete r.port r.index r.frame [c.byte]) := congrArg Host.Outcome.next (State.grants_answers hgrants h)
    have hrefused {c : Code} (h : s.restoreCheck p = c) (hc : c ≠ .ok) : refused g c.byte :=
      hanswer (State.restore_of_refused (by simpa [g] using h) hc)
    refine ⟨fun hunset => hrefused (State.restoreCheck_of_unset hunset) Code.noConfusion, fun hclock => ?_⟩
    have hbad (h : ¬RestoreValid s.clock.day p) : refused g 4 := hrefused (State.restoreCheck_of_bad hclock h) Code.noConfusion
    refine ⟨fun h => hbad fun hv => h ⟨hv.fields, hv.lost, hv.count⟩, fun hvalid hlost hcount =>
      ⟨fun h => hbad fun hv => h ⟨hv.records, hv.days⟩, fun hrecords hdays => ⟨fun h => hbad fun hv => absurd hv.room (Nat.not_le.2 h),
        fun hroom => ?_⟩⟩⟩
    have hcheck := State.restoreCheck_of_valid hclock ⟨hvalid, hlost, hcount, hrecords, hdays, hroom⟩
    refine ⟨fun hvoid => hrefused (hcheck.trans (if_pos hvoid)) Code.noConfusion, fun hdefined => ?_⟩
    rw [if_neg (ne_false_of_eq_true hdefined)] at hcheck
    refine ⟨fun hcontrol hsome => ?_, fun hkind => ?_⟩
    · have : 1 ≤ restoreCount p + restoreLost p := hsome
      exact hrefused (hcheck.trans (if_pos ⟨hcontrol, by omega⟩)) Code.noConfusion
    have hok : g.restoreCheck p = .ok := by
      rw [State.charge_restoreCheck, hcheck, if_neg]
      rintro ⟨hcontrol, hne⟩
      rcases hkind with hrider | hzero
      · exact Kind.noConfusion (hrider.symm.trans hcontrol)
      · have : restoreCount p + restoreLost p = 0 := hzero
        omega
    have hfree : g.freeSlotFor f.pass = s.freeSlotFor f.pass := State.freeSlotFor_congr (by simp [g]) _
    refine ⟨fun hknown => hanswer (State.restore_of_known hok (by simpa [g] using hknown)), fun hnew => ?_⟩
    have hplace := State.restore_of_new hok (p := p) (by simpa [g] using hnew)
    refine ⟨fun hfull => ?_, fun hnotFull hsome hqueue => ?_⟩
    · show exec .restore s = _
      rw [← State.toMust_eq]
      exact hanswer (hplace.1 (hfree.trans (State.freeSlotFor_eq_none.2 hfull)))
    · obtain ⟨n, hn⟩ := Option.ne_none_iff_exists'.1 fun h => hnotFull (State.freeSlotFor_eq_none.1 h)
      exact hanswer (((hplace.2 n (hfree.trans hn)).2 hsome).1 (by simpa [g] using hqueue))

end Sys2Proof.Machine

/-! ADD_USE: the checks in order and the records that it appends (section 1.7). -/

namespace Sys2Proof.Machine

/-- What step 2 of R20 asks of the payload of an ADD_USE. -/
structure AddValid (p : List Byte) : Prop where
  some    : 1 ≤ addCount p
  few     : addCount p ≤ 5
  records : RecordsValid (addRecords p)

/-- What steps 7 and 8 of R20 ask: days within the window, after the last-use day, and no more than are bought. -/
structure State.AddRoom (s : State) (e : Entry) (p : List Byte) : Prop where
  days  : DaysValid e.validFrom e.validTo s.clock.day (addRecords p)
  after : ∀ d x, e.lastUse = some d → (addRecords p).head? = some x → d < x.day
  room  : e.used + addCount p ≤ e.bought

theorem addFields_iff {p : List Byte} :
    ¬(addCount p = 0 ∨ 5 < addCount p ∨ (addRecords p).all RawRecord.fieldsOk = false) ↔ AddValid p := by
  rw [not_or, not_or, Bool.not_eq_false, RawRecord.all_fieldsOk_iff]
  exact ⟨fun ⟨h1, h2, h3⟩ => ⟨by omega, by omega, h3⟩, fun ⟨h1, h2, h3⟩ => ⟨by omega, by omega, h3⟩⟩

theorem State.addDaysOk_iff {s : State} {e : Entry} {p : List Byte} : s.addDaysOk e (addRecords p) = true ↔ s.AddRoom e p := by
  have hlength : (addRecords p).length = addCount p := rawRecords_length _ _ _
  have hafter (d? : Option Nat) (x? : Option RawRecord) :
      ((match d?, x? with | some d, some x => d < x.day | _, _ => true) : Bool) = true
        ↔ ∀ d x, d? = some d → x? = some x → d < x.day := by
    cases d? <;> cases x? <;> simp
  simp only [State.addDaysOk, Bool.and_eq_true, recordDaysOk_iff, decide_eq_true_eq, hlength]
  constructor
  · rintro ⟨⟨hdays, h⟩, hroom⟩
    exact ⟨hdays, (hafter _ _).1 h, hroom⟩
  · rintro ⟨hdays, h, hroom⟩
    exact ⟨⟨hdays, (hafter _ _).2 h⟩, hroom⟩

theorem PassState.takesRecords_iff {x : PassState} : x.takesRecords = true ↔ ∃ q, x = .live q ∨ x = .suspended q := by
  cases x <;> simp [PassState.takesRecords]

/-- The state change of R21, as the manual's cases. -/
theorem LiveState.added_eq (q : LiveState) {used bought : Nat} (h : 0 < used) : q.added used bought
    = if used = bought then .exhausted else if q = .issued then .active else q := by
  simp [LiveState.added, h]

section

variable {s : State} {p : List Byte} {n : Nat} {e : Entry}

theorem State.addUse_of_unset (h : s.clock.state = .unset) : s.addUse p = (s, bare .clockUnset) := if_pos h

section

variable (hclock : s.clock.state ≠ .unset)
include hclock

theorem State.addUse_of_bad (h : ¬AddValid p) : s.addUse p = (s, bare .badValue) :=
  (if_neg hclock).trans (if_pos (by rwa [← addFields_iff, not_not] at h))

variable (hvalid : AddValid p)
include hvalid

theorem State.addUse_of_unknown (h : s.findPass (passArg p) = none) : s.addUse p = (s, bare .unknown) := by
  simp only [State.addUse, if_neg hclock, if_neg (addFields_iff.2 hvalid), h]

variable (hfind : s.findPass (passArg p) = some (n, e))
include hfind

theorem State.addUse_of_closed (h : e.state.takesRecords = false) : s.addUse p = (s, bare .notAllowed) := by
  simp only [State.addUse, if_neg hclock, if_neg (addFields_iff.2 hvalid), hfind, if_pos h]

variable (htakes : e.state.takesRecords = true)
include htakes

theorem State.addUse_of_void (h : (s.product e.product).defined = false) : s.addUse p = (s, bare .productVoid) := by
  simp only [State.addUse, if_neg hclock, if_neg (addFields_iff.2 hvalid), hfind, if_neg (ne_false_of_eq_true htakes), if_pos h]

variable (hdefined : (s.product e.product).defined = true)
include hdefined

theorem State.addUse_of_control (h : (s.product e.product).kind ≠ .rider) : s.addUse p = (s, bare .notAllowed) := by
  simp only [State.addUse, if_neg hclock, if_neg (addFields_iff.2 hvalid), hfind, if_neg (ne_false_of_eq_true htakes),
    if_neg (ne_false_of_eq_true hdefined), if_pos h]

variable (hrider : (s.product e.product).kind = .rider)
include hrider

theorem State.addUse_of_noRoom (h : ¬s.AddRoom e p) : s.addUse p = (s, bare .badValue) := by
  simp only [State.addUse, if_neg hclock, if_neg (addFields_iff.2 hvalid), hfind, if_neg (ne_false_of_eq_true htakes),
    if_neg (ne_false_of_eq_true hdefined), if_neg (not_not_intro hrider), if_pos (Bool.eq_false_iff.2 fun hd => h (State.addDaysOk_iff.1 hd))]

variable (hroom : s.AddRoom e p)
include hroom

theorem State.addUse_of_full (h : s.history.append e.chain ((addRecords p).map RawRecord.record) = none) :
    s.addUse p = (s, bare .historyFull) := by
  simp only [State.addUse, if_neg hclock, if_neg (addFields_iff.2 hvalid), hfind, if_neg (ne_false_of_eq_true htakes),
    if_neg (ne_false_of_eq_true hdefined), if_neg (not_not_intro hrider), if_neg (ne_false_of_eq_true (State.addDaysOk_iff.2 hroom)), h]

theorem State.addUse_of_append {a : Appended} (h : s.history.append e.chain ((addRecords p).map RawRecord.record) = some a) :
    s.addUse p = ((s.withHistory a.history).putEntry n
        { e with
          chain := some a.chain, used := e.used + addCount p, state := e.state.added (e.used + addCount p) e.bought
          lastUse := ((addRecords p).getLast?).map RawRecord.day },
      [Code.ok.byte, flagByte (e.state.added (e.used + addCount p) e.bought).prior?.isSome,
        byteOf (e.state.added (e.used + addCount p) e.bought).stateByte, byteOf (e.used + addCount p)]) := by
  simp only [State.addUse, if_neg hclock, if_neg (addFields_iff.2 hvalid), hfind, if_neg (ne_false_of_eq_true htakes),
    if_neg (ne_false_of_eq_true hdefined), if_neg (not_not_intro hrider), if_neg (ne_false_of_eq_true (State.addDaysOk_iff.2 hroom)), h]

end

end

theorem ClockState.ne_unset {c : ClockState} (h : c = .running) : c ≠ .unset := h ▸ ClockState.noConfusion

/-- Settles O19: the cases of `State.addUse` in the order of its checks, and the state that `PassState.added` moves on to. -/
theorem addUseAppendsRecords : Obligations.AddUseAppendsRecords := by
  unfold Obligations.AddUseAppendsRecords
  refine ⟨fun s r n e q a hgrants => ?_, fun s r hgrants => ?_⟩
  · intro p rs used moved hclock hsome hfew hrecords hfind hdefined hrider hdays hafter hroom happend
    have hmoved : q.added used e.bought = moved := LiveState.added_eq q (by show 0 < e.used + addCount p; omega)
    have hgives (htakes : e.state.takesRecords = true) :=
      congrArg (Host.Outcome.next : State → Result) (State.grants_answers hgrants (eval := State.addUse) (State.addUse_of_append (s := s.charge (.request r)) (p := p)
        (n := n) (e := e) (by simpa using ClockState.ne_unset hclock) ⟨hsome, hfew, hrecords⟩ (by simpa using hfind) htakes
        (by simpa using hdefined) (by simpa using hrider) ⟨by simpa using hdays, hafter, hroom⟩ (by simpa using happend)))
    refine ⟨fun hq => (hgives ?_).trans ?_, fun hq => (hgives ?_).trans ?_⟩
    · exact PassState.takesRecords_iff.2 ⟨q, .inl hq⟩
    · rw [hq, ← hmoved]; rfl
    · exact PassState.takesRecords_iff.2 ⟨q, .inr hq⟩
    · rw [hq, ← hmoved]; rfl
  · intro p rs refused
    have hanswer {c : Code} (h : (s.charge (.request r)).addUse p = (s.charge (.request r), bare c)) : refused c.byte :=
      congrArg Host.Outcome.next (State.grants_answers hgrants h)
    refine ⟨fun hunset => hanswer (State.addUse_of_unset (by simpa using hunset)), fun hclock => ?_⟩
    have hclock' : (s.charge (.request r)).clock.state ≠ .unset := by simpa using ClockState.ne_unset hclock
    refine ⟨fun h => hanswer (State.addUse_of_bad hclock' fun hv => h ⟨hv.some, hv.few, hv.records⟩), fun hsome hfew hrecords => ?_⟩
    have hvalid : AddValid p := ⟨hsome, hfew, hrecords⟩
    refine ⟨fun h => hanswer (State.addUse_of_unknown hclock' hvalid (by simpa using h)), fun n e hfind => ?_⟩
    have hfind' : (s.charge (.request r)).findPass (passArg p) = some (n, e) := by simpa using hfind
    refine ⟨fun h => hanswer (State.addUse_of_closed hclock' hvalid hfind' ?_), fun q hq => ?_⟩
    · rw [Bool.eq_false_iff, ne_eq, PassState.takesRecords_iff]
      rintro ⟨q, hq | hq⟩
      · exact (h q).1 hq
      · exact (h q).2 hq
    have htakes : e.state.takesRecords = true := PassState.takesRecords_iff.2 ⟨q, hq⟩
    have hproduct : (s.charge (.request r)).product e.product = s.product e.product := by simp
    have hday : (s.charge (.request r)).clock.day = s.clock.day := by simp
    refine ⟨fun h => hanswer (State.addUse_of_void hclock' hvalid hfind' htakes (by rw [hproduct, h])), fun hdefined => ?_⟩
    have hdefined' : ((s.charge (.request r)).product e.product).defined = true := by rw [hproduct, hdefined]
    refine ⟨fun h => hanswer (State.addUse_of_control hclock' hvalid hfind' htakes hdefined' (by rw [hproduct, h]; exact Kind.noConfusion)),
      fun hrider => ?_⟩
    have hrider' : ((s.charge (.request r)).product e.product).kind = .rider := by rw [hproduct, hrider]
    refine ⟨fun h => hanswer (State.addUse_of_noRoom hclock' hvalid hfind' htakes hdefined' hrider' fun hr =>
        h ⟨hday ▸ hr.days, hr.after, hr.room⟩), fun hdays hafter hroom happend => ?_⟩
    exact hanswer (State.addUse_of_full hclock' hvalid hfind' htakes hdefined' hrider' ⟨hday ▸ hdays, hafter, hroom⟩ (by simpa using happend))

end Sys2Proof.Machine

/-! What responses, use records and card images carry, byte by byte (sections 11.1, 11.3 and 11.4). -/

namespace Sys2Proof.Machine

/-! ### Fields at their places -/

section

variable {p : List Byte} {i w n : Nat}

/-- A field whose bytes stand at its place is read as it was written. -/
theorem fieldAt_of_bytes (h : (p.drop i).take w = bytesOf w n) (hn : n < 256 ^ w) : fieldAt i w p = n := by
  rw [fieldAt, h, numberOf_bytesOf, Nat.mod_eq_of_lt hn]

theorem byteAt_eq_fieldAt (i : Nat) (p : List Byte) : byteAt i p = fieldAt i 1 p := by
  unfold byteAt fieldAt
  rw [List.getD_eq_getElem?_getD, ← List.head?_drop]
  cases p.drop i with
  | nil => rfl
  | cons b bs => exact (Nat.zero_add _).symm

theorem byteAt_of_byteOf (h : (p.drop i).take 1 = [byteOf n]) (hn : n < 256) : byteAt i p = n := by
  rw [byteAt_eq_fieldAt, fieldAt, h, numberOf_cons, byteOf_toNat, Nat.mod_eq_of_lt hn]
  simp

end

/-! ### Use records and card images -/

theorem UseRecord.bytes_length (x : UseRecord) : x.bytes.length = 6 := rfl

theorem UseRecord.rawRecord_bytes (x : UseRecord) (hday : x.day < 65536) (hfirst : x.first < 131072) (hadmits : x.admits < 256) :
    rawRecord x.bytes = { day := x.day, cls := x.cls.val, first := x.first, admits := x.admits, lifts := x.lifts } := by
  have hcls := x.cls.isLt
  have hlifts := x.lifts.isLt
  have hvalue : fieldAt 2 3 x.bytes = x.cls.val * 2097152 + x.lifts.toNat * 131072 + x.first := fieldAt_of_bytes rfl (by omega)
  have hmask : BitVec.ofNat 4 ((x.cls.val * 2097152 + x.lifts.toNat * 131072 + x.first) / 131072) = x.lifts := by
    apply BitVec.eq_of_toNat_eq
    rw [BitVec.toNat_ofNat]
    omega
  rw [rawRecord, hvalue, hmask, fieldAt_of_bytes (n := x.day) rfl (by omega), byteAt_of_byteOf (n := x.admits) rfl hadmits]
  congr 1 <;> omega

/-- The first 13 bytes of an image of a card, before its check (R11). -/
def Card.unchecked (c : Card) : List Byte :=
  [0xC6, 1, 10] ++ bytesOf 4 c.pass ++ [byteOf c.seq, byteOf c.product] ++ bytesOf 2 c.validFrom ++ bytesOf 2 c.resort

theorem Card.bytes_eq (c : Card) : c.bytes = c.unchecked ++ bytesOf 2 (65535 - imageSum c.unchecked) := rfl

theorem imageSum_le (b : List Byte) : imageSum b ≤ 13 * 255 := by
  have hbound : ∀ x ∈ (b.take 13).map BitVec.toNat, x ≤ 255 := by
    simp only [List.mem_map]
    rintro _ ⟨y, -, rfl⟩
    have := y.isLt
    omega
  have hlength : ((b.take 13).map BitVec.toNat).length ≤ 13 := by simp
  calc imageSum b ≤ ((b.take 13).map BitVec.toNat).length • 255 := List.sum_le_card_nsmul _ _ hbound
    _ ≤ 13 * 255 := Nat.mul_le_mul_right _ hlength

theorem imageSum_eq_range {b : List Byte} (h : b.length = 15) : imageSum b = ((List.range 13).map fun i => byteAt i b).sum := by
  unfold imageSum
  congr 1
  apply List.ext_getElem
  · simp [h]
  · intro i h1 h2
    have hi : i < b.length := by simp at h2; omega
    simp [byteAt, hi]

theorem readImage_bytes (c : Card) (hpass : c.pass < 4294967296) (hseq : c.seq < 256) (hproduct : c.product < 256)
    (hfrom : c.validFrom < 65536) (hresort : c.resort < 65536) : readImage c.bytes = .card c := by
  have hlength : c.bytes.length = 15 := rfl
  have hsum : imageSum c.bytes = imageSum c.unchecked := rfl
  have hle := imageSum_le c.unchecked
  have hcheck : fieldAt 13 2 c.bytes = 65535 - imageSum c.unchecked := fieldAt_of_bytes rfl (by omega)
  unfold readImage
  rw [if_neg (by rw [hlength]; decide), if_neg (by rw [show byteAt 0 c.bytes = 0xC6 from rfl]; decide),
    if_neg (by rw [show byteAt 1 c.bytes = 1 from rfl]; decide), if_neg (by rw [show byteAt 2 c.bytes = 10 from rfl]; decide),
    if_neg (by rw [hsum, hcheck]; omega), fieldAt_of_bytes (n := c.pass) rfl (by omega), byteAt_of_byteOf (n := c.seq) rfl hseq,
    byteAt_of_byteOf (n := c.product) rfl hproduct, fieldAt_of_bytes (n := c.validFrom) rfl (by omega),
    fieldAt_of_bytes (n := c.resort) rfl (by omega)]

/-- Settles O21: the fields stand at their bytes, and `readImage` makes its checks in their order. -/
theorem recordAndCardBytesRoundTrip : Obligations.RecordAndCardBytesRoundTrip := by
  unfold Obligations.RecordAndCardBytesRoundTrip
  refine ⟨fun x hday hfirst hadmits => ?_, fun c h1 h2 h3 h4 h5 => ⟨readImage_bytes c h1 h2 h3 h4 h5, rfl⟩, fun b => ⟨fun h => if_pos h, fun h => ?_⟩⟩
  · rw [x.rawRecord_bytes hday hfirst hadmits]
    refine ⟨?_, rfl, rfl⟩
    have hcls : Fin.ofNat 4 x.cls.val = x.cls := Fin.ext (Nat.mod_eq_of_lt x.cls.isLt)
    rw [RawRecord.record, hcls]
  · have hread : readImage b = _ := if_neg (not_not_intro h)
    refine ⟨fun h0 => hread.trans (if_pos h0), fun h0 h1 => ?_, fun h0 h1 h2 => ?_, fun h0 h1 h2 => ?_⟩
    · rw [hread, if_neg (not_not_intro h0), if_pos h1]
    · rw [hread, if_neg (not_not_intro h0), if_neg (not_not_intro h1), if_pos h2]
    · rw [hread, if_neg (not_not_intro h0), if_neg (not_not_intro h1), if_neg (not_not_intro h2), ← imageSum_eq_range h]
      exact ⟨fun hne => if_pos hne, fun heq => if_neg (not_not_intro heq)⟩

/-! ### INQUIRE -/

theorem LiveState.code_le (q : LiveState) : q.code ≤ 2 := by cases q <;> decide

theorem PassState.code_le (x : PassState) : x.code ≤ 5 := by
  cases x with
  | live q => exact q.code_le.trans (by decide)
  | suspended q => exact Nat.le_of_ble_eq_true rfl
  | refunded d a => exact Nat.le_of_ble_eq_true rfl
  | expired => exact Nat.le_of_ble_eq_true rfl

theorem PassState.priorCode_le (x : PassState) : x.priorCode ≤ 2 := by
  cases x with
  | suspended q => exact q.code_le
  | live q => exact Nat.zero_le _
  | refunded d a => exact Nat.zero_le _
  | expired => exact Nat.zero_le _

theorem LastAdmit.word_fields (a : LastAdmit) (hsec : a.sec ≤ Config.lastSecond) : a.word < 16777216 ∧ a.word / 2097152 = a.lift.val
    ∧ a.word / 262144 % 8 = a.lane.val ∧ a.word % 262144 = a.sec := by
  have h1 := a.lift.isLt
  have h2 := a.lane.isLt
  have h3 : a.sec ≤ 86399 := hsec
  unfold LastAdmit.word
  omega

section

variable (e : Entry) (carried : List UseRecord) (count : Nat) (more : Bool)

theorem Entry.inquiry_length : (e.inquiry carried count more).length = 34 + 6 * carried.length := by
  have hrecords : (carried.flatMap UseRecord.bytes).length = 6 * carried.length := by
    simp [List.length_flatMap, UseRecord.bytes_length, Nat.mul_comm]
  simp only [Entry.inquiry, List.length_append, List.length_cons, List.length_nil, bytesOf_length, hrecords]

theorem Entry.inquiry_outcome : byteAt 0 (e.inquiry carried count more) = 0 :=
  byteAt_of_byteOf (by simp [Entry.inquiry]; rfl) (by decide)

theorem Entry.inquiry_records : (e.inquiry carried count more).drop 34 = carried.flatMap UseRecord.bytes := by
  simp [Entry.inquiry, bytesOf]

/-- The presence bits of an INQUIRE response (R200). -/
theorem Entry.inquiry_bit {i : Nat} (h : i < 8) : (byteAt 1 (e.inquiry carried count more)).testBit i
    = [e.state.prior?.isSome, e.lastUse.isSome, e.lastAdmit.isSome, e.chain.isSome, e.state.refund?.isSome, e.marker.isSome, more,
        false].getD i false := by
  have hbits : byteAt 1 (e.inquiry carried count more) = (byteOf (bitsOf [e.state.prior?.isSome, e.lastUse.isSome, e.lastAdmit.isSome,
      e.chain.isSome, e.state.refund?.isSome, e.marker.isSome, more, false])).toNat := by
    have hsum : bitAt 0 e.state.prior?.isSome + bitAt 1 e.lastUse.isSome + bitAt 2 e.lastAdmit.isSome + bitAt 3 e.chain.isSome
        + bitAt 4 e.state.refund?.isSome + bitAt 5 e.marker.isSome + bitAt 6 more = bitsOf [e.state.prior?.isSome, e.lastUse.isSome,
          e.lastAdmit.isSome, e.chain.isSome, e.state.refund?.isSome, e.marker.isSome, more, false] := by
      simp only [bitAt_eq, bitsOf, Bool.toNat_false]
      omega
    rw [← hsum, byteAt_eq_fieldAt]
    simp [Entry.inquiry, fieldAt, numberOf]
  rw [hbits, testBit_byteOf_bitsOf h h]

end

theorem State.inquire_of_none {s : State} {p : List Byte} (h : s.findPass (passArg p) = none) : s.inquire p = (s, bare .unknown) := by
  simp only [State.inquire, h]

theorem State.inquire_of_some {s : State} {p : List Byte} {n : Nat} {e : Entry} (h : s.findPass (passArg p) = some (n, e)) :
    s.inquire p = (s, e.inquiry (carriedRecords (s.history.records e.chain) (byteAt 4 p)) (s.history.records e.chain).length
      (byteAt 4 p + 5 < (s.history.records e.chain).length)) := by
  simp only [State.inquire, h]

theorem Option.getD_map_le {α : Type} {f : α → Nat} {o : Option α} {top : Nat} (h : ∀ x, o = some x → f x ≤ top) : (o.map f).getD 0 ≤ top := by
  cases o with
  | none => exact Nat.zero_le _
  | some x => exact h x rfl

/-- Bytes 0 and 2 to 8 of an INQUIRE response: the pass, its state and fill, its sequence and marker, and its product (R200). -/
theorem Entry.inquiry_identity {e : Entry} {today : Nat} (hok : e.Ok today) (hfill : ∀ c, e.chain = some c → c.fill ≤ 6)
    (carried : List UseRecord) (count : Nat) (more : Bool) :
    fieldAt 2 4 (e.inquiry carried count more) = e.pass
      ∧ byteAt 6 (e.inquiry carried count more) = e.state.code + 8 * e.state.priorCode + 32 * (e.chain.map Chain.fill).getD 0
      ∧ byteAt 7 (e.inquiry carried count more) = 16 * e.seq + (e.marker.map Fin.val).getD 0
      ∧ byteAt 8 (e.inquiry carried count more) = e.product.val := by
  obtain ⟨-, hpass, hseq, -⟩ := hok
  have hmarker : (e.marker.map Fin.val).getD 0 ≤ 7 := Option.getD_map_le fun l _ => Nat.le_of_lt_succ l.isLt
  have hchain := Option.getD_map_le hfill
  have hcode := e.state.code_le
  have hprior := e.state.priorCode_le
  have hproduct := e.product.isLt
  exact ⟨fieldAt_of_bytes (by simp [Entry.inquiry, bytesOf]) (by omega), byteAt_of_byteOf (by simp [Entry.inquiry, bytesOf, PassState.stateByte]) (by omega),
    byteAt_of_byteOf (by simp [Entry.inquiry, bytesOf]) (by omega), byteAt_of_byteOf (by simp [Entry.inquiry, bytesOf]) (by omega)⟩

/-- Bytes 9 to 18 of an INQUIRE response: the window, the days, the price and the last-use day (R200). -/
theorem Entry.inquiry_window {e : Entry} {today : Nat} (hok : e.Ok today) (htoday : today ≤ Config.lastDay) (carried : List UseRecord)
    (count : Nat) (more : Bool) :
    fieldAt 9 2 (e.inquiry carried count more) = e.validFrom
      ∧ byteAt 11 (e.inquiry carried count more) = e.validTo - e.validFrom
      ∧ fieldAt 12 2 (e.inquiry carried count more) = e.bought * 1024 + e.used * 32 + e.lost
      ∧ fieldAt 14 3 (e.inquiry carried count more) = e.price ∧ fieldAt 17 2 (e.inquiry carried count more) = e.lastUse.getD 0 := by
  obtain ⟨-, -, -, hfrom, hto, hwindow, -, hbought, hused, hlost, hprice, hlast, -⟩ := hok
  have hlastTo : e.validTo ≤ 65534 := hto
  have hlastUse : e.lastUse.getD 0 ≤ 65534 := by
    simpa using Option.getD_map_le (f := id) fun d hd => (hlast d hd).trans htoday
  exact ⟨fieldAt_of_bytes (by simp [Entry.inquiry, bytesOf]) (by omega), byteAt_of_byteOf (by simp [Entry.inquiry, bytesOf]) (by omega), fieldAt_of_bytes (by simp [Entry.inquiry, bytesOf]) (by omega), fieldAt_of_bytes (by simp [Entry.inquiry, bytesOf]) (by omega),
    fieldAt_of_bytes (by simp [Entry.inquiry, bytesOf]) (by omega)⟩

/-- Bytes 19 to 23 of an INQUIRE response: the last admission (R200). -/
theorem Entry.inquiry_lastAdmit {e : Entry} {today : Nat} (hok : e.Ok today) (htoday : today ≤ Config.lastDay) (carried : List UseRecord)
    (count : Nat) (more : Bool) :
    fieldAt 19 2 (e.inquiry carried count more) = (e.lastAdmit.map LastAdmit.day).getD 0
      ∧ fieldAt 21 3 (e.inquiry carried count more) / 2097152 = (e.lastAdmit.map fun a => a.lift.val).getD 0
      ∧ fieldAt 21 3 (e.inquiry carried count more) / 262144 % 8 = (e.lastAdmit.map fun a => a.lane.val).getD 0
      ∧ fieldAt 21 3 (e.inquiry carried count more) % 262144 = (e.lastAdmit.map LastAdmit.sec).getD 0 := by
  obtain ⟨-, -, -, -, -, -, -, -, -, -, -, -, hlastAdmit, -⟩ := hok
  have hday : (e.lastAdmit.map LastAdmit.day).getD 0 ≤ 65534 := Option.getD_map_le fun a ha => (hlastAdmit a ha).1.trans htoday
  have hword : (e.lastAdmit.map LastAdmit.word).getD 0 ≤ 16777215 := Option.getD_map_le fun a ha =>
    Nat.le_of_lt_succ (a.word_fields (hlastAdmit a ha).2).1
  rw [fieldAt_of_bytes (p := e.inquiry carried count more) (i := 21) (w := 3) (n := (e.lastAdmit.map LastAdmit.word).getD 0)
    (by simp [Entry.inquiry, bytesOf]) (by omega)]
  refine ⟨fieldAt_of_bytes (by simp [Entry.inquiry, bytesOf]) (by omega), ?_⟩
  cases hc : e.lastAdmit with
  | none => decide
  | some a => exact (a.word_fields (hlastAdmit a hc).2).2

/-- Bytes 24 to 33 of an INQUIRE response: the chain, the refund and the counts of records (R200). -/
theorem Entry.inquiry_chain {e : Entry} {today : Nat} (hok : e.Ok today) (htoday : today ≤ Config.lastDay)
    (hchain : ∀ c, e.chain = some c → c.head < 16384 ∧ c.tail < 16384 ∧ c.fill ≤ 6) {carried : List UseRecord}
    (hcarried : carried.length ≤ 5) {count : Nat} (hcount : count ≤ 30) (more : Bool) :
    fieldAt 24 2 (e.inquiry carried count more) = (e.chain.map Chain.head).getD 0
      ∧ fieldAt 26 2 (e.inquiry carried count more) = (e.chain.map Chain.tail).getD 0
      ∧ fieldAt 28 2 (e.inquiry carried count more) = (e.state.refund?.map Prod.fst).getD 0
      ∧ fieldAt 30 3 (e.inquiry carried count more) = (e.state.refund?.map Prod.snd).getD 0
      ∧ byteAt 33 (e.inquiry carried count more) = 32 * carried.length + count := by
  obtain ⟨-, -, -, -, -, -, -, -, -, -, hprice, -, -, hstate⟩ := hok
  have hhead : (e.chain.map Chain.head).getD 0 ≤ 16384 := Option.getD_map_le fun c hc => (hchain c hc).1.le
  have htail : (e.chain.map Chain.tail).getD 0 ≤ 16384 := Option.getD_map_le fun c hc => (hchain c hc).2.1.le
  have hrefund : (e.state.refund?.map Prod.fst).getD 0 ≤ 65534 ∧ (e.state.refund?.map Prod.snd).getD 0 ≤ 4000000 := by
    cases hs : e.state with
    | refunded d a =>
      rw [hs] at hstate
      exact ⟨hstate.1.trans htoday, hstate.2.trans hprice⟩
    | live q => exact ⟨Nat.zero_le _, Nat.zero_le _⟩
    | suspended q => exact ⟨Nat.zero_le _, Nat.zero_le _⟩
    | expired => exact ⟨Nat.zero_le _, Nat.zero_le _⟩
  exact ⟨fieldAt_of_bytes (by simp [Entry.inquiry, bytesOf]) (by omega), fieldAt_of_bytes (by simp [Entry.inquiry, bytesOf]) (by omega), fieldAt_of_bytes (by simp [Entry.inquiry, bytesOf]) (by omega), fieldAt_of_bytes (by simp [Entry.inquiry, bytesOf]) (by omega),
    byteAt_of_byteOf (by simp [Entry.inquiry, bytesOf]) (by omega)⟩

/-- Settles O20: every field stands at its bytes of `Entry.inquiry` and is in its range (R1), so it is read as it was written. -/
theorem inquireReportsTheEntry : Obligations.InquireReportsTheEntry := by
  unfold Obligations.InquireReportsTheEntry
  intro s r hgrants g
  have hfind : g.findPass (passArg r.frame.payload) = s.findPass (passArg r.frame.payload) := by simp [g]
  refine ⟨fun hnone => congrArg Host.Outcome.next (State.grants_answers hgrants (State.inquire_of_none (hfind.trans hnone))), ?_⟩
  intro n e he hok htoday hcount hchain start rs shown
  have hshown : shown.length ≤ 5 := by simp [shown]
  have heval := State.inquire_of_some (hfind.trans he)
  rw [show g.history = s.history by simp [g]] at heval
  have hlength := e.inquiry_length shown rs.length (start + 5 < rs.length)
  have houtcome := e.inquiry_outcome shown rs.length (start + 5 < rs.length)
  have hshows := e.inquiry_records shown rs.length (start + 5 < rs.length)
  obtain ⟨hpass, hsix, hseven, hproduct⟩ := Entry.inquiry_identity hok (fun c hc => (hchain c hc).2.2) shown rs.length (start + 5 < rs.length)
  obtain ⟨hfrom, hto, hdays, hprice, hlast⟩ := Entry.inquiry_window hok htoday shown rs.length (start + 5 < rs.length)
  obtain ⟨hday, hlift, hlane, hsec⟩ := Entry.inquiry_lastAdmit hok htoday shown rs.length (start + 5 < rs.length)
  obtain ⟨hhead, htail, hrefund, hamount, hrecords⟩ := Entry.inquiry_chain hok htoday hchain hshown hcount (start + 5 < rs.length)
  have hbit (i : Nat) (hi : i < 8) := e.inquiry_bit shown rs.length (start + 5 < rs.length) hi
  have hexec : exec .inquire s = .next (g.complete r.port r.index r.frame (e.inquiry shown rs.length (start + 5 < rs.length))) :=
    congrArg Host.Outcome.next (State.grants_answers hgrants heval)
  generalize e.inquiry shown rs.length (start + 5 < rs.length) = reply at *
  have hcode := e.state.code_le
  have hprior := e.state.priorCode_le
  have hmarker : (e.marker.map Fin.val).getD 0 ≤ 7 := Option.getD_map_le fun l _ => Nat.le_of_lt_succ l.isLt
  obtain ⟨-, -, -, -, -, -, -, hbought, hused, hlost, -⟩ := hok
  refine ⟨reply, hexec, hlength, houtcome, hpass, ?_, ?_, ?_, ?_, ?_, hproduct, hfrom, hto, ?_, ?_, ?_, hprice, hlast, hday, hlift, hlane, hsec,
    hhead, htail, hrefund, hamount, ?_, ?_, hbit 0 (by decide), hbit 1 (by decide), hbit 2 (by decide), hbit 3 (by decide), hbit 4 (by decide),
    hbit 5 (by decide), hbit 7 (by decide), ?_, hshows⟩
  any_goals omega
  · rw [hrecords, Nat.mul_add_mod]
    exact Nat.mod_eq_of_lt (Nat.lt_succ_of_le (hcount.trans (by decide)))
  rw [hbit 6 (by decide)]
  exact decide_eq_true_iff

end Sys2Proof.Machine

/-! The tick and the clock, the report timer and the sweep (sections 3.3, 7.4 and 9.4). -/

namespace Sys2Proof.Machine

/-! ### A tick in its parts -/

section

variable (s : State) (lines : LiftLines)

/-- A tick up to its hold tests (R40). -/
def State.tickedLifts : State := allLifts.foldl (fun u f => u.tickLift lines f) ((s.clocked lines).tickSweep s.clock.rolls)

theorem State.tickAll_eq : s.tickAll lines = (s.tickedLifts lines).testHolds.tickTimer := rfl

/-- What the lifts' part of a tick leaves alone. -/
@[simp] theorem State.tickedLifts_rest :
    (s.tickedLifts lines).lanes = s.lanes ∧ (s.tickedLifts lines).arbiter = s.arbiter
      ∧ (s.tickedLifts lines).clock = (s.clocked lines).clock ∧ (s.tickedLifts lines).pins = (s.clocked lines).pins
      ∧ (s.tickedLifts lines).counts = (s.clocked lines).counts
      ∧ (s.tickedLifts lines).sweep = ((s.clocked lines).tickSweep s.clock.rolls).sweep := by
  simp [State.tickedLifts, allLifts]

theorem State.tickClock_clock : s.tickClock.clock = s.clock.ticked := by
  simp only [State.tickClock]
  split
  · simp
  · split <;> simp

@[simp] theorem State.clocked_clock : (s.clocked lines).clock = s.clock.ticked := State.tickClock_clock _

@[simp] theorem State.tickAll_clock : (s.tickAll lines).clock = s.clock.ticked := by simp [State.tickAll_eq]

theorem State.tickAll_pins : (s.tickAll lines).pins = { s.pins with lines := lines } := by simp [State.tickAll_eq, State.clocked]

/-- A flag that the clock's part of a tick sets stays set through the rest of the tick. -/
theorem State.tickAll_keeps_clocked {p : Port} {e : Event} (h : ((s.clocked lines).port p).flagged e = true) :
    ((s.tickAll lines).port p).flagged e = true := by
  have hlifts : (s.clocked lines).Raised (s.tickedLifts lines) :=
    State.Raised.foldl ((State.Raised.refl _).tickSweep _) _ (fun u f h => h.tickLift lines f) _
  have hraised : (s.clocked lines).Raised (s.tickAll lines) := by
    rw [State.tickAll_eq]
    exact State.Raised.tickTimer (hlifts.same fun _ => by simp)
  rw [PortRec.flagged_iff] at h ⊢
  exact (hraised p).kept e h

end

/-! ### The clock -/

section

variable {c : Clock}

theorem Clock.ticked_ticks (c : Clock) : c.ticked.ticks = (c.ticks + 1) % 4294967296 ∧ c.ticked.state = c.state := by
  simp only [Clock.ticked]
  split_ifs <;> exact ⟨rfl, rfl⟩

theorem Clock.ticked_of_still (h : ¬(c.state = .running ∧ c.stalled = false)) :
    c.ticked = { c with ticks := (c.ticks + 1) % 4294967296 } := by
  have hno : (c.state == .running && !c.stalled) = false := by
    rw [Bool.eq_false_iff]
    simpa using h
  simp only [Clock.ticked, Clock.rolls, Clock.stalls, Clock.advances, hno, Bool.false_and, Bool.false_eq_true, if_false]

section

variable (hstate : c.state = .running) (hstalled : c.stalled = false)
include hstate hstalled

theorem Clock.running_cases : c.rolls = (decide (86399 ≤ c.sec) && decide (c.day < 65534))
    ∧ c.stalls = (decide (86399 ≤ c.sec) && decide (65534 ≤ c.day)) ∧ c.advances = decide (c.sec < 86399) := by
  refine ⟨?_, ?_, ?_⟩
  · simp only [Clock.rolls, hstate, hstalled]; rfl
  · simp only [Clock.stalls, hstate, hstalled]; rfl
  · simp only [Clock.advances, hstate, hstalled]; rfl

theorem Clock.ticked_of_advancing (hsec : c.sec < 86399) :
    c.ticked = { c with ticks := (c.ticks + 1) % 4294967296, sec := c.sec + 1 } := by
  obtain ⟨hrolls, hstalls, hadvances⟩ := Clock.running_cases hstate hstalled
  have hnot : decide (86399 ≤ c.sec) = false := decide_eq_false (by omega)
  rw [hnot] at hrolls hstalls
  simp only [Clock.ticked, hrolls, hstalls, hadvances, hsec, Bool.false_and, Bool.false_eq_true, if_false, decide_true, if_true]

theorem Clock.ticked_of_rolling (hsec : 86399 ≤ c.sec) (hday : c.day < 65534) :
    c.rolls = true ∧ c.ticked = { c with ticks := (c.ticks + 1) % 4294967296, day := c.day + 1, sec := 0 } := by
  have hrolls : c.rolls = true := by rw [(Clock.running_cases hstate hstalled).1]; simp [hsec, hday]
  exact ⟨hrolls, if_pos hrolls⟩

theorem Clock.ticked_of_stalling (hsec : 86399 ≤ c.sec) (hday : 65534 ≤ c.day) : c.rolls = false ∧ c.stalls = true
    ∧ c.ticked = { c with ticks := (c.ticks + 1) % 4294967296, stalled := true } := by
  obtain ⟨hrolls, hstalls, -⟩ := Clock.running_cases hstate hstalled
  have h1 : c.rolls = false := by rw [hrolls]; simp; omega
  have h2 : c.stalls = true := by rw [hstalls]; simp [hsec, hday]
  exact ⟨h1, h2, (if_neg (by simp [h1])).trans (if_pos h2)⟩

end

end

section

variable {s : State} (lines : LiftLines)

/-- A rollover hands DAY_ROLLOVER over (R43). -/
theorem State.clocked_dayRollover (h : s.clock.rolls = true) : (s.clocked lines).office.flagged (.device .dayRollover) = true := by
  have hraised : (((s.withPins { s.pins with lines := lines }).withClock s.clock.ticked).raiseDevice .dayRollover).Raised (s.clocked lines) := by
    simp only [State.clocked, State.tickClock, State.withPins_fields, h, if_true]
    simp
  have hflag : ((((s.withPins { s.pins with lines := lines }).withClock s.clock.ticked).raiseDevice .dayRollover).port .office).flagged
      (.device .dayRollover) = true := by
    rw [State.raiseDevice_port, if_pos rfl, PortRec.withFlag_flagged]
    simp
  rw [PortRec.flagged_iff] at hflag ⊢
  exact (hraised .office).kept _ hflag

/-- A stall hands CLOCK_STALL over (R44). -/
theorem State.clocked_clockStall (hrolls : s.clock.rolls = false) (h : s.clock.stalls = true) :
    (s.clocked lines).office.flagged (.device .clockStall) = true := by
  have hport : (s.clocked lines).office = (((s.withPins { s.pins with lines := lines }).withClock s.clock.ticked).raiseDevice .clockStall).port
      .office := by
    simp only [State.clocked, State.tickClock, State.withPins_fields, hrolls, h, if_true, Bool.false_eq_true, if_false]
    rfl
  rw [hport, State.raiseDevice_port, if_pos rfl, PortRec.withFlag_flagged]
  simp

end

/-- Settles O25: the three moves of `Clock.ticked`, and the flag that `State.tickClock` raises with a rollover or a stall. -/
theorem tickAdvancesTheClock : Obligations.TickAdvancesTheClock := by
  unfold Obligations.TickAdvancesTheClock
  intro s lines c running hc
  have hexec : exec c s = .next (s.tickAll lines) := by
    rcases hc with rfl | ⟨rfl, ⟨hstate, hstalled⟩, hsec, hday⟩ | ⟨rfl, ⟨hstate, hstalled⟩, hsec, hday⟩
    · rfl
    · exact congrArg Host.Outcome.next (if_pos (Clock.ticked_of_rolling hstate hstalled hsec.ge hday).1)
    · exact congrArg Host.Outcome.next (if_pos (Clock.ticked_of_stalling hstate hstalled hsec.ge hday.ge).2.1)
  refine ⟨_, hexec, ?_⟩
  rw [State.tickAll_clock]
  refine ⟨s.clock.ticked_ticks.1, s.clock.ticked_ticks.2, s.tickAll_pins lines, fun hstill => ?_, fun ⟨hstate, hstalled⟩ hsec => ?_,
    fun ⟨hstate, hstalled⟩ hsec hday => ?_, fun ⟨hstate, hstalled⟩ hsec hday => ?_, s.tickAll_onlyChanges lines⟩
  · rw [Clock.ticked_of_still hstill]
    exact ⟨rfl, rfl, rfl⟩
  · rw [Clock.ticked_of_advancing hstate hstalled hsec]
    exact ⟨rfl, rfl, hstalled⟩
  · obtain ⟨hrolls, hticked⟩ := Clock.ticked_of_rolling hstate hstalled hsec.ge hday
    rw [hticked]
    exact ⟨rfl, rfl, hstalled, s.tickAll_keeps_clocked lines (p := .office) (State.clocked_dayRollover lines hrolls)⟩
  · obtain ⟨hrolls, hstalls, hticked⟩ := Clock.ticked_of_stalling hstate hstalled hsec.ge hday.ge
    rw [hticked]
    exact ⟨hday, hsec, rfl, s.tickAll_keeps_clocked lines (p := .office) (State.clocked_clockStall lines hrolls hstalls)⟩

/-! ### The report timer -/

section

variable (s : State) (lines : LiftLines)

/-- The counts when the clock's part of a tick is done (R140). -/
theorem State.clocked_counts : (s.clocked lines).counts = if s.clock.rolls then { s.counts with day := s.rolledDaySet } else s.counts := by
  simp only [State.clocked, State.tickClock, State.withPins_fields]
  split
  · simp [State.rollCounts, State.rolledDaySet]
  · split <;> simp

/-- One tick of the report timer, as the count unit sees it (R135). -/
theorem State.tickTimer_counts : (s.counts.mode = .manual → s.tickTimer.counts = s.counts)
    ∧ (∀ n, s.counts.mode = .auto n → 2 ≤ n → s.tickTimer.counts = { s.counts with mode := .auto (n - 1) })
    ∧ ∀ n, s.counts.mode = .auto n → n ≤ 1 →
        s.tickTimer.counts = { s.transfer.counts with mode := .auto (s.counts.period * 60) } ∧ s.transfer.Raised s.tickTimer := by
  refine ⟨fun h => ?_, fun n h hn => ?_, fun n h hn => ?_⟩
  · simp only [State.tickTimer, h]
  · simp only [State.tickTimer, h, if_neg (show ¬n ≤ 1 by omega), State.withCounts_fields]
  · have hperiod : s.transfer.counts.loaded = .auto (s.counts.period * 60) := by simp [CountUnit.loaded, State.transfer_counts]
    refine ⟨?_, ?_⟩
    · simp only [State.tickTimer, h, if_pos hn, State.withCounts_fields, hperiod]
    · simp only [State.tickTimer, h, if_pos hn]
      simp

/-- The flags that a transfer sets at the office (R133, R134). -/
theorem State.transfer_office (e : Event) : s.transfer.office.flagged e
    = (s.office.flagged e || e == .device .roundReady || (e == .device .roundOverrun && s.counts.snapUnread)) := by
  have hoffice (t : State) (d : DeviceEvent) : (t.raiseDevice d).office.flagged e = (t.office.flagged e || e == .device d) := by
    have hport := t.raise_flagged (.device d) e .office
    exact hport.trans (by simp [State.port])
  simp only [State.transfer]
  cases hunread : s.counts.snapUnread with
  | true => simp only [if_true, hoffice, State.withCounts_fields, Bool.and_true]
  | false => simp only [Bool.false_eq_true, if_false, hoffice, State.withCounts_fields, Bool.and_false, Bool.or_false]

end

/-- Settles O28: the day set rolls in the clock's part of a tick, and `State.tickTimer` runs on what that leaves. -/
theorem tickRunsTheReportTimer : Obligations.TickRunsTheReportTimer := by
  unfold Obligations.TickRunsTheReportTimer
  intro s lines c hc
  have hexec : exec c s = .next (s.tickAll lines) := by
    rcases hc with rfl | ⟨rfl, n, hmode, hn⟩
    · rfl
    · refine congrArg Host.Outcome.next (if_pos ?_)
      simp [CountUnit.expiring, hmode, hn]
  refine ⟨_, hexec, ?_⟩
  rw [State.tickAll_eq]
  have hcounts : (s.tickedLifts lines).testHolds.counts = if s.clock.rolls then { s.counts with day := s.rolledDaySet } else s.counts := by
    simp [State.clocked_counts]
  obtain ⟨hmanual, hauto, hlast⟩ := (s.tickedLifts lines).testHolds.tickTimer_counts
  generalize (s.tickedLifts lines).testHolds = t at *
  have hmode : t.counts.mode = s.counts.mode := by rw [hcounts]; split <;> rfl
  have hday : t.tickTimer.counts.day = t.counts.day := by
    cases hm : t.counts.mode with
    | manual => rw [hmanual hm]
    | auto n =>
      by_cases hn : n ≤ 1
      · rw [(hlast n hm hn).1, State.transfer_counts]
      · rw [hauto n hm (by omega)]
  have hrest : t.counts = { s.counts with day := t.counts.day } := by rw [hcounts]; split <;> rfl
  rw [hday]
  refine ⟨fun h => by rw [hcounts, h]; rfl, fun h => ⟨fun l k => ?_, fun f k => ?_⟩, fun h => ?_, fun n h hn => ?_, fun n h hn => ?_⟩
  · rw [hcounts, if_pos h, State.rolledDaySet_lane]
  · rw [hcounts, if_pos h, State.rolledDaySet_lift]
  · rw [hmanual (hmode.trans h)]
    exact hrest
  · rw [hauto n (hmode.trans h) hn]
    exact congrArg (fun x : CountUnit => { x with mode := .auto (n - 1) }) hrest
  · obtain ⟨hleft, hraised⟩ := hlast n (hmode.trans h) hn
    refine ⟨?_, ?_⟩
    · rw [hleft, State.transfer_counts, hrest, Nat.mul_comm]
      rfl
    · have hflag (e : Event) (he : t.transfer.office.flagged e = true) : t.tickTimer.office.flagged e = true := by
        rw [PortRec.flagged_iff] at he ⊢
        exact (hraised .office).kept e he
      refine ⟨hflag _ (by simp [State.transfer_office]), fun hunread => hflag _ ?_⟩
      rw [State.transfer_office, hrest]
      simp [hunread]

end Sys2Proof.Machine

/-! The flags of the ports through a tick, and the tick of the sweep and of the lifts (sections 6.4, 6.5 and 9.4). -/

namespace Sys2Proof.Machine

/-! ### Operations that do not touch one flag -/

/-- The flag of `x` stands at every port in `t` as in `s`. -/
def State.SameFlag (s t : State) (x : Event) : Prop := ∀ p, (t.port p).flagged x = (s.port p).flagged x

section

variable {s t u : State} {x : Event}

theorem State.SameFlag.trans (h : s.SameFlag t x) (h' : t.SameFlag u x) : s.SameFlag u x := fun p => (h' p).trans (h p)

theorem State.SameFlag.of_port (h : ∀ p, t.port p = s.port p) : s.SameFlag t x := fun p => by rw [h p]

theorem State.SameFlag.raise {e : Event} (hne : x ≠ e) : s.SameFlag (s.raise e) x := fun p => by
  rw [State.raise_flagged]
  simp [hne]

theorem State.SameFlag.raiseDevice {d : DeviceEvent} (hne : x ≠ .device d) : s.SameFlag (s.raiseDevice d) x := .raise hne

theorem State.SameFlag.handLevel {e : Event} {before after : Bool} (hne : x ≠ e) : s.SameFlag (s.handLevel e before after) x :=
  fun p => by
    rw [State.handLevel_flagged]
    simp [hne]

theorem State.SameFlag.deadlineTest (hne : x ≠ .device .sweepLate) : s.SameFlag s.deadlineTest x := by
  unfold State.deadlineTest
  split
  · exact (State.SameFlag.of_port (by simp)).trans (.raiseDevice hne)
  · exact .of_port fun _ => rfl

theorem State.SameFlag.deadlineTest_of_not (h : s.deadlineReached = false) : s.SameFlag s.deadlineTest x := by
  rw [State.deadlineTest, if_neg (by simp [h])]
  exact .of_port fun _ => rfl

theorem State.SameFlag.startSweep (hne : x ≠ .device .sweepLate) : s.SameFlag s.startSweep x := by
  unfold State.startSweep
  split
  · exact .of_port (by simp)
  · exact (State.SameFlag.of_port (by simp)).trans (.raiseDevice hne)

theorem State.SameFlag.startSweep_of_idle (h : s.sweep.walk = none) : s.SameFlag s.startSweep x := by
  unfold State.startSweep
  rw [h]
  exact .of_port (by simp)

theorem State.SameFlag.tickSweep_of_deadlineTest (rolled : Bool) (h : s.SameFlag s.deadlineTest x) : s.SameFlag (s.tickSweep rolled) x := by
  unfold State.tickSweep
  split
  · exact h.trans (.of_port (by simp))
  · exact h

/-- A clock's part of a tick that leaves one flag, when the start of the sweep leaves it. -/
theorem State.SameFlag.clocked (lines : LiftLines) (hroll : x ≠ .device .dayRollover) (hstall : x ≠ .device .clockStall)
    (hstart : s.clock.rolls = true → ∀ u : State, u.sweep = s.sweep → u.SameFlag u.startSweep x) : s.SameFlag (s.clocked lines) x := by
  simp only [State.clocked, State.tickClock, State.withPins_fields]
  have hbase : s.SameFlag ((s.withPins { s.pins with lines := lines }).withClock s.clock.ticked) x := .of_port (by simp)
  split
  next hrolls =>
    refine ((hbase.trans (.raiseDevice hroll)).trans (.of_port (t := State.rollCounts _) (by simp))).trans (hstart hrolls _ ?_)
    simp
  next =>
    split
    · exact hbase.trans (.raiseDevice hstall)
    · exact hbase

theorem State.SameFlag.transfer (hready : x ≠ .device .roundReady) (hoverrun : x ≠ .device .roundOverrun) : s.SameFlag s.transfer x := by
  simp only [State.transfer]
  split
  · exact ((State.SameFlag.of_port (by simp)).trans (.raiseDevice hready)).trans (.raiseDevice hoverrun)
  · exact (State.SameFlag.of_port (by simp)).trans (.raiseDevice hready)

theorem State.SameFlag.tickTimer (hready : x ≠ .device .roundReady) (hoverrun : x ≠ .device .roundOverrun) : s.SameFlag s.tickTimer x := by
  unfold State.tickTimer
  split
  · exact .of_port fun _ => rfl
  · split
    · exact (State.SameFlag.transfer hready hoverrun).trans (.of_port (by simp))
    · exact .of_port (by simp)

theorem State.SameFlag.setLift (f : Lift) (r : LiftRec) : s.SameFlag (s.setLift f r) x := .of_port (by simp)

theorem State.SameFlag.tickLift {lines : LiftLines} {f : Lift} (hne : x ≠ .liftState f) : s.SameFlag (s.tickLift lines f) x := by
  simp only [State.tickLift, State.filterLift]
  have hset (u : State) (r : LiftRec) : u.SameFlag (u.setLift f r) x := .setLift f r
  split
  · exact (hset _ _).trans (hset _ _)
  · exact ((hset _ _).trans (.handLevel hne)).trans (hset _ _)

theorem State.SameFlag.foldl_tickLift {lines : LiftLines} (l : List Lift) (h : ∀ f ∈ l, x ≠ .liftState f) :
    ∀ s : State, s.SameFlag (l.foldl (fun u f => u.tickLift lines f) s) x := by
  induction l with
  | nil => exact fun s => .of_port fun _ => rfl
  | cons f l ih =>
    exact fun s => (State.SameFlag.tickLift (h f List.mem_cons_self)).trans (ih (fun g hg => h g (List.mem_cons_of_mem _ hg)) _)

theorem State.SameFlag.afterLifts (hready : x ≠ .device .roundReady) (hoverrun : x ≠ .device .roundOverrun) :
    s.SameFlag s.testHolds.tickTimer x :=
  (State.SameFlag.of_port (t := s.testHolds) (by simp)).trans (.tickTimer hready hoverrun)

end

/-! ### The sweep at a tick -/

/-- The walk after a rollover, before its tests (R170). -/
def startedWalk (w : Option Walk) : Option Walk :=
  some { cursor := 0, urgency := match w.map Walk.urgency with
    | some (.must _) => .must 0
    | _ => .may }

theorem mustWalk_mustWalk (w : Option Walk) : mustWalk (mustWalk w) = mustWalk w := by
  cases w with
  | none => rfl
  | some w =>
    cases w with
    | mk cursor urgency => cases urgency <;> rfl

section

variable (s : State)

theorem State.startSweep_sweep : s.startSweep.sweep = { s.sweep with walk := startedWalk s.sweep.walk } := by
  unfold State.startSweep
  cases h : s.sweep.walk with
  | none => rfl
  | some w =>
    simp only [State.raiseDevice_frame]
    cases hu : w.urgency with
    | may => simp [State.setWalk, startedWalk, hu]
    | must n => simp [State.setWalk, startedWalk, hu]

theorem State.deadlineReached_iff :
    s.deadlineReached = true ↔ s.sweep.deadline ≤ s.clock.sec ∧ s.sweep.walk.map Walk.urgency = some .may := by
  unfold State.deadlineReached
  cases h : s.sweep.walk with
  | none => simp
  | some w =>
    obtain ⟨c, u⟩ := w
    cases u with
    | may => simp
    | must n => simp

theorem State.deadlineTest_sweep :
    s.deadlineTest.sweep = if s.deadlineReached then { s.sweep with walk := mustWalk s.sweep.walk } else s.sweep := by
  unfold State.deadlineTest
  split
  · simp [State.toMust_sweep]
  · rfl

/-- SWEEP_LATE after the deadline test has raised the urgency (R171). -/
theorem State.deadlineTest_sweepLate (h : s.deadlineReached = true) : s.deadlineTest.office.flagged (.device .sweepLate) = true := by
  have hraise := s.toMust.raise_flagged (.device .sweepLate) (.device .sweepLate) .office
  rw [State.deadlineTest, if_pos h]
  exact hraise.trans (by simp)

theorem State.startSweep_sweepLate (h : s.sweep.walk.isSome = true) : s.startSweep.office.flagged (.device .sweepLate) = true := by
  obtain ⟨w, hw⟩ := Option.isSome_iff_exists.1 h
  unfold State.startSweep
  rw [hw]
  exact (State.raise_flagged _ (.device .sweepLate) (.device .sweepLate) .office).trans (by simp)

variable (lines : LiftLines)

theorem State.clocked_sweep : (s.clocked lines).sweep = if s.clock.rolls then { s.sweep with walk := startedWalk s.sweep.walk } else s.sweep := by
  simp only [State.clocked, State.tickClock, State.withPins_fields]
  split
  · simp [State.startSweep_sweep]
  · split <;> simp

theorem State.clocked_sweepLate (hrolls : s.clock.rolls = true) (h : s.sweep.walk.isSome = true) :
    (s.clocked lines).office.flagged (.device .sweepLate) = true := by
  simp only [State.clocked, State.tickClock, State.withPins_fields, hrolls, if_true]
  exact State.startSweep_sweepLate _ (by simpa using h)

@[simp] theorem State.clocked_freeSlots : (s.clocked lines).freeSlots = s.freeSlots := by simp [State.clocked]

/-- From the sweep's part of a tick on, SWEEP_LATE stands. -/
theorem State.tickAll_sweepLate : (s.tickAll lines).office.flagged (.device .sweepLate)
    = ((s.clocked lines).tickSweep s.clock.rolls).office.flagged (.device .sweepLate) := by
  have hlifts : ((s.clocked lines).tickSweep s.clock.rolls).SameFlag (s.tickedLifts lines) (.device .sweepLate) :=
    State.SameFlag.foldl_tickLift _ (fun _ _ => by simp) _
  exact (hlifts.trans (.afterLifts (by simp) (by simp))) .office

theorem State.tickAll_sweep : (s.tickAll lines).sweep = ((s.clocked lines).tickSweep s.clock.rolls).sweep := by simp [State.tickAll_eq]

theorem State.tickSweep_sweepLate (rolled : Bool) :
    (s.tickSweep rolled).office.flagged (.device .sweepLate) = s.deadlineTest.office.flagged (.device .sweepLate) := by
  unfold State.tickSweep
  split <;> simp

end

/-- Settles O29: the deadline test reads what the start of the sweep leaves, and the TABLE_LOW test what the deadline test leaves. -/
theorem tickStartsAndHurriesTheSweep : Obligations.TickStartsAndHurriesTheSweep := by
  unfold Obligations.TickStartsAndHurriesTheSweep
  intro s lines c sec started late hc
  have hclocked : (s.clocked lines).sweep = { s.sweep with walk := started } := by
    have hstarted : started = if s.clock.rolls then startedWalk s.sweep.walk else s.sweep.walk := rfl
    rw [State.clocked_sweep, hstarted]
    split <;> rfl
  have hlate : (s.clocked lines).deadlineReached = true ↔ late := by
    rw [State.deadlineReached_iff, hclocked, State.clocked_clock]
  have hexec : exec c s = .next (s.tickAll lines) := by
    rcases hc with rfl | ⟨rfl, h⟩
    · rfl
    · exact congrArg Host.Outcome.next (if_pos (hlate.2 h))
  refine ⟨_, hexec, by rw [State.tickAll_clock], fun h => ⟨?_, ?_⟩, fun h => ?_, fun hrolls hwalk => ?_, fun h hidle => ?_⟩
  · rw [State.tickAll_sweep]
    have htest : (s.clocked lines).deadlineTest.sweep = { s.sweep with walk := mustWalk started } := by
      rw [State.deadlineTest_sweep, if_pos (hlate.2 h), hclocked]
    unfold State.tickSweep
    split
    · rw [State.tableLowTest_sweep, htest]
      split
      · simp only [mustWalk_mustWalk]
      · rfl
    · exact htest
  · rw [State.tickAll_sweepLate, State.tickSweep_sweepLate]
    exact State.deadlineTest_sweepLate _ (hlate.2 h)
  · rw [State.tickAll_sweep]
    have htest : (s.clocked lines).deadlineTest = s.clocked lines := if_neg (fun hr => h (hlate.1 hr))
    cases hrolls : s.clock.rolls with
    | true =>
      simp only [State.tickSweep, if_true, htest, State.tableLowTest_sweep, hclocked, true_and]
      have hlow : (s.clocked lines).tableLow = decide (s.freeSlots < s.sweep.floor) := by
        simp [State.tableLow, hclocked]
      rw [hlow]
      by_cases hf : s.freeSlots < s.sweep.floor
      · simp [hf]
      · simp [hf]
    | false => simp only [State.tickSweep, Bool.false_eq_true, if_false, htest, hclocked, false_and]
  · exact s.tickAll_keeps_clocked lines (p := .office) (s.clocked_sweepLate lines hrolls hwalk)
  · rw [State.tickAll_sweepLate, State.tickSweep_sweepLate]
    have hclock : s.SameFlag (s.clocked lines) (.device .sweepLate) := by
      refine .clocked lines (by simp) (by simp) fun hrolls u hu => ?_
      have hnone : s.sweep.walk = none := hidle.resolve_left (by simp [hrolls])
      exact .startSweep_of_idle (by rw [hu, hnone])
    have htest : (s.clocked lines).SameFlag (s.clocked lines).deadlineTest (.device .sweepLate) :=
      .deadlineTest_of_not (by rw [Bool.eq_false_iff]; exact fun hr => h (hlate.1 hr))
    exact (hclock.trans htest) .office

/-! ### The lifts at a tick -/

theorem mem_allLifts (f : Lift) : f ∈ allLifts := by fin_cases f <;> simp [allLifts]

/-- What concerns lift `f` is in `t` as in `s`: its record, the lanes that lead to it, and its flags. -/
structure State.LiftAside (s t : State) (f : Lift) : Prop where
  lift   : t.lift f = s.lift f
  liftOf : ∀ l, t.liftOf l = s.liftOf l
  raised : s.Raised t
  flag   : s.SameFlag t (.liftState f)

theorem State.LiftAside.trans {s t u : State} {f : Lift} (h : s.LiftAside t f) (h' : t.LiftAside u f) : s.LiftAside u f :=
  ⟨h'.lift.trans h.lift, fun l => (h'.liftOf l).trans (h.liftOf l), h.raised.trans h'.raised, h.flag.trans h'.flag⟩

/-- The state of lift `f` after a tick that reads `seen` (R112). -/
def LiftRec.sampled (r : LiftRec) (seen : LiftState) : LiftState :=
  if seen ≠ r.established ∧ r.previous = some seen then seen else r.established

/-- LIFT_STATE rises exactly when a change leaves RUNNING (R190). -/
theorem Edge.rise_takes_stateCondition {before after : LiftState} (h : after ≠ before) :
    Edge.rise.takes (before != .running) (after != .running) = (before == .running) := by
  cases before with
  | running =>
    cases after with
    | running => exact absurd rfl h
    | slowed | stopped => rfl
  | slowed | stopped => cases after <;> rfl

section

variable (s : State) (lines : LiftLines)

theorem State.filterLift_lift (f g : Lift) (x : LiftState) : (s.filterLift f x).lift g = if g = f then (s.lift f).sample x else s.lift g := by
  simp only [State.filterLift]
  split <;> simp

theorem State.tickLift_lift (f g : Lift) :
    (s.tickLift lines f).lift g = if g = f then ((s.lift f).sample (indicated lines[f])).refilled else s.lift g := by
  rw [State.tickLift, State.setLift_lift, State.filterLift_lift, State.filterLift_lift, if_pos rfl]
  split <;> rfl

theorem State.tickLift_flagged (f : Lift) (p : Port) :
    ((s.tickLift lines f).port p).flagged (.liftState f) = ((s.port p).flagged (.liftState f)
      || ((s.lift f).sampled (indicated lines[f]) != (s.lift f).established && (s.reached (.liftState f)).contains p
        && (s.port p).edges.liftState.takes ((s.lift f).established != .running)
          ((s.lift f).sampled (indicated lines[f]) != .running))) := by
  have hreached : (s.setLift f ((s.lift f).sample (indicated lines[f]))).reached (.liftState f) = s.reached (.liftState f) := by
    simp [State.reached, State.gateServes]
  have hfilter : ((s.tickLift lines f).port p).flagged (.liftState f)
      = ((s.filterLift f (indicated lines[f])).port p).flagged (.liftState f) := State.SameFlag.setLift _ _ p
  rw [hfilter, State.filterLift]
  split
  next hsame =>
    have heq : (s.lift f).sampled (indicated lines[f]) = (s.lift f).established := hsame
    rw [heq, bne_self_eq_false]
    simp
  next hdiff =>
    have hne : ((s.lift f).sampled (indicated lines[f]) != (s.lift f).established) = true := bne_iff_ne.2 hdiff
    rw [State.handLevel_flagged, hreached, hne]
    simp [EdgeModes.of, LiftRec.stateCondition, LiftRec.sample, LiftRec.sampled]

theorem State.LiftAside.tickLift {f g : Lift} (h : g ≠ f) : s.LiftAside (s.tickLift lines g) f where
  lift := by rw [State.tickLift_lift, if_neg h.symm]
  liftOf := by simp
  raised := (State.Raised.refl s).tickLift lines g
  flag := .tickLift fun he => h (by injection he with hf; exact hf.symm)

theorem State.LiftAside.foldl_tickLift {f : Lift} {l : List Lift} (h : f ∉ l) :
    ∀ s : State, s.LiftAside (l.foldl (fun u f => u.tickLift lines f) s) f := by
  induction l with
  | nil => exact fun s => ⟨rfl, fun _ => rfl, .refl s, fun _ => rfl⟩
  | cons g l ih =>
    obtain ⟨hg, hl⟩ := not_or.1 (mt List.mem_cons.2 h)
    exact fun s => (State.LiftAside.tickLift s lines (Ne.symm hg)).trans (ih hl _)

theorem State.LiftAside.clocked (f : Lift) : s.LiftAside (s.clocked lines) f where
  lift := by simp
  liftOf := by simp
  raised := (State.Raised.refl s).clocked lines
  flag := .clocked lines (by simp) (by simp) fun _ _ _ => .startSweep (by simp)

theorem State.LiftAside.tickSweep (f : Lift) (rolled : Bool) : s.LiftAside (s.tickSweep rolled) f where
  lift := by simp
  liftOf := by simp
  raised := (State.Raised.refl s).tickSweep rolled
  flag := .tickSweep_of_deadlineTest _ (.deadlineTest (by simp))

theorem State.LiftAside.afterLifts (f : Lift) : s.LiftAside s.testHolds.tickTimer f where
  lift := by simp
  liftOf := by simp
  raised := State.Raised.tickTimer (by simp)
  flag := .afterLifts (by simp) (by simp)

/-- Of a whole tick, only its own part concerns lift `f`. -/
theorem State.tickAll_around_lift (f : Lift) :
    ∃ u, s.LiftAside u f ∧ (u.tickLift lines f).LiftAside (s.tickAll lines) f := by
  obtain ⟨before, after, hsplit⟩ := List.append_of_mem (mem_allLifts f)
  have hnodup : (before ++ f :: after).Nodup := hsplit ▸ (by decide : allLifts.Nodup)
  obtain ⟨-, hafter, hdisjoint⟩ := List.nodup_append.1 hnodup
  have hbefore : f ∉ before := fun h => hdisjoint f h f List.mem_cons_self rfl
  refine ⟨before.foldl (fun u f => u.tickLift lines f) ((s.clocked lines).tickSweep s.clock.rolls), ?_, ?_⟩
  · exact ((State.LiftAside.clocked s lines f).trans (.tickSweep _ f _)).trans (.foldl_tickLift lines hbefore _)
  · rw [State.tickAll_eq, State.tickedLifts, hsplit, List.foldl_append, List.foldl_cons]
    exact (State.LiftAside.foldl_tickLift lines (List.nodup_cons.1 hafter).1 _).trans (.afterLifts _ f)

end

/-- Settles O26: of the tick, the parts around the tick of lift `f` leave the lift, its flags and the ports it reaches. -/
theorem tickFiltersAndRefillsLifts : Obligations.TickFiltersAndRefillsLifts := by
  unfold Obligations.TickFiltersAndRefillsLifts
  intro s lines f seen before after
  obtain ⟨u, hbefore, hafter⟩ := s.tickAll_around_lift lines f
  have hseen : indicated lines[f] = seen := by
    simp only [indicated, seen]
    cases lines[f].run <;> rfl
  have hsampled : (u.lift f).sampled (indicated lines[f]) = after := by rw [hbefore.lift, hseen]; rfl
  refine ⟨_, rfl, ?_, fun p => ?_⟩
  · rw [hafter.lift, State.tickLift_lift, if_pos rfl, hbefore.lift, hseen]
    have hsample : (s.lift f).sample seen = { s.lift f with established := after, previous := some seen } := rfl
    rw [hsample]
    cases after <;> rfl
  · have hreached : u.reached (.liftState f) = s.reached (.liftState f) := by simp [State.reached, State.gateServes, hbefore.liftOf]
    rw [hafter.flag p, State.tickLift_flagged, hbefore.flag p, hreached, hsampled, hbefore.lift, (hbefore.raised p).edges]
    refine congrArg _ ?_
    cases hdiff : after != before with
    | false => rfl
    | true =>
      refine congrArg _ ?_
      cases (s.port p).edges.liftState with
      | any => exact Edge.any_takes _ _
      | rise => exact Edge.rise_takes_stateCondition (bne_iff_ne.1 hdiff)

end Sys2Proof.Machine

/-! The hold tests of a tick, and the instants of deadlines (sections 3.5 and 5.5). -/

namespace Sys2Proof.Machine

/-! ### The free order of several lanes -/

theorem insertLane_perm (key : Nat → Nat) (l : Lane) (ls : List Lane) : (insertLane key l ls).Perm (l :: ls) := by
  induction ls with
  | nil => exact .refl _
  | cons m rest ih =>
    simp only [insertLane]
    split
    · exact .refl _
    · exact (ih.cons m).trans (.swap l m rest)

theorem orderLanes_perm (key : Nat → Nat) (ls : List Lane) : (orderLanes key ls).Perm ls := by
  induction ls with
  | nil => exact .refl _
  | cons l rest ih => exact (insertLane_perm key l _).trans (ih.cons l)

theorem State.freeOrder_perm (s : State) (ls : List Lane) : (s.freeOrder ls).Perm ls := by
  unfold State.freeOrder
  split
  · exact .refl _
  · exact orderLanes_perm _ ls

/-! ### Holds that become due -/

/-- The hold of a lane whose expiry waits (R94). -/
def LaneRec.due (r : LaneRec) : LaneRec := { r with hold := r.hold.map fun h => { h with pendingExpiry := true } }

theorem LaneRec.due_due (r : LaneRec) : r.due.due = r.due := by
  cases r with
  | mk _ _ _ _ hold _ => cases hold <;> rfl

/-- The test of R94 on one lane. -/
theorem LaneRec.due_of_test (r : LaneRec) (now : Instant) :
    (if r.hold.any fun h => !h.pendingExpiry && h.deadline.le now then r.due else r)
      = { r with hold := r.hold.map fun h => { h with pendingExpiry := h.pendingExpiry || h.deadline.le now } } := by
  obtain ⟨_, _, _, _, hold, _⟩ := r
  cases hold with
  | none => rfl
  | some h =>
    obtain ⟨_, _, _, deadline, _, _, _, _, _, _, pending⟩ := h
    cases pending with
    | true => rfl
    | false => cases hle : deadline.le now <;> simp [hle, LaneRec.due]

/-- The expiries of the lanes `ls`, stamped in their order from `n` on (R162). -/
def stampedExpiries (n : Nat) (ls : List Lane) : List Expiry := (ls.zipIdx n).map fun x => { lane := x.1, stamp := x.2 }

theorem stampedExpiries_lanes (n : Nat) (ls : List Lane) : (stampedExpiries n ls).map Expiry.lane = ls := by
  simp [stampedExpiries, Function.comp_def]

theorem stampedExpiries_stamps (n : Nat) (ls : List Lane) : (stampedExpiries n ls).map Expiry.stamp = (List.range ls.length).map (n + ·) := by
  simp only [stampedExpiries, List.map_map]
  exact (List.zipIdx_map_snd n ls).trans List.range'_eq_map_range

theorem stampedExpiries_length (n : Nat) (ls : List Lane) : (stampedExpiries n ls).length = ls.length := by simp [stampedExpiries]

section

variable (s : State)

theorem State.makeDue_lane (l m : Lane) : (s.makeDue l).lane m = if m = l then (s.lane l).due else s.lane m := by
  simp [State.makeDue, LaneRec.due]

theorem State.makeDue_arbiter (l : Lane) : (s.makeDue l).arbiter = { s.arbiter with
    nextStamp := s.arbiter.nextStamp + 1, expiries := s.arbiter.expiries ++ [{ lane := l, stamp := s.arbiter.nextStamp }] } := by
  simp [State.makeDue]

theorem State.foldl_makeDue_lane (ls : List Lane) (m : Lane) :
    ∀ s : State, (ls.foldl State.makeDue s).lane m = if m ∈ ls then (s.lane m).due else s.lane m := by
  induction ls with
  | nil => intro s; simp
  | cons l ls ih =>
    intro s
    rw [List.foldl_cons, ih, State.makeDue_lane]
    by_cases hl : m = l
    · subst hl
      simp [LaneRec.due_due]
    · simp [hl]

theorem State.foldl_makeDue_arbiter (ls : List Lane) : ∀ s : State, (ls.foldl State.makeDue s).arbiter = { s.arbiter with
    nextStamp := s.arbiter.nextStamp + ls.length, expiries := s.arbiter.expiries ++ stampedExpiries s.arbiter.nextStamp ls } := by
  induction ls with
  | nil => intro s; simp [stampedExpiries]
  | cons l ls ih =>
    intro s
    rw [List.foldl_cons, ih, State.makeDue_arbiter]
    simp [stampedExpiries, Nat.add_assoc, Nat.add_comm 1]

theorem State.isDue_eq (l : Lane) : s.isDue l = (s.lane l).hold.any fun h => !h.pendingExpiry && h.deadline.le s.now := by
  unfold State.isDue
  cases (s.lane l).hold <;> rfl

theorem State.testHolds_lane (l : Lane) : s.testHolds.lane l = if s.isDue l then (s.lane l).due else s.lane l := by
  have hmem : l ∈ s.freeOrder s.dueLanes ↔ s.isDue l = true := by
    rw [(s.freeOrder_perm _).mem_iff, State.dueLanes, List.mem_filter]
    exact and_iff_right (mem_allLanes l)
  simp only [State.testHolds, State.drewOrder_frame, State.foldl_makeDue_lane, hmem]

theorem State.testHolds_arbiter : s.testHolds.arbiter = { s.arbiter with
    nextStamp := s.arbiter.nextStamp + (s.freeOrder s.dueLanes).length
    expiries := s.arbiter.expiries ++ stampedExpiries s.arbiter.nextStamp (s.freeOrder s.dueLanes) } := by
  simp only [State.testHolds, State.drewOrder_frame, State.foldl_makeDue_arbiter]

end

/-! ### Instants -/

section

variable (a : Instant) (n : Nat)

theorem Instant.after_of_sameDay (h : a.sec + n ≤ 86399) : a.after n = { day := a.day, sec := a.sec + n } := if_pos h

theorem Instant.after_of_nextDay (h : 86399 < a.sec + n) (hday : a.day < 65534) :
    a.after n = { day := a.day + 1, sec := a.sec + n - 86400 } :=
  (if_neg (Nat.not_le.2 h)).trans (if_pos hday)

theorem Instant.after_of_lastDay (h : 86399 < a.sec + n) (hday : a.day = 65534) : a.after n = { day := 65534, sec := 86399 } :=
  (if_neg (Nat.not_le.2 h)).trans (if_neg (by rw [hday]; exact Nat.not_succ_le_self _))

theorem Instant.le_iff (a b : Instant) : a.le b = true ↔ a.day < b.day ∨ (a.day = b.day ∧ a.sec ≤ b.sec) := by simp [Instant.le]

theorem Instant.le_after (hsec : a.sec ≤ 86399) (hday : a.day ≤ 65534) : a.le (a.after n) = true := by
  rw [Instant.le_iff]
  rcases Nat.lt_or_ge 86399 (a.sec + n) with h | h
  · rcases Nat.lt_or_eq_of_le hday with hd | hd
    · rw [a.after_of_nextDay n h hd]
      exact .inl (Nat.lt_succ_self _)
    · rw [a.after_of_lastDay n h hd]
      exact .inr ⟨hd, hsec⟩
  · rw [a.after_of_sameDay n h]
    exact .inr ⟨rfl, Nat.le_add_right ..⟩

end

/-- Settles O27: `State.makeDue` of the due lanes in a permutation of them, and the three cases of `Instant.after`. -/
theorem deadlinesAndDueHolds : Obligations.DeadlinesAndDueHolds := by
  unfold Obligations.DeadlinesAndDueHolds
  refine ⟨fun s lines c => ?_, fun a n hsec _ hday => ⟨a.after_of_sameDay n, a.after_of_nextDay n, a.after_of_lastDay n, a.le_after n hsec hday⟩⟩
  intro now due hc
  have hlane (l : Lane) : (s.tickedLifts lines).lane l = s.lane l := by simp [State.lane]
  have hdue (u : State) (hlanes : u.lanes = s.lanes) (hclock : u.clock = s.clock.ticked) (l : Lane) : u.isDue l = due l := by
    rw [State.isDue_eq, State.lane, State.now, hlanes, hclock]
    rfl
  have hticked := hdue (s.tickedLifts lines) (by simp) (by simp)
  have hlanes (u : State) (h : ∀ l, u.isDue l = due l) : u.dueLanes = allLanes.filter due := congrArg (allLanes.filter ·) (funext h)
  have hexec : exec c s = .next (s.tickAll lines) := by
    rcases hc with rfl | ⟨rfl, l, hl⟩
    · rfl
    · refine congrArg Host.Outcome.next (if_pos ?_)
      have hmem : l ∈ (s.clocked lines).dueLanes := by
        rw [hlanes _ (hdue _ (by simp) (by simp))]
        exact List.mem_filter.2 ⟨mem_allLanes l, hl⟩
      simp [State.tickMakesDue, List.ne_nil_of_mem hmem]
  have hperm := (s.tickedLifts lines).freeOrder_perm (s.tickedLifts lines).dueLanes
  have harbiter : (s.tickAll lines).arbiter = _ := (congrArg State.arbiter (s.tickAll_eq lines)).trans
    ((show _ = (s.tickedLifts lines).testHolds.arbiter by simp).trans (s.tickedLifts lines).testHolds_arbiter)
  generalize (s.tickedLifts lines).freeOrder (s.tickedLifts lines).dueLanes = order at hperm harbiter
  rw [hlanes _ hticked] at hperm
  refine ⟨_, stampedExpiries s.arbiter.nextStamp order, hexec, by simp [State.now, now], fun l => ?_, ?_, ?_, ?_⟩
  · have htested : (s.tickAll lines).lane l = (s.tickedLifts lines).testHolds.lane l := by simp [State.tickAll_eq, State.lane]
    rw [htested, State.testHolds_lane, hticked, hlane]
    exact (s.lane l).due_of_test now
  · rw [harbiter, stampedExpiries_length]
    simp
  · rwa [stampedExpiries_lanes]
  · rw [stampedExpiries_stamps, stampedExpiries_length]

end Sys2Proof.Machine

/-! SET_CLOCK and LOAD_CALENDAR (sections 3.4 and 3.7). -/

namespace Sys2Proof.Machine

/-! ### Serving a port request whose block has been evaluated -/

section

variable {s t : State} {p : Port} {i : Nat} {f : Frame} {bs : List Byte}

theorem State.serve_eval {sel : Frame → Bool} (h : s.servable p sel = some (i, f)) {eval : State → List Byte → State × List Byte}
    (heval : eval s f.payload = (t, bs)) : s.serve p sel eval = t.complete p i f bs := by
  rw [State.serve_of_servable h, heval]

theorem State.serves_eval {k : ReqKind} (h : s.serves p k i f) {eval : State → List Byte → State × List Byte}
    (heval : eval s f.payload = (t, bs)) : s.serve p (isKind k) eval = t.complete p i f bs := State.serve_eval h heval

theorem State.SameFlag.complete (x : Event) : s.SameFlag (s.complete p i f bs) x := by
  intro q
  rw [State.complete_port]
  split
  · subst q; rfl
  · rfl

end

/-! ### SET_CLOCK -/

section

variable {s : State} {p : List Byte}

theorem State.clockReply_eq (s : State) (c : Code) : s.clockReply c =
    [c.byte, if s.clock.state = .unset then 0 else 1] ++ bytesOf 2 s.clock.day ++ bytesOf 3 s.clock.sec := by
  unfold State.clockReply
  cases s.clock.state <;> rfl

theorem targetOk_iff (day sec : Nat) : targetOk day sec = true ↔ day ≤ 65534 ∧ sec ≤ 86399 := by simp [targetOk]

theorem withinTrim_iff (a b : Nat) : withinTrim a b = true ↔ a ≤ b + 120 ∧ b ≤ a + 120 := by simp [withinTrim]

theorem State.setClock_of_badValue (h : ¬(targetDay p ≤ 65534 ∧ targetSecond p ≤ 86399)) : s.setClock p = (s, s.clockReply .badValue) :=
  if_pos (Bool.eq_false_iff.2 fun hok => h ((targetOk_iff _ _).1 hok))

section

variable (hok : targetDay p ≤ 65534 ∧ targetSecond p ≤ 86399)
include hok

theorem State.setClock_of_unset (h : s.clock.state = .unset) : s.setClock p =
    (s.withClock { s.clock with state := .running, day := targetDay p, sec := targetSecond p, stalled := false },
      [0, 1] ++ bytesOf 2 (targetDay p) ++ bytesOf 3 (targetSecond p)) := by
  rw [State.setClock, if_neg (by simp [(targetOk_iff _ _).2 hok])]
  simp only [h]
  rfl

theorem State.setClock_of_running (h : s.clock.state = .running) : s.setClock p =
    if targetDay p ≠ s.clock.day ∨ withinTrim (targetSecond p) s.clock.sec = false then (s, s.clockReply .clockStep)
    else
      ((s.withClock { s.clock with sec := targetSecond p, stalled := if targetSecond p < 86399 then false else s.clock.stalled }).deadlineTest,
        [0, 1] ++ bytesOf 2 s.clock.day ++ bytesOf 3 (targetSecond p)) := by
  rw [State.setClock, if_neg (by simp [(targetOk_iff _ _).2 hok])]
  simp only [h, State.clockReply_eq, State.deadlineTest_frame, State.withClock_fields, reduceCtorEq, if_false]
  rfl

end

end

/-- Settles O30: the branches of `State.setClock`, and the deadline test on the trimmed clock. -/
theorem setClockSetsOrTrims : Obligations.SetClockSetsOrTrims := by
  unfold Obligations.SetClockSetsOrTrims
  intro s i f hserves day sec reply
  have hserved {t : State} {bs : List Byte} (heval : s.setClock f.payload = (t, bs)) :
      exec .setClock s = .next (t.complete .office i f bs) := congrArg Host.Outcome.next (State.serves_eval hserves heval)
  refine ⟨fun h => ?_, fun hday hsec hstate => hserved (State.setClock_of_unset ⟨hday, hsec⟩ hstate), fun hday hsec hstate hfar => ?_,
    fun hday hsec hstate hsame hback hahead => ?_⟩
  · refine hserved ((State.setClock_of_badValue ?_).trans ?_)
    · rintro ⟨hday, hsec⟩
      exact h.elim (fun h => absurd hday (Nat.not_le.2 h)) fun h => absurd hsec (Nat.not_le.2 h)
    · rw [State.clockReply_eq]
      rfl
  · refine hserved ((State.setClock_of_running ⟨hday, hsec⟩ hstate).trans ((if_pos ?_).trans ?_))
    · refine hfar.imp id fun h => Bool.eq_false_iff.2 fun hnear => ?_
      obtain ⟨h1, h2⟩ := (withinTrim_iff _ _).1 hnear
      have h1 : sec ≤ s.clock.sec + 120 := h1
      have h2 : s.clock.sec ≤ sec + 120 := h2
      omega
    · rw [State.clockReply_eq, hstate]
      rfl
  · have heval := (State.setClock_of_running (s := s) ⟨hday, hsec⟩ hstate).trans (if_neg (not_or.2 ⟨not_not.2 hsame,
      ne_false_of_eq_true ((withinTrim_iff _ _).2 ⟨hback, hahead⟩)⟩))
    have hexec := hserved heval
    rw [← hsame] at hexec
    have hkept := s.setClock_queuesKept f.payload
    rw [heval] at hkept
    have hframe := exec_frame hexec
    let trimmed := s.withClock { s.clock with sec := sec, stalled := if sec < 86399 then false else s.clock.stalled }
    have hreached : trimmed.deadlineReached = true ↔ s.sweep.deadline ≤ sec ∧ s.sweep.walk.map Walk.urgency = some .may :=
      trimmed.deadlineReached_iff
    have htrimmed : trimmed.sweep = s.sweep ∧ trimmed.office = s.office := ⟨rfl, rfl⟩
    have hoffice (e : Event) : (trimmed.deadlineTest.complete .office i f (reply 0 1 day sec)).office.flagged e
        = trimmed.deadlineTest.office.flagged e := State.SameFlag.complete e .office
    have hdone : (trimmed.deadlineTest.complete .office i f (reply 0 1 day sec)).clock = trimmed.clock
        ∧ (trimmed.deadlineTest.complete .office i f (reply 0 1 day sec)).sweep = trimmed.deadlineTest.sweep := by
      simp only [State.complete_frame, State.deadlineTest_frame, and_self]
    refine ⟨_, hexec, hkept.answers .office i f _, ?_, fun hdue hmay => ⟨?_, ?_⟩, fun h => ?_, hframe⟩
    · exact hdone.1
    · refine hdone.2.trans ?_
      rw [State.deadlineTest_sweep, if_pos (hreached.2 ⟨hdue, hmay⟩), htrimmed.1]
    · exact (hoffice _).trans (State.deadlineTest_sweepLate _ (hreached.2 ⟨hdue, hmay⟩))
    · have hnot : ¬trimmed.deadlineReached = true := fun hr => h.elim (fun h => absurd (hreached.1 hr).1 (Nat.not_le.2 h))
        fun h => h (hreached.1 hr).2
      refine ⟨hdone.2.trans ?_, fun e => (hoffice e).trans ?_⟩
      · rw [State.deadlineTest_sweep, if_neg hnot, htrimmed.1]
      · rw [State.deadlineTest, if_neg hnot, htrimmed.2]

/-! ### LOAD_CALENDAR -/

/-- Whether run `j` of a LOAD_CALENDAR, the runs beginning at byte `at_`, covers entry `x` (R52). -/
def runCovers (at_ : Nat) (p : List Byte) (j x : Nat) : Prop :=
  fieldAt (at_ + 5 * j) 2 p ≤ x ∧ x < fieldAt (at_ + 5 * j) 2 p + fieldAt (at_ + 2 + 5 * j) 2 p

theorem runCovers_succ (at_ : Nat) (p : List Byte) (j x : Nat) : runCovers (at_ + 5) p j x ↔ runCovers at_ p (j + 1) x := by
  have h1 : at_ + 5 + 5 * j = at_ + 5 * (j + 1) := by omega
  have h2 : at_ + 5 + 2 + 5 * j = at_ + 2 + 5 * (j + 1) := by omega
  rw [runCovers, runCovers, h1, h2]

theorem Calendar.run_classes (c : Calendar) (start count : Nat) (k : DayClass) (x : Fin 512) :
    (c.run start count k).classes[x] = if start ≤ x.val ∧ x.val < start + count then k else c.classes[x] := by
  simp [Calendar.run]

theorem applyRuns_written (p : List Byte) (r : Nat) : ∀ at_ c n, (applyRuns at_ r p c n).2
    = n + ((List.range r).map fun j => runLength (fieldAt (at_ + 5 * j) 2 p) (fieldAt (at_ + 2 + 5 * j) 2 p)).sum := by
  induction r with
  | zero => exact fun _ _ _ => rfl
  | succ r ih =>
    intro at_ c n
    have hnext (j : Nat) : at_ + 5 * (j + 1) = at_ + 5 + 5 * j ∧ at_ + 2 + 5 * (j + 1) = at_ + 5 + 2 + 5 * j := by omega
    rw [applyRuns, ih, List.range_succ_eq_map, List.map_cons, List.sum_cons, List.map_map, Function.comp_def, ← Nat.add_assoc]
    simp only [hnext, Nat.mul_zero, Nat.add_zero]

theorem applyRuns_uncovered (p : List Byte) (x : Fin 512) (r : Nat) :
    ∀ at_ c n, (∀ j, j < r → ¬runCovers at_ p j x.val) → (applyRuns at_ r p c n).1.classes[x] = c.classes[x] := by
  induction r with
  | zero => exact fun _ _ _ _ => rfl
  | succ r ih =>
    intro at_ c n h
    refine (ih _ _ _ fun j hj => ?_).trans ?_
    · rw [runCovers_succ]
      exact h (j + 1) (Nat.succ_lt_succ hj)
    · rw [Calendar.run_classes]
      exact if_neg (h 0 (Nat.succ_pos r))

/-- The last run that covers an entry gives its class (R52). -/
theorem applyRuns_covered (p : List Byte) (x : Fin 512) (r : Nat) :
    ∀ at_ c n j, j < r → runCovers at_ p j x.val → (∀ j', j < j' → j' < r → ¬runCovers at_ p j' x.val) →
      ((applyRuns at_ r p c n).1.classes[x]).val = min (byteAt (at_ + 4 + 5 * j) p) 3 := by
  induction r with
  | zero => exact fun _ _ _ j hj => absurd hj (Nat.not_lt_zero j)
  | succ r ih =>
    intro at_ c n j hj hcovers hlast
    cases j with
    | zero =>
      have hkept := applyRuns_uncovered p x r (at_ + 5)
        (c.run (fieldAt at_ 2 p) (fieldAt (at_ + 2) 2 p) (Fin.ofNat 4 (clamp 0 3 (byteAt (at_ + 4) p))))
        (n + runLength (fieldAt at_ 2 p) (fieldAt (at_ + 2) 2 p)) fun j' hj' => by
          rw [runCovers_succ]
          exact hlast (j' + 1) (Nat.succ_pos j') (Nat.succ_lt_succ hj')
      refine (congrArg Fin.val (hkept.trans ((Calendar.run_classes ..).trans (if_pos hcovers)))).trans ?_
      show clamp 0 3 (byteAt (at_ + 4) p) % 4 = min (byteAt (at_ + 4) p) 3
      simp only [clamp]
      omega
    | succ j =>
      have hnext : at_ + 4 + 5 * (j + 1) = at_ + 5 + 4 + 5 * j := by omega
      rw [hnext]
      refine ih _ _ _ j (Nat.lt_of_succ_lt_succ hj) ((runCovers_succ ..).2 hcovers) fun j' hj hj' => ?_
      rw [runCovers_succ]
      exact hlast (j' + 1) (Nat.succ_lt_succ hj) (Nat.succ_lt_succ hj')

section

variable {s : State} {p : List Byte}

theorem State.loadCalendar_of_base (h : byteAt 0 p = 0) : s.loadCalendar p =
    (s.withCalendar { s.calendar with base := min (fieldAt 1 2 p) 65534 }, [0, 0] ++ bytesOf 2 (min (fieldAt 1 2 p) 65534) ++ [0, 0]) := by
  have hclamp : clamp 0 Config.lastDay (fieldAt 1 2 p) = min (fieldAt 1 2 p) 65534 := Nat.zero_max _
  rw [State.loadCalendar, if_pos h, State.loadCalendarBase, hclamp]
  rfl

theorem State.loadCalendar_of_runs (h : byteAt 0 p = 1) (hlow : 1 ≤ byteAt 1 p) (hhigh : byteAt 1 p ≤ 8) : s.loadCalendar p =
    (s.withCalendar (applyRuns 2 (byteAt 1 p) p s.calendar 0).1,
      [0, 1] ++ bytesOf 2 s.calendar.base ++ bytesOf 2 (applyRuns 2 (byteAt 1 p) p s.calendar 0).2) := by
  rw [State.loadCalendar, if_neg (by omega), if_pos h, State.loadCalendarRuns, if_neg (by omega),
    ← applyRuns_base 2 (byteAt 1 p) p s.calendar 0]
  rfl

theorem State.loadCalendar_of_badRuns (h : byteAt 0 p = 1) (hbad : byteAt 1 p = 0 ∨ 8 < byteAt 1 p) : s.loadCalendar p = (s, [4]) := by
  rw [State.loadCalendar, if_neg (by omega), if_pos h, State.loadCalendarRuns, if_pos hbad]
  rfl

theorem State.loadCalendar_of_badForm (h : 1 < byteAt 0 p) : s.loadCalendar p = (s, [4]) := by
  rw [State.loadCalendar, if_neg (by omega), if_neg (by omega)]
  rfl

end

/-- Settles O32: the forms of `State.loadCalendar`, and the runs applied one after another. -/
theorem calendarAndItsRequests : Obligations.CalendarAndItsRequests := by
  unfold Obligations.CalendarAndItsRequests
  refine ⟨fun s i f => ?_, fun c day => ⟨fun x hx => ?_, fun h => ?_⟩⟩
  · intro p start count
    have hbase (h : s.servable .office (isCalendarForm 1) = some (i, f)) {t : State} {bs : List Byte} (heval : s.loadCalendar p = (t, bs)) :
        exec .loadCalendarBase s = .next (t.complete .office i f bs) := congrArg Host.Outcome.next (State.serve_eval h heval)
    have hruns (h : s.servable .office (isCalendarForm 0) = some (i, f)) {t : State} {bs : List Byte} (heval : s.loadCalendar p = (t, bs)) :
        exec .loadCalendarRuns s = .next (t.complete .office i f bs) := congrArg Host.Outcome.next (State.serve_eval h heval)
    refine ⟨fun h hform => hbase h (State.loadCalendar_of_base hform), fun h hform hlow hhigh => ?_,
      fun h hform hbad => hruns h (State.loadCalendar_of_badRuns hform hbad),
      fun hform => ⟨fun h => hbase h (State.loadCalendar_of_badForm hform), fun h => hruns h (State.loadCalendar_of_badForm hform)⟩⟩
    refine ⟨_, _, hruns h (State.loadCalendar_of_runs hform hlow hhigh), applyRuns_base .., ?_, fun x hx => applyRuns_uncovered p x _ _ _ _ hx,
      fun x j hj hstart hcount hlast => applyRuns_covered p x _ _ _ _ j hj ⟨hstart, hcount⟩ hlast⟩
    rw [applyRuns_written, Nat.zero_add]
    rfl
  · subst hx
    rw [Calendar.classOf, dif_pos ⟨Nat.le_add_right .., by omega⟩]
    simp only [Nat.add_sub_cancel_left, Fin.getElem_fin]
  · exact dif_neg (by omega)

end Sys2Proof.Machine

/-! SET_SCHEME, SET_LIFT, LOAD_PRODUCT, SET_RESORT, LOAD_TARIFF and SET_STORE_POLICY, and counting events
(sections 1.4, 1.5, 6.3, 6.5, 7.2, 8.1 and 9.5). -/

namespace Sys2Proof.Machine

/-! ### SET_SCHEME and SET_LIFT -/

section

variable {s : State} {p : List Byte}

theorem Scheme.ofCode_code (x : Scheme) : Scheme.ofCode x.code = some x := by cases x <;> rfl

theorem Scheme.ofCode_of_gt {n : Nat} (h : 3 < n) : Scheme.ofCode n = none := by
  obtain ⟨m, rfl⟩ : ∃ m, n = m + 4 := ⟨n - 4, by omega⟩
  rfl

theorem Scheme.exists_code {n : Nat} (h : n ≤ 3) : ∃ x : Scheme, n = x.code := by
  interval_cases n
  · exact ⟨.s0, rfl⟩
  · exact ⟨.s1, rfl⟩
  · exact ⟨.s2, rfl⟩
  · exact ⟨.s3, rfl⟩

theorem State.allClosed_iff : s.allClosed = true ↔ ∀ l, (s.lane l).state = .work .closed := by
  simp [State.allClosed, mem_allLanes]

theorem State.setScheme_of_badValue (h : 3 < byteAt 0 p) : s.setScheme p = (s, [4, byteOf s.scheme.code]) := by
  rw [State.setScheme, Scheme.ofCode_of_gt h]
  rfl

theorem State.setScheme_of_scheme {x : Scheme} (h : byteAt 0 p = x.code) : s.setScheme p =
    if s.allClosed = false then (s, [14, byteOf s.scheme.code]) else (s.withScheme x, [0, byteOf x.code]) := by
  rw [State.setScheme, h, Scheme.ofCode_code]
  rfl

theorem State.setLiftRequest_of_badValue (h : 3 < byteAt 0 p) : s.setLiftRequest p = (s, [4]) := if_pos h

theorem State.setLiftRequest_of_lift {g : Lift} (h : byteAt 0 p = g.val) : s.setLiftRequest p =
    (s.setLift g { s.lift g with
        rate := max 1 (min (byteAt 1 p) 120), burst := max 1 (min (byteAt 2 p) 32), level := 60 * max 1 (min (byteAt 2 p) 32) },
      [0, byteOf g.val, byteOf (max 1 (min (byteAt 1 p) 120)), byteOf (max 1 (min (byteAt 2 p) 32))]
        ++ bytesOf 2 (60 * max 1 (min (byteAt 2 p) 32))) := by
  have hg : Fin.ofNat 4 (byteAt 0 p) = g := Fin.ext ((congrArg (· % 4) h).trans (Nat.mod_eq_of_lt g.isLt))
  rw [State.setLiftRequest, if_neg (by omega), hg]
  rfl

end

/-- Settles O42: the branches of `State.setScheme` and of `State.setLiftRequest`. -/
theorem setSchemeAndSetLift : Obligations.SetSchemeAndSetLift := by
  unfold Obligations.SetSchemeAndSetLift
  refine fun s i f => ⟨fun hserves => ⟨fun hcode => ?_, fun hcode hopen => ?_, fun x hcode hclosed => ?_⟩, fun hserves => ⟨fun hcode => ?_, ?_⟩⟩
  · exact congrArg Host.Outcome.next (State.serves_eval hserves (State.setScheme_of_badValue hcode))
  · obtain ⟨x, hx⟩ := Scheme.exists_code hcode
    obtain ⟨l, hl⟩ := hopen
    have hnot : s.allClosed = false := Bool.eq_false_iff.2 fun h => hl (State.allClosed_iff.1 h l)
    exact congrArg Host.Outcome.next (State.serves_eval hserves ((State.setScheme_of_scheme hx).trans (if_pos hnot)))
  · have hall : ¬s.allClosed = false := ne_false_of_eq_true (State.allClosed_iff.2 hclosed)
    exact congrArg Host.Outcome.next (State.serves_eval hserves ((State.setScheme_of_scheme hcode).trans (if_neg hall)))
  · exact congrArg Host.Outcome.next (State.serves_eval hserves (State.setLiftRequest_of_badValue hcode))
  · exact fun g hg => congrArg Host.Outcome.next (State.serves_eval hserves (State.setLiftRequest_of_lift hg))

/-! ### LOAD_PRODUCT, SET_RESORT and LOAD_TARIFF -/

section

variable {s : State} {p : List Byte}

theorem State.loadProduct_of_badValue (h : 63 < byteAt 0 p ∨ 1 < byteAt 2 p) : s.loadProduct p = (s, [4]) := if_pos h

theorem State.loadProduct_of_code {c : Fin 64} (h : byteAt 0 p = c.val) (hkind : byteAt 2 p ≤ 1) :
    s.loadProduct p = (s.withProducts (s.products.set c.val (productArg p)), [0] ++ (productArg p).bytes c.val) := by
  have hc : Fin.ofNat 64 (byteAt 0 p) = c := Fin.ext ((congrArg (· % 64) h).trans (Nat.mod_eq_of_lt c.isLt))
  subst hc
  exact (if_neg (by omega)).trans (congrArg (fun n => (_, [0] ++ (productArg p).bytes n)) h)

theorem State.withProducts_set_product (c d : Fin 64) (x : Product) :
    (s.withProducts (s.products.set c.val x)).product d = if d = c then x else s.product d := by
  simp only [State.product, State.withProducts_fields, Fin.getElem_fin, Vector.getElem_set, Fin.ext_iff, eq_comm (a := d.val)]

theorem State.loadTariff_of_badValue (h : 7 < byteAt 0 p) : s.loadTariff p = (s, [4]) := if_pos h

theorem State.loadTariff_of_row {row : Fin 8} (h : byteAt 0 p = row.val) :
    s.loadTariff p = (s.withTariff (s.tariff.set row.val (ratesArg p)), [0, byteOf row.val] ++ (ratesArg p).toList.flatMap (bytesOf 3)) := by
  have hrow : Fin.ofNat 8 (byteAt 0 p) = row := Fin.ext ((congrArg (· % 8) h).trans (Nat.mod_eq_of_lt row.isLt))
  subst hrow
  exact (if_neg (by omega)).trans (congrArg (fun n => (_, [0, byteOf n] ++ (ratesArg p).toList.flatMap (bytesOf 3))) h)

theorem State.withTariff_set_rate (row x : Fin 8) (rates : Vector Nat 4) (c : DayClass) :
    (s.withTariff (s.tariff.set row.val rates)).rate x c = if x = row then rates[c] else s.rate x c := by
  simp only [State.rate, State.withTariff_fields, Fin.getElem_fin, Vector.getElem_set, Fin.ext_iff, eq_comm (a := x.val)]
  split <;> rfl

theorem ratesArg_eq (p : List Byte) (c : DayClass) : (ratesArg p)[c] = min 200000 (fieldAt (1 + 3 * c.val) 3 p) := by
  fin_cases c <;> rfl

end

/-- Settles O44: the stored product is `productArg`, and the stored rates are `ratesArg`. -/
theorem loadProductResortAndTariff : Obligations.LoadProductResortAndTariff := by
  unfold Obligations.LoadProductResortAndTariff
  refine fun s i f => ⟨fun hserves => ⟨fun hbad => ?_, fun c x hcode hkind hx => ?_⟩, fun hserves => ?_,
    fun hserves => ⟨fun hbad => ?_, fun row hrow => ?_⟩⟩
  · exact congrArg Host.Outcome.next (State.serves_eval hserves (State.loadProduct_of_badValue hbad))
  · have hargs : x = productArg f.payload := by
      rw [hx, productArg]
      split
      · rfl
      · simp only [clamp, Nat.zero_max]
    have heval := State.loadProduct_of_code (s := s) hcode hkind
    have hexec : exec .loadProduct s = .next _ := congrArg Host.Outcome.next (State.serves_eval hserves heval)
    have hkept := s.loadProduct_queuesKept f.payload
    rw [heval, ← hargs] at hkept
    rw [← hargs] at hexec
    have hproduct (d : Fin 64) : ((s.withProducts (s.products.set c.val x)).complete .office i f ([0] ++ x.bytes c.val)).product d
        = if d = c then x else s.product d := Eq.trans (by simp only [State.complete_frame]) (State.withProducts_set_product c d x)
    refine ⟨_, hexec, ?_, fun d hd => ?_, ?_, exec_frame hexec⟩
    · rw [hproduct, if_pos rfl]
    · rw [hproduct, if_neg hd]
    · have hreply : [0] ++ x.bytes c.val = [0, byteOf c.val, if x.defined then 1 else 0, if x.kind = .rider then 0 else 1, byteOf x.mask.toNat]
          ++ bytesOf 2 x.passback ++ [if x.refundable then 1 else 0, byteOf x.row.val] ++ bytesOf 4 x.fee ++ bytesOf 2 x.unit
          ++ bytesOf 4 x.minPayout := by
        simp [Product.bytes, flagByte]
        cases x.kind <;> rfl
      exact hreply ▸ hkept.answers .office i f _
  · exact congrArg Host.Outcome.next (State.serves_eval hserves rfl)
  · exact congrArg Host.Outcome.next (State.serves_eval hserves (State.loadTariff_of_badValue hbad))
  · have heval := State.loadTariff_of_row (s := s) hrow
    have hexec : exec .loadTariff s = .next _ := congrArg Host.Outcome.next (State.serves_eval hserves heval)
    have hkept := s.loadTariff_queuesKept f.payload
    rw [heval] at hkept
    have hrate (x : Fin 8) (c : DayClass) := State.withTariff_set_rate (s := s) row x (ratesArg f.payload) c
    refine ⟨_, hexec, fun c => ?_, fun x hx c => ?_, ?_, exec_frame hexec⟩
    · exact ((hrate row c).trans (if_pos rfl)).trans (ratesArg_eq _ _)
    · exact (hrate x c).trans (if_neg hx)
    · exact hkept.answers .office i f _

/-! ### Counting events -/

section

variable (s : State)

theorem State.noteSaturation_countSaturated (n : Nat) : (s.noteSaturation n).office.flagged (.device .countSaturated)
    = (s.office.flagged (.device .countSaturated) || (decide (65535 ≤ n) && !s.counts.saturated)) := by
  have hraised := State.raise_flagged (s.withCounts { s.counts with saturated := true }) (.device .countSaturated) (.device .countSaturated) .office
  by_cases hn : 65535 ≤ n
  · cases hsaturated : s.counts.saturated with
    | true =>
      rw [State.noteSaturation, if_neg (by simp [hsaturated])]
      simp
    | false =>
      rw [State.noteSaturation, if_pos ⟨hn, hsaturated⟩]
      exact hraised.trans (by simp [hn])
  · rw [State.noteSaturation, if_neg fun h => hn h.1]
    simp [hn]

theorem bump_at {α β : Type} [DecidableEq α] [DecidableEq β] (n : α × β → Nat) (top : Nat) (a b : α × β) :
    (if b = a then bump top (n a) else n b) = if b ∈ [a] then bump top (n b) else n b := by
  by_cases h : b = a
  · simp [h]
  · simp [h]

theorem State.countLane_raises (l : Lane) (k : LaneCounter) : s.Counts (s.countLane l k) [(l, k)] [] := by
  rw [State.Counts, State.countLane_counts]
  refine ⟨fun m j => ?_, fun m j => ?_, fun f j => (if_neg List.not_mem_nil).symm, fun f j => (if_neg List.not_mem_nil).symm⟩
  · exact (CountSet.setLane_lane ..).trans (bump_at (fun x : Lane × LaneCounter => s.counts.running.lane x.1 x.2) _ (l, k) (m, j))
  · exact (CountSet.setLane_lane ..).trans (bump_at (fun x : Lane × LaneCounter => s.counts.day.lane x.1 x.2) _ (l, k) (m, j))

theorem State.countLift_raises (f : Lift) (k : LiftCounter) : s.Counts (s.countLift f k) [] [(f, k)] := by
  rw [State.Counts, State.countLift_counts]
  refine ⟨fun m j => (if_neg List.not_mem_nil).symm, fun m j => (if_neg List.not_mem_nil).symm, fun g j => ?_, fun g j => ?_⟩
  · exact (CountSet.setLift_lift ..).trans (bump_at (fun x : Lift × LiftCounter => s.counts.running.lift x.1 x.2) _ (f, k) (g, j))
  · exact (CountSet.setLift_lift ..).trans (bump_at (fun x : Lift × LiftCounter => s.counts.day.lift x.1 x.2) _ (f, k) (g, j))

end

/-- Settles O45: one counter is set in both sets, and `State.noteSaturation` reads what the running counter was. -/
theorem countingAndSaturation : Obligations.CountingAndSaturation := by
  unfold Obligations.CountingAndSaturation
  rintro s t old (⟨l, k, rfl, rfl⟩ | ⟨f, k, rfl, rfl⟩)
  · have hframe : onlyChanges [.counts, .office] s (s.countLane l k) := by simp [onlyChanges_iff]
    refine ⟨.inl ⟨l, k, rfl, s.countLane_raises l k⟩, ?_⟩
    rw [State.countLane_counts]
    exact ⟨rfl, State.noteSaturation_countSaturated _ _, rfl, rfl, rfl, hframe⟩
  · have hframe : onlyChanges [.counts, .office] s (s.countLift f k) := by simp [onlyChanges_iff]
    refine ⟨.inr ⟨f, k, rfl, s.countLift_raises f k⟩, ?_⟩
    rw [State.countLift_counts]
    exact ⟨rfl, State.noteSaturation_countSaturated _ _, rfl, rfl, rfl, hframe⟩

/-! ### SET_STORE_POLICY -/

theorem mustWalk_of_not_may {w : Option Walk} (h : w.map Walk.urgency ≠ some .may) : mustWalk w = w := by
  cases w with
  | none => rfl
  | some w =>
    obtain ⟨c, u⟩ := w
    cases u with
    | may => exact absurd rfl h
    | must n => rfl

theorem mustWalk_not_may (w : Option Walk) : (mustWalk w).map Walk.urgency ≠ some .may := by
  cases w with
  | none => simp [mustWalk]
  | some w =>
    obtain ⟨c, u⟩ := w
    cases u <;> simp [mustWalk]

section

variable (s : State)

theorem State.judgeLevel_flagged (e x : Event) (before after : Bool) (p : Port) : ((s.judgeLevel e before after).port p).flagged x
    = ((s.port p).flagged x
      || (before != after && (x == e && (s.reached e).contains p && ((s.port p).edges.of e).takes before after))) := by
  unfold State.judgeLevel
  split
  next h => simp [h]
  next h => rw [State.handLevel_flagged, bne_iff_ne.2 h, Bool.true_and]

theorem State.deadlineTest_walk :
    s.deadlineTest.sweep = { s.sweep with walk := if s.sweep.deadline ≤ s.clock.sec then mustWalk s.sweep.walk else s.sweep.walk } := by
  rw [State.deadlineTest_sweep]
  by_cases hsec : s.sweep.deadline ≤ s.clock.sec
  · rw [if_pos (c := s.sweep.deadline ≤ s.clock.sec) hsec]
    split
    next => rfl
    next hnot => rw [mustWalk_of_not_may fun hmay => hnot (s.deadlineReached_iff.2 ⟨hsec, hmay⟩)]
  · rw [if_neg fun h => hsec (s.deadlineReached_iff.1 h).1, if_neg hsec]

/-- The state of SET_STORE_POLICY with its values written, before its tests (R180). -/
def State.policySet (retention deadline floor limit : Nat) : State :=
  (s.withSweep { s.sweep with retention := retention, deadline := deadline, floor := floor }).withArbiter
    { s.arbiter with burstLimit := limit }

/-- TABLE_LOW judged again, and its test (R172, R178). -/
def State.lowJudged (before : Bool) : State := (s.judgeLevel (.device .tableLow) before s.tableLow).tableLowTest

section

variable (before : Bool)

@[simp] theorem State.lowJudged_rest : (s.lowJudged before).freeSlots = s.freeSlots ∧ (s.lowJudged before).clock = s.clock
    ∧ (s.lowJudged before).arbiter = s.arbiter := by
  simp [State.lowJudged]

theorem State.lowJudged_sweep : (s.lowJudged before).sweep =
    { s.sweep with walk := if s.freeSlots < s.sweep.floor then mustWalk s.sweep.walk else s.sweep.walk } := by
  have hlow : (s.judgeLevel (.device .tableLow) before s.tableLow).tableLow = decide (s.freeSlots < s.sweep.floor) := by
    simp [State.tableLow]
  rw [State.lowJudged, State.tableLowTest_sweep, hlow]
  by_cases h : s.freeSlots < s.sweep.floor
  · simp [h]
  · simp [h]

theorem State.lowJudged_flagged (x : Event) : (s.lowJudged before).office.flagged x = (s.office.flagged x
    || (before != s.tableLow && (x == .device .tableLow && s.office.edges.tableLow.takes before s.tableLow))) := by
  have hjudged := s.judgeLevel_flagged (.device .tableLow) x before s.tableLow .office
  have htest : (s.lowJudged before).office = (s.judgeLevel (.device .tableLow) before s.tableLow).office := by simp [State.lowJudged]
  rw [htest]
  refine hjudged.trans (congrArg (s.office.flagged x || before != s.tableLow && ·) ?_)
  rw [show (s.reached (.device .tableLow)).contains .office = true from rfl, Bool.and_true]
  rfl

theorem State.policyTested_sweep : (s.lowJudged before).deadlineTest.sweep = { s.sweep with
    walk := if s.freeSlots < s.sweep.floor ∨ s.sweep.deadline ≤ s.clock.sec then mustWalk s.sweep.walk else s.sweep.walk } := by
  rw [State.deadlineTest_walk, State.lowJudged_sweep, (s.lowJudged_rest before).2.1]
  by_cases hfloor : s.freeSlots < s.sweep.floor <;> by_cases hsec : s.sweep.deadline ≤ s.clock.sec <;> simp [hfloor, hsec, mustWalk_mustWalk]

theorem State.policyTested_sweepLate : (s.lowJudged before).deadlineTest.office.flagged (.device .sweepLate) = true
    ↔ s.office.flagged (.device .sweepLate) = true
      ∨ (s.sweep.walk.map Walk.urgency = some .may ∧ ¬s.freeSlots < s.sweep.floor ∧ s.sweep.deadline ≤ s.clock.sec) := by
  have hbefore : (s.lowJudged before).office.flagged (.device .sweepLate) = s.office.flagged (.device .sweepLate) := by
    rw [State.lowJudged_flagged]
    simp
  have hreached : (s.lowJudged before).deadlineReached = true
      ↔ s.sweep.walk.map Walk.urgency = some .may ∧ ¬s.freeSlots < s.sweep.floor ∧ s.sweep.deadline ≤ s.clock.sec := by
    rw [State.deadlineReached_iff, State.lowJudged_sweep, (s.lowJudged_rest before).2.1]
    by_cases hfloor : s.freeSlots < s.sweep.floor
    · simp only [hfloor, if_true, mustWalk_not_may, not_true_eq_false, false_and, and_false]
    · simp only [hfloor, if_false, not_false_eq_true, true_and, and_comm]
  rw [← hreached, ← hbefore]
  cases hdue : (s.lowJudged before).deadlineReached with
  | true => simp [State.deadlineTest_sweepLate _ hdue]
  | false =>
    have hsame : (s.lowJudged before).deadlineTest.office.flagged (.device .sweepLate) = (s.lowJudged before).office.flagged (.device .sweepLate) :=
      State.SameFlag.deadlineTest_of_not hdue .office
    simp [hsame]

end

end

/-- Settles O47: the writes, then the two tests on the written state. -/
theorem setStorePolicyWritesAndTests : Obligations.SetStorePolicyWritesAndTests := by
  unfold Obligations.SetStorePolicyWritesAndTests
  intro s i f hserves retention deadline floor limit may
  let t := (s.policySet retention deadline floor limit).lowJudged s.tableLow
  have heval : s.setStorePolicy f.payload = (t.deadlineTest, t.deadlineTest.policyReply) := by
    simp only [State.setStorePolicy, clamp, Nat.zero_max]
    rfl
  have hexec : exec .setStorePolicy s = .next _ := congrArg Host.Outcome.next (State.serves_eval hserves heval)
  have hkept := s.setStorePolicy_queuesKept f.payload
  rw [heval] at hkept
  have hsweep := (s.policySet retention deadline floor limit).policyTested_sweep s.tableLow
  have harbiter : t.deadlineTest.arbiter = { s.arbiter with burstLimit := limit } := by
    simp only [t, State.deadlineTest_frame, State.lowJudged_rest]
    rfl
  have hreply : t.deadlineTest.policyReply = [0, byteOf retention] ++ bytesOf 3 deadline ++ bytesOf 2 floor ++ [byteOf limit] := by
    rw [State.policyReply, hsweep, harbiter]
    rfl
  rw [hreply] at hexec
  have hflag (e : Event) : ((t.deadlineTest.complete .office i f ([0, byteOf retention] ++ bytesOf 3 deadline ++ bytesOf 2 floor ++ [byteOf limit])).office).flagged e
      = t.deadlineTest.office.flagged e := State.SameFlag.complete e .office
  refine ⟨_, hexec, ?_, ?_, hkept.answers .office i f _, ?_, ?_, exec_frame hexec⟩
  · rw [(State.complete_sweep ..)]
    exact hsweep
  · rw [State.complete_arbiter]
    exact harbiter
  · rw [hflag]
    exact (s.policySet retention deadline floor limit).policyTested_sweepLate s.tableLow
  · rw [hflag]
    have hsame : t.deadlineTest.office.flagged (.device .tableLow) = t.office.flagged (.device .tableLow) :=
      State.SameFlag.deadlineTest (by simp) .office
    have hlow : (s.policySet retention deadline floor limit).tableLow = decide (s.freeSlots < floor) := rfl
    have hoffice : (s.policySet retention deadline floor limit).office = s.office := rfl
    rw [hsame, State.lowJudged_flagged, hlow, hoffice, show s.tableLow = decide (s.freeSlots < s.sweep.floor) from rfl]
    by_cases hold : s.freeSlots < s.sweep.floor
    · by_cases hnew : s.freeSlots < floor
      · simp [hold, hnew]
      · simp [hold, hnew, Edge.takes]
    · by_cases hnew : s.freeSlots < floor
      · simp [hold, hnew, Edge.takes]
      · simp [hold, hnew]

end Sys2Proof.Machine

/-! What the reads answer, and the count requests (sections 3.6, 6.8, 7.3 to 7.5 and 9.5). -/

namespace Sys2Proof.Machine

/-! ### Responses made of blocks of equal length -/

section

variable {α : Type} {f : α → List Byte} {w : Nat}

theorem length_flatMap_blocks (hw : ∀ a, (f a).length = w) (l : List α) : (l.flatMap f).length = w * l.length := by
  induction l with
  | nil => rfl
  | cons a l ih => rw [List.flatMap_cons, List.length_append, hw, ih, List.length_cons, Nat.mul_succ, Nat.add_comm]

/-- The blocks from block `i` on. -/
theorem drop_flatMap_blocks (hw : ∀ a, (f a).length = w) (l : List α) : ∀ i, (l.flatMap f).drop (w * i) = (l.drop i).flatMap f := by
  induction l with
  | nil => exact fun i => by simp
  | cons a l ih =>
    intro i
    cases i with
    | zero => rfl
    | succ i =>
      rw [List.flatMap_cons, Nat.mul_succ, Nat.add_comm, List.drop_append, hw, Nat.add_sub_cancel_left, ih,
        List.drop_eq_nil_of_le (by rw [hw]; omega)]
      rfl

/-- A field within block `i`. -/
theorem fieldAt_flatMap (hw : ∀ a, (f a).length = w) {l : List α} {i : Nat} (hi : i < l.length) {j n : Nat} (hj : j + n ≤ w) :
    fieldAt (w * i + j) n (l.flatMap f) = fieldAt j n (f l[i]) := by
  rw [fieldAt, ← List.drop_drop, drop_flatMap_blocks hw, List.drop_eq_getElem_cons hi, List.flatMap_cons]
  exact fieldAt_append_of_lt (by rw [hw]; exact hj) _

theorem byteAt_flatMap (hw : ∀ a, (f a).length = w) {l : List α} {i : Nat} (hi : i < l.length) {j : Nat} (hj : j < w) :
    byteAt (w * i + j) (l.flatMap f) = byteAt j (f l[i]) := by
  rw [byteAt_eq_fieldAt, byteAt_eq_fieldAt]
  exact fieldAt_flatMap hw hi hj

end

/-- A bit that stands above `k` others. -/
theorem testBit_above {x k : Nat} (hx : x < 2 ^ k) {bs : List Bool} {i : Nat} (h : i < bs.length) :
    (x + 2 ^ k * bitsOf bs).testBit (k + i) = bs.getD i false := by
  rw [Nat.add_comm, Nat.testBit_two_pow_mul_add _ hx, if_neg (by omega), Nat.add_sub_cancel_left, testBit_bitsOf h]

/-! ### READ_LANES -/

theorem LaneRec.bytes_length (r : LaneRec) : r.bytes.length = 5 := rfl

theorem LiftRec.bytes_length (r : LiftRec) : r.bytes.length = 5 := rfl

theorem allLanes_getElem (l : Lane) : allLanes[l.val]'(l.isLt) = l := by
  revert l
  decide

theorem allLifts_getElem (f : Lift) : allLifts[f.val]'(f.isLt) = f := by
  revert f
  decide

section

variable (s : State)

theorem State.readLanesReply_length : s.readLanesReply.length = 62 := rfl

/-- The byte of a lane in a READ_LANES response (R201). -/
theorem State.readLanesReply_lane (l : Lane) {n : Nat} (hn : n < 5) :
    byteAt (2 + 5 * l.val + n) s.readLanesReply = byteAt n (s.lane l).bytes := by
  have hl := l.isLt
  have hlength := length_flatMap_blocks (fun l => (s.lane l).bytes_length) allLanes
  have hplace : 2 + 5 * l.val + n - 2 = 5 * l.val + n := by omega
  rw [State.readLanesReply, byteAt_append_of_lt (by rw [List.length_append, hlength]; simp [allLanes]; omega),
    byteAt_append_of_le (by simp; omega)]
  refine (congrArg (byteAt · _) hplace).trans ((byteAt_flatMap (fun l => (s.lane l).bytes_length) (l := allLanes) hl hn).trans ?_)
  rw [allLanes_getElem]

/-- The field of a lift in a READ_LANES response (R201). -/
theorem State.readLanesReply_lift (f : Lift) {n w : Nat} (hn : n + w ≤ 5) :
    fieldAt (42 + 5 * f.val + n) w s.readLanesReply = fieldAt n w (s.lift f).bytes := by
  have hlength := length_flatMap_blocks (fun l => (s.lane l).bytes_length) allLanes
  have hplace : 42 + 5 * f.val + n - 42 = 5 * f.val + n := by omega
  rw [State.readLanesReply, fieldAt_append_of_le (by rw [List.length_append, hlength]; simp [allLanes]; omega)]
  refine (congrArg (fieldAt · w _) ?_).trans ((fieldAt_flatMap (i := f.val) (fun f => (s.lift f).bytes_length) (l := allLifts) f.isLt hn).trans ?_)
  · rw [List.length_append, hlength]
    exact hplace
  · rw [allLifts_getElem]

end

/-- Whether a lane is in FAULT (R104). -/
def LaneState.faulty : LaneState → Bool
  | .work _ => false
  | .fault _ => true

theorem LaneState.faulty_iff (x : LaneState) : x.faulty = true ↔ ∃ w, x = .fault w := by
  cases x <;> simp [LaneState.faulty]

/-- Lane state and remembered state, below the presence bit (R201). -/
def LaneState.codes : LaneState → Nat
  | .work w => w.code
  | .fault w => 3 + 4 * w.code

theorem LaneState.codes_lt (x : LaneState) : x.codes < 16 := by
  cases x with
  | work w => cases w <;> decide
  | fault w => cases w <;> decide

theorem LaneState.laneByte_eq (x : LaneState) : x.laneByte = x.codes + 16 * x.faulty.toNat := by
  cases x <;> simp [LaneState.laneByte, LaneState.codes, LaneState.faulty]

section

variable (r : LaneRec)

theorem LaneRec.bytes_first :
    byteAt 0 r.bytes = r.state.codes + 2 ^ 4 * bitsOf [r.state.faulty, r.suspect, r.hold.isSome, r.dwell.isSome] := by
  have hcodes := r.state.codes_lt
  have hbits := bitsOf_lt [r.state.faulty, r.suspect, r.hold.isSome, r.dwell.isSome]
  have hsum : r.state.laneByte + bitAt 5 r.suspect + bitAt 6 r.hold.isSome + bitAt 7 r.dwell.isSome
      = r.state.codes + 2 ^ 4 * bitsOf [r.state.faulty, r.suspect, r.hold.isSome, r.dwell.isSome] := by
    simp only [LaneState.laneByte_eq, bitAt_eq, bitsOf]
    omega
  rw [LaneRec.bytes, hsum, byteAt_cons_zero, byteOf_toNat]
  simp only [List.length_cons, List.length_nil] at hbits
  omega

theorem LaneRec.bytes_second (h : r.profile.holdTime ≤ 20) :
    byteAt 1 r.bytes = r.profile.holdTime + 2 ^ 5 * bitsOf [r.profile.toggle, r.dwell.any Dwell.spent, false] := by
  have hbits := bitsOf_lt [r.profile.toggle, r.dwell.any Dwell.spent]
  have hsum : r.profile.holdTime + bitAt 5 r.profile.toggle + bitAt 6 (r.dwell.any Dwell.spent)
      = r.profile.holdTime + 2 ^ 5 * bitsOf [r.profile.toggle, r.dwell.any Dwell.spent, false] := by
    simp only [bitAt_eq, bitsOf, Bool.toNat_false]
    omega
  have hsame : bitsOf [r.profile.toggle, r.dwell.any Dwell.spent, false] = bitsOf [r.profile.toggle, r.dwell.any Dwell.spent] := rfl
  rw [LaneRec.bytes, hsum, byteAt_cons_succ, byteAt_cons_zero, byteOf_toNat, hsame]
  simp only [List.length_cons, List.length_nil] at hbits
  omega

theorem LaneRec.bytes_counts (h : r.ok) : byteAt 2 r.bytes = r.profile.lateWindow ∧ byteAt 3 r.bytes = r.profile.threshold
    ∧ byteAt 4 r.bytes = r.unreadRun := by
  obtain ⟨⟨-, -, hlate, -, hthreshold⟩, hrun, -⟩ := h
  exact ⟨byteAt_of_byteOf rfl (by omega), byteAt_of_byteOf rfl (by omega), byteAt_of_byteOf rfl (by omega)⟩

end

/-! ### READ_STORE -/

/-- The grant count that READ_STORE carries, and whether one is present (R169, R201). -/
def Sweep.mustCount (w : Sweep) : Option Nat := w.walk.bind fun x => x.urgency.grants?

theorem Sweep.mustCount_eq_some (w : Sweep) (n : Nat) : w.mustCount = some n ↔ ∃ x, w.walk = some x ∧ x.urgency = .must n := by
  unfold Sweep.mustCount
  cases w.walk with
  | none => simp
  | some x => cases hu : x.urgency <;> simp [Urgency.grants?, hu]

theorem State.readStoreReply_marks (s : State) (h : s.sweep.ok) :
    (s.sweep.mustCount.getD 0 < 2 ^ 3)
      ∧ byteAt 2 s.readStoreReply = bitsOf [s.sweep.walk.isSome, s.sweep.mustCount.isSome]
        + 2 ^ 2 * (s.sweep.mustCount.getD 0 + 2 ^ 3 * bitsOf [s.tableLow, s.history.full, false]) := by
  have hcount : s.sweep.mustCount.getD 0 < 2 ^ 3 := by
    cases hc : s.sweep.mustCount with
    | none => exact Nat.zero_lt_succ _
    | some n =>
      obtain ⟨x, hwalk, hmust⟩ := (s.sweep.mustCount_eq_some n).1 hc
      obtain ⟨-, -, -, hw⟩ := h
      exact Nat.lt_of_le_of_lt ((hw x hwalk).2.2 n hmust) (by decide)
  refine ⟨hcount, ?_⟩
  have hlow := bitsOf_lt [s.sweep.walk.isSome, s.sweep.mustCount.isSome]
  have hhigh := bitsOf_lt [s.tableLow, s.history.full]
  have hsame : bitsOf [s.tableLow, s.history.full, false] = bitsOf [s.tableLow, s.history.full] := rfl
  have hsum : bitAt 0 s.sweep.walk.isSome + bitAt 1 s.sweep.mustCount.isSome + 4 * s.sweep.mustCount.getD 0 + bitAt 5 s.tableLow
      + bitAt 6 s.history.full = bitsOf [s.sweep.walk.isSome, s.sweep.mustCount.isSome]
        + 2 ^ 2 * (s.sweep.mustCount.getD 0 + 2 ^ 3 * bitsOf [s.tableLow, s.history.full, false]) := by
    simp only [bitAt_eq, bitsOf, Bool.toNat_false]
    omega
  have hbyte : byteAt 2 s.readStoreReply = (byteOf (bitAt 0 s.sweep.walk.isSome + bitAt 1 s.sweep.mustCount.isSome
      + 4 * s.sweep.mustCount.getD 0 + bitAt 5 s.tableLow + bitAt 6 s.history.full)).toNat := rfl
  rw [hbyte, hsum, byteOf_toNat, hsame]
  simp only [List.length_cons, List.length_nil] at hlow hhigh
  omega

/-- Settles O31: the reads hand back the state as it is; the bytes of their answers field by field. -/
theorem readsChangeNothing : Obligations.ReadsChangeNothing := by
  unfold Obligations.ReadsChangeNothing
  refine ⟨fun s => ⟨fun i f h => ?_, fun i f h => congrArg Host.Outcome.next (State.serves_eval h rfl),
    fun i f h => congrArg Host.Outcome.next (State.serves_eval h rfl),
    fun r h => congrArg Host.Outcome.next (State.grantTo_of_grantable h _), fun i f h hset hpart => ?_⟩, fun s hrange => ?_,
    fun s hrange hslots hfree => ?_⟩
  · have hreply : s.readClockReply = [0, byteOf ((if s.clock.state = .unset then 0 else 1) + (if s.clock.stalled then 2 else 0)
            + 4 * (s.calendar.classOf s.clock.day).val)]
          ++ bytesOf 2 s.clock.day ++ bytesOf 3 s.clock.sec ++ bytesOf 4 s.clock.ticks := by
      unfold State.readClockReply
      cases s.clock.state <;> rfl
    exact congrArg Host.Outcome.next (State.serves_eval h (congrArg (Prod.mk s) hreply))
  · have heval : s.readCounts f.payload = (s, s.dayPart (byteAt 1 f.payload)) := by
      rw [State.readCounts, if_neg (Nat.not_lt.2 hpart), hset]
      rfl
    exact congrArg Host.Outcome.next (State.serves_eval h heval)
  · intro reply
    refine ⟨s.readLanesReply_length, rfl, ?_, fun l => ?_, fun g => ?_⟩
    · have hbyte : byteAt 1 reply = s.scheme.code % 256 := rfl
      rw [hbyte]
      cases s.scheme <;> rfl
    · intro r code b
      have hok : r.ok := hrange.lanes l
      have hb {n : Nat} (hn : n < 5) : b n = byteAt n r.bytes := s.readLanesReply_lane l hn
      obtain ⟨h2, h3, h4⟩ := r.bytes_counts hok
      obtain ⟨⟨-, hhold, -⟩, -, -⟩ := hok
      have hcodes := r.state.codes_lt
      have hfirst := r.bytes_first
      have hsecond := r.bytes_second hhold
      rw [hb (by decide), hb (by decide), hb (by decide), hb (by decide), hb (by decide), h2, h3, h4]
      have hbit (i : Nat) (hi : i < 4) := testBit_above (k := 4) hcodes (bs := [r.state.faulty, r.suspect, r.hold.isSome, r.dwell.isSome]) hi
      have hbit' (i : Nat) (hi : i < 3) := testBit_above (k := 5) (Nat.lt_of_le_of_lt hhold (by decide))
        (bs := [r.profile.toggle, r.dwell.any Dwell.spent, false]) hi
      refine ⟨?_, ?_, ?_, ?_, ?_, ?_, ?_, ?_, ?_, ?_, rfl, rfl, rfl⟩
      · rw [hfirst, show (r.state.codes + 2 ^ 4 * bitsOf [r.state.faulty, r.suspect, r.hold.isSome, r.dwell.isSome]) % 4
          = r.state.codes % 4 by omega]
        cases r.state with
        | work w => cases w <;> rfl
        | fault w => cases w <;> rfl
      · rw [hfirst, show (r.state.codes + 2 ^ 4 * bitsOf [r.state.faulty, r.suspect, r.hold.isSome, r.dwell.isSome]) / 4 % 4
          = r.state.codes / 4 % 4 by omega]
        cases r.state with
        | work w => cases w <;> rfl
        | fault w => cases w <;> rfl
      · rw [hfirst, hbit 0 (by decide)]
        exact r.state.faulty_iff
      · rw [hfirst, hbit 1 (by decide)]
        exact decide_eq_true_iff
      · rw [hfirst, hbit 2 (by decide)]; rfl
      · rw [hfirst, hbit 3 (by decide)]; rfl
      · rw [hsecond]; omega
      · rw [hsecond, hbit' 0 (by decide)]; rfl
      · rw [hsecond, hbit' 1 (by decide)]
        exact Option.any_eq_true _ _
      · rw [hsecond, hbit' 2 (by decide)]; rfl
    · intro r
      obtain ⟨-, hrate, -, hburst, hlevel⟩ : r.ok := hrange.lifts g
      have hcapacity : r.capacity ≤ 60 * 32 := Nat.mul_le_mul_left _ hburst
      have hcode : r.established.code < 256 := by cases r.established <;> decide
      have hbyte {n : Nat} (hn : n < 5) : byteAt (42 + 5 * g.val + n) reply = byteAt n r.bytes := by
        rw [byteAt_eq_fieldAt, byteAt_eq_fieldAt]
        exact s.readLanesReply_lift g hn
      have hplace (n : Nat) : 42 + n + 5 * g.val = 42 + 5 * g.val + n := by omega
      refine ⟨?_, ?_, ?_, ?_⟩
      · rw [hplace 0, hbyte (by decide), byteAt_of_byteOf rfl hcode]
        cases r.established <;> rfl
      · rw [hplace 1, hbyte (by decide), byteAt_of_byteOf rfl (by omega)]
      · rw [hplace 2, hbyte (by decide), byteAt_of_byteOf rfl (by omega)]
      · rw [hplace 3]
        exact (s.readLanesReply_lift g (by decide)).trans (fieldAt_of_bytes rfl (by omega))
  · intro reply
    obtain ⟨hcount, hmarks⟩ := s.readStoreReply_marks hrange.sweep
    obtain ⟨hretention, hdeadline, hfloor, hwalk⟩ := hrange.sweep
    obtain ⟨hburst, -, hlimit⟩ := hrange.arbiter
    have hretention : s.sweep.retention < 256 := by omega
    have hdeadline : s.sweep.deadline < 16777216 := Nat.lt_of_le_of_lt hdeadline (by decide)
    have hfloor : s.sweep.floor < 65536 := Nat.lt_of_le_of_lt hfloor (by decide)
    have hcursor : (s.sweep.walk.map Walk.cursor).getD 0 < 65536 := by
      cases hw : s.sweep.walk with
      | none => exact Nat.zero_lt_succ _
      | some w => exact Nat.lt_trans (hwalk w hw).2.1 (by decide)
    have hmust (n : Nat) := s.sweep.mustCount_eq_some n
    have hlow := bitsOf_lt [s.sweep.walk.isSome, s.sweep.mustCount.isSome]
    have hbit (i : Nat) (hi : i < 2) : (byteAt 2 reply).testBit i = [s.sweep.walk.isSome, s.sweep.mustCount.isSome].getD i false := by
      rw [hmarks]
      exact testBit_bitsOf_add hi _
    have hhigh (i : Nat) (hi : i < 3) : (byteAt 2 reply).testBit (5 + i) = [s.tableLow, s.history.full, false].getD i false := by
      have hsplit : byteAt 2 reply = (bitsOf [s.sweep.walk.isSome, s.sweep.mustCount.isSome] + 2 ^ 2 * s.sweep.mustCount.getD 0)
          + 2 ^ 5 * bitsOf [s.tableLow, s.history.full, false] := by
        rw [hmarks]; omega
      rw [hsplit]
      refine testBit_above ?_ hi
      simp only [List.length_cons, List.length_nil] at hlow
      omega
    have hgrants : byteAt 2 reply / 4 % 8 = s.sweep.mustCount.getD 0 := by
      simp only [List.length_cons, List.length_nil] at hlow
      rw [hmarks]
      omega
    refine ⟨by simp [reply, State.readStoreReply], rfl, ?_, ?_, ?_, fun w n hw hu => ?_, fun hno => ?_, ?_, hhigh 1 (by decide), hhigh 2 (by decide),
      fun w hw => ?_, fun hw => ?_, ?_, ?_, ?_, ?_, ?_, ?_, ?_⟩
    · have hbyte : byteAt 1 reply = (bitAt 0 s.sweep.walk.isSome + bitAt 1 s.sweep.mustCount.isSome) % 256 := rfl
      rw [hbyte, Sweep.mustCount]
      cases s.sweep.walk with
      | none => rfl
      | some w => cases hu : w.urgency <;> simp [hu, Urgency.grants?, bitAt]
    · exact Bool.eq_iff_iff.1 (hbit 0 (by decide))
    · rw [hbit 1 (by decide)]
      refine Option.isSome_iff_exists.trans ⟨fun ⟨n, hn⟩ => ?_, fun ⟨w, n, hw, hu⟩ => ⟨n, (hmust n).2 ⟨w, hw, hu⟩⟩⟩
      obtain ⟨w, hw, hu⟩ := (hmust n).1 hn
      exact ⟨w, n, hw, hu⟩
    · rw [hgrants, (hmust n).2 ⟨w, hw, hu⟩]
      rfl
    · rw [hgrants]
      cases hc : s.sweep.mustCount with
      | none => rfl
      | some n =>
        obtain ⟨w, hw, hu⟩ := (hmust n).1 hc
        exact absurd hu (hno w n hw)
    · rw [hhigh 0 (by decide)]
      exact decide_eq_true_iff
    · refine (fieldAt_of_bytes ?_ hcursor).trans (by rw [hw]; rfl)
      simp [reply, State.readStoreReply, bytesOf]
    · refine (fieldAt_of_bytes ?_ hcursor).trans (by rw [hw]; rfl)
      simp [reply, State.readStoreReply, bytesOf]
    · exact fieldAt_of_bytes (by simp [reply, State.readStoreReply, bytesOf]) (by omega)
    · exact fieldAt_of_bytes (by simp [reply, State.readStoreReply, bytesOf]) (by omega)
    · exact byteAt_of_byteOf (by simp [reply, State.readStoreReply, bytesOf]) (by omega)
    · exact byteAt_of_byteOf (by simp [reply, State.readStoreReply, bytesOf]) (by omega)
    · exact fieldAt_of_bytes (by simp [reply, State.readStoreReply, bytesOf]) (by omega)
    · exact fieldAt_of_bytes (by simp [reply, State.readStoreReply, bytesOf]) (by omega)
    · exact byteAt_of_byteOf (by simp [reply, State.readStoreReply, bytesOf]) (by omega)

end Sys2Proof.Machine

/-! TAKE_SNAPSHOT, SET_REPORT and READ_COUNTS (sections 7.3 to 7.5). -/

namespace Sys2Proof.Machine

section

variable {s : State} {p : List Byte}

theorem State.takeSnapshot_of_auto {n : Nat} (h : s.counts.mode = .auto n) : s.takeSnapshot = (s, [15]) := by
  rw [State.takeSnapshot, h]
  rfl

theorem State.takeSnapshot_of_manual (h : s.counts.mode = .manual) : s.takeSnapshot = (s.transfer,
    [0] ++ bytesOf 2 s.counts.round ++ [byteOf ((if s.counts.snapUnread then 2 else 0) + if s.counts.saturated then 4 else 0)]) := by
  rw [State.takeSnapshot, h]
  refine congrArg (Prod.mk _) ?_
  rw [State.transfer_counts]
  rfl

theorem State.setReport_of_badValue (h : 1 < byteAt 0 p) : s.setReport p = (s, [4]) := by
  obtain ⟨n, hn⟩ : ∃ n, byteAt 0 p = n + 2 := ⟨byteAt 0 p - 2, by omega⟩
  rw [State.setReport, hn]
  rfl

theorem State.setReport_of_manual (h : byteAt 0 p = 0) : s.setReport p =
    (s.withCounts { s.counts with period := max 1 (min (byteAt 1 p) 60), mode := .manual },
      [0, 0, 0, byteOf (max 1 (min (byteAt 1 p) 60))] ++ bytesOf 2 s.counts.round ++ [0, 0]) := by
  have hzero : ([0, 0] : List Byte) = bytesOf 2 0 := by decide
  rw [State.setReport, h, hzero]
  rfl

theorem State.setReport_of_auto (h : byteAt 0 p = 1) : s.setReport p =
    (s.withCounts { s.counts with period := max 1 (min (byteAt 1 p) 60), mode := .auto (60 * max 1 (min (byteAt 1 p) 60)) },
      [0, 1, 1, byteOf (max 1 (min (byteAt 1 p) 60))] ++ bytesOf 2 s.counts.round ++ bytesOf 2 (60 * max 1 (min (byteAt 1 p) 60))) := by
  rw [State.setReport, h, Nat.mul_comm 60]
  rfl

theorem State.readCounts_of_badValue (h : 1 < byteAt 0 p ∨ 8 < byteAt 1 p) : s.readCounts p = (s, [4]) := by
  by_cases hpart : 8 < byteAt 1 p
  · exact if_pos hpart
  · obtain ⟨n, hn⟩ : ∃ n, byteAt 0 p = n + 2 := ⟨byteAt 0 p - 2, by omega⟩
    rw [State.readCounts, if_neg hpart, hn]
    rfl

theorem State.readCounts_of_snapshot (hset : byteAt 0 p = 0) (hpart : byteAt 1 p ≤ 8) : s.readCounts p =
    (s.withCounts { s.counts with snapUnread := s.counts.snapUnread && byteAt 1 p != 8 }, s.counts.snapshotPart (byteAt 1 p)) := by
  rw [State.readCounts, if_neg (Nat.not_lt.2 hpart), hset]
  refine congrArg (·, s.counts.snapshotPart (byteAt 1 p)) ?_
  by_cases h : byteAt 1 p = 8
  · simp [h]
  · rw [if_neg h, bne_iff_ne.2 h, Bool.and_true]
    rfl

end

/-! ### The counters of a part -/

section

variable (c : CountSet)

theorem CountSet.part_lane {part : Nat} {l : Lane} (h : part = l.val) (k : LaneCounter) :
    (c.part part 2).length = 22 ∧ fieldAt (2 * k.index.val) 2 (c.part part 2) = c.lane l k % 65536 := by
  have hpart : c.part part 2 = (c.lanes[l]).toList.flatMap (bytesOf 2) := by
    have hlane : Fin.ofNat 8 part = l := Fin.ext ((congrArg (· % 8) h).trans (Nat.mod_eq_of_lt l.isLt))
    rw [CountSet.part, if_pos (h ▸ l.isLt)]
    exact congrArg (fun x : Lane => (c.lanes[x]).toList.flatMap (bytesOf 2)) hlane
  rw [hpart]
  refine ⟨by rw [length_flatMap_blocks (bytesOf_length 2), Vector.length_toList], ?_⟩
  have hk : k.index.val < (c.lanes[l]).toList.length := by rw [Vector.length_toList]; exact k.index.isLt
  refine (fieldAt_flatMap (j := 0) (bytesOf_length 2) hk (Nat.le_refl 2)).trans ?_
  rw [fieldAt_bytesOf]
  rfl

theorem CountSet.part_lift (g : Lift) (k : LiftCounter) :
    (c.part 8 2).length = 24 ∧ fieldAt (6 * g.val + 2 * k.index.val) 2 (c.part 8 2) = c.lift g k % 65536 := by
  have hblock (v : Vector Nat 3) : (v.toList.flatMap (bytesOf 2)).length = 6 := by
    rw [length_flatMap_blocks (bytesOf_length 2), Vector.length_toList]
  have hpart : c.part 8 2 = c.lifts.toList.flatMap fun v => v.toList.flatMap (bytesOf 2) := rfl
  rw [hpart]
  refine ⟨by rw [length_flatMap_blocks hblock, Vector.length_toList], ?_⟩
  have hg : g.val < c.lifts.toList.length := by rw [Vector.length_toList]; exact g.isLt
  have hk : k.index.val < (c.lifts[g]).toList.length := by rw [Vector.length_toList]; exact k.index.isLt
  have hindex := k.index.isLt
  refine (fieldAt_flatMap hblock hg (by omega)).trans ((fieldAt_flatMap (j := 0) (bytesOf_length 2) hk (Nat.le_refl 2)).trans ?_)
  rw [fieldAt_bytesOf]
  rfl

end

/-- Settles O46: the branches of the three requests, and the blocks of two bytes of a part. -/
theorem countRequests : Obligations.CountRequests := by
  unfold Obligations.CountRequests
  refine ⟨⟨fun s i f hserves => ⟨fun n hmode => ?_, fun hmode => ?_⟩, fun s i f hserves => ⟨fun h => ?_, fun h => ?_, fun h => ?_⟩⟩,
    fun s i f hserves => ?_⟩
  · exact congrArg Host.Outcome.next (State.serves_eval hserves (State.takeSnapshot_of_auto hmode))
  · have heval := State.takeSnapshot_of_manual hmode
    have hexec : exec .takeSnapshot s = .next _ := congrArg Host.Outcome.next (State.serves_eval hserves heval)
    have hkept := s.takeSnapshot_queuesKept
    rw [heval] at hkept
    refine ⟨_, hexec, ?_, hkept.answers .office i f _, fun e => ?_, exec_frame hexec⟩
    · simp only [State.complete_frame, State.transfer_counts, hmode]
      rfl
    · exact (State.SameFlag.complete e .office).trans (s.transfer_office e)
  · exact congrArg Host.Outcome.next (State.serves_eval hserves (State.setReport_of_badValue h))
  · exact congrArg Host.Outcome.next (State.serves_eval hserves (State.setReport_of_manual h))
  · exact congrArg Host.Outcome.next (State.serves_eval hserves (State.setReport_of_auto h))
  · intro part c timer mark
    refine ⟨fun h => congrArg Host.Outcome.next (State.serves_eval hserves (State.readCounts_of_badValue h)), fun hset hpart => ?_⟩
    refine ⟨c.snapshot.part part 2, ?_, fun l k hl => c.snapshot.part_lane hl k, fun h8 => ⟨?_, fun g k => ?_⟩⟩
    · have hmode : timer = c.mode.remaining? := by
        simp only [timer, c]
        cases s.counts.mode <;> rfl
      have hreply : s.counts.snapshotPart part = [0, 0, byteOf part] ++ bytesOf 2 c.snapRound
          ++ [byteOf (mark c.snapUnread 1 + mark c.snapOverrun 2 + mark c.snapSaturated 4 + mark timer.isSome 24)]
          ++ bytesOf 2 (timer.getD 0) ++ c.snapshot.part part 2 := by
        have hmarks : bitAt 3 c.mode.remaining?.isSome + bitAt 4 c.mode.remaining?.isSome = mark c.mode.remaining?.isSome 24 := by
          cases c.mode.remaining?.isSome <;> rfl
        rw [hmode, ← hmarks, ← Nat.add_assoc]
        rfl
      rw [← hreply]
      exact congrArg Host.Outcome.next (State.serves_eval hserves (State.readCounts_of_snapshot hset hpart))
    · rw [h8]
      exact (c.snapshot.part_lift 0 .boarded).1
    · rw [h8]
      exact (c.snapshot.part_lift g k).2

end Sys2Proof.Machine

/-! The visits, retirements and batches of the day-close sweep (section 9.4). -/

namespace Sys2Proof.Machine

/-! ### One visit -/

section

variable (e : Entry) (today keep : Nat)

/-- Whether a visit retires the entry (R175). -/
def Entry.leaves : Bool := e.marker.isNone && (e.lapsed today).retires today keep

/-- What a visit leaves in the slot of the entry (R175, R176). -/
def Entry.swept : Option Entry := if e.leaves today keep then none else some (if e.marker.isNone then e.lapsed today else e)

variable {e today}

theorem Entry.lapsed_of_live {q : LiveState} (h : e.state = .live q) :
    e.lapsed today = if e.validTo < today then { e with state := .expired } else e := by
  simp only [Entry.lapsed, Entry.lapses, h, decide_eq_true_eq]

theorem Entry.lapsed_of_not_live (h : ∀ q, e.state ≠ .live q) : e.lapsed today = e := by
  unfold Entry.lapsed Entry.lapses
  cases hstate : e.state with
  | live q => exact absurd hstate (h q)
  | suspended q | refunded d a | expired => rfl

/-- A live entry leaves when it is expired and retired in one visit. -/
theorem Entry.retires_lapsed_of_live {q : LiveState} (h : e.state = .live q) :
    (e.lapsed today).retires today keep = decide (e.validTo + keep < today) := by
  rw [Entry.lapsed_of_live h]
  split
  next => rfl
  next hvalid =>
    rw [Entry.retires, h]
    exact (decide_eq_false (by omega)).symm

end

section

variable {s : State} {n : Nat} {e : Entry}

theorem State.visitSlot_of_free (h : s.entryAt n = none) : s.visitSlot n = s := by rw [State.visitSlot, h]

theorem State.visitSlot_of_marked (h : s.entryAt n = some e) (hmarker : e.marker.isSome = true) : s.visitSlot n = s := by
  rw [State.visitSlot, h]
  exact if_pos hmarker

theorem State.visitSlot_of_entry (h : s.entryAt n = some e) (hmarker : e.marker = none) : s.visitSlot n =
    if (e.lapsed s.clock.day).retires s.clock.day s.sweep.retention then s.retire n (e.lapsed s.clock.day)
    else if e.lapsed s.clock.day = e then s else s.putEntry n (e.lapsed s.clock.day) := by
  rw [State.visitSlot, h]
  exact if_neg (by simp [hmarker])

/-- An entry that its visit neither expires nor retires stays. -/
theorem State.visitSlot_of_kept (h : s.entryAt n = some e) (hmarker : e.marker = none) (hlapsed : e.lapsed s.clock.day = e)
    (hkept : e.retires s.clock.day s.sweep.retention = false) : s.visitSlot n = s := by
  rw [State.visitSlot_of_entry h hmarker, hlapsed, hkept]
  simp

theorem State.visitSlot_of_retired (h : s.entryAt n = some e) (hmarker : e.marker = none) (hlapsed : e.lapsed s.clock.day = e)
    (hretired : e.retires s.clock.day s.sweep.retention = true) : s.visitSlot n = s.retire n e := by
  rw [State.visitSlot_of_entry h hmarker, hlapsed, if_pos hretired]

end

/-- Settles O51: a visit by the state of its entry, and the fields of `State.retire`. -/
theorem sweepVisitAndRetirement : Obligations.SweepVisitAndRetirement := by
  unfold Obligations.SweepVisitAndRetirement
  refine ⟨fun s n => ?_, fun s n e _ _ => ?_⟩
  · intro today keep
    refine ⟨State.visitSlot_of_free, fun e he => ⟨State.visitSlot_of_marked he, fun hmarker => ⟨fun q hstate => ?_, fun q hstate => ?_,
      fun hstate => ?_, fun d a hstate => ?_⟩⟩⟩
    · have hlapsed : e.lapsed today = if e.validTo < today then { e with state := .expired } else e := Entry.lapsed_of_live hstate
      have hretires : (e.lapsed today).retires today keep = decide (e.validTo + keep < today) := Entry.retires_lapsed_of_live keep hstate
      have hvisit := State.visitSlot_of_entry he hmarker
      refine ⟨fun hvalid => ?_, fun hvalid hkeep => ?_, fun hgone => ?_⟩
      · have hsame : e.lapsed today = e := hlapsed.trans (if_neg (Nat.not_lt.2 hvalid))
        refine State.visitSlot_of_kept he hmarker hsame ?_
        rw [← hsame]
        exact hretires.trans (decide_eq_false (by omega))
      · rw [if_pos hvalid] at hlapsed
        have hne : ({ e with state := .expired } : Entry) ≠ e := fun h => by simpa [hstate] using congrArg Entry.state h
        rw [hvisit, if_neg (by rw [hretires]; simpa using hkeep), hlapsed, if_neg hne]
      · rw [if_pos (show e.validTo < today by omega)] at hlapsed
        rw [hvisit, if_pos (by rw [hretires]; simpa using hgone), hlapsed]
    · have hsame : e.lapsed today = e := Entry.lapsed_of_not_live (by simp [hstate])
      exact State.visitSlot_of_kept he hmarker hsame (by rw [Entry.retires, hstate])
    · have hsame : e.lapsed today = e := Entry.lapsed_of_not_live (by simp [hstate])
      have hretires : e.retires today keep = decide (e.validTo + keep < today) := by rw [Entry.retires, hstate]
      exact ⟨fun hkeep => State.visitSlot_of_kept he hmarker hsame (hretires.trans (by simpa using hkeep)),
        fun hgone => State.visitSlot_of_retired he hmarker hsame (hretires.trans (by simpa using hgone))⟩
    · have hsame : e.lapsed today = e := Entry.lapsed_of_not_live (by simp [hstate])
      have hretires : e.retires today keep = decide (max e.validTo d + keep < today) := by rw [Entry.retires, hstate]
      exact ⟨fun hkeep => State.visitSlot_of_kept he hmarker hsame (hretires.trans (by simpa using hkeep)),
        fun hgone => State.visitSlot_of_retired he hmarker hsame (hretires.trans (by simpa using hgone))⟩
  · rw [State.retire_history]
    exact ⟨by simp, fun m hm => by simp [hm], s.retire_freeSlots n e, rfl, fun g hg => by rw [History.freeChain_granule, if_pos hg],
      fun g hg => by rw [History.freeChain_granule, if_neg hg], rfl, by simp [onlyChanges_iff]⟩

/-! ### A batch -/

section

variable (s : State)

theorem State.visitSlot_entryAt (n m : Nat) : (s.visitSlot n).entryAt m
    = if m = n then (s.entryAt n).bind (Entry.swept · s.clock.day s.sweep.retention) else s.entryAt m := by
  cases he : s.entryAt n with
  | none =>
    rw [State.visitSlot_of_free he]
    split
    next h => rw [h, he]; rfl
    next => rfl
  | some e =>
    rw [Option.bind_some]
    cases hmarker : e.marker with
    | some l =>
      rw [State.visitSlot_of_marked he (by simp [hmarker]), Entry.swept, Entry.leaves, hmarker]
      split
      next h => rw [h, he]; rfl
      next => rfl
    | none =>
      rw [State.visitSlot_of_entry he hmarker, Entry.swept, Entry.leaves, hmarker]
      simp only [Option.isNone_none, Bool.true_and, if_true]
      split
      · simp
      · split
        next hsame =>
          rw [hsame]
          split
          next h => rw [h, he]
          next => rfl
        next => simp [State.putEntry_entryAt]

theorem State.visitSlot_freeSlots (n : Nat) : (s.visitSlot n).freeSlots
    = s.freeSlots + if (s.entryAt n).any (Entry.leaves · s.clock.day s.sweep.retention) then 1 else 0 := by
  cases he : s.entryAt n with
  | none =>
    rw [State.visitSlot_of_free he]
    rfl
  | some e =>
    rw [Option.any_some]
    cases hmarker : e.marker with
    | some l =>
      rw [State.visitSlot_of_marked he (by simp [hmarker]), Entry.leaves, hmarker]
      rfl
    | none =>
      rw [State.visitSlot_of_entry he hmarker, Entry.leaves, hmarker]
      simp only [Option.isNone_none, Bool.true_and]
      split
      · exact State.retire_freeSlots ..
      · split <;> simp

/-- A visit may raise a walk at MAY to MUST, since it judges TABLE_LOW again, and leaves the sweep otherwise (R172). -/
theorem State.visitSlot_sweep (n : Nat) :
    (s.visitSlot n).sweep = s.sweep ∨ (s.visitSlot n).sweep = { s.sweep with walk := mustWalk s.sweep.walk } := by
  have hretire (e : Entry) : (s.retire n e).sweep = s.sweep ∨ (s.retire n e).sweep = { s.sweep with walk := mustWalk s.sweep.walk } := by
    rw [State.retire, State.setFreeSlots_sweep]
    split
    · exact .inr (by simp)
    · exact .inl (by simp)
  unfold State.visitSlot
  split
  · exact .inl rfl
  · split
    · exact .inl rfl
    · dsimp only
      split
      · exact hretire _
      · split
        · exact .inl rfl
        · exact .inl (by simp)

end

/-- The slots `ns`, visited one after another. -/
def State.visited (s : State) (ns : List Nat) : State := ns.foldl State.visitSlot s

theorem State.visited_sweep (ns : List Nat) : ∀ s : State,
    (s.visited ns).sweep = s.sweep ∨ (s.visited ns).sweep = { s.sweep with walk := mustWalk s.sweep.walk } := by
  induction ns with
  | nil => exact fun s => .inl rfl
  | cons n ns ih =>
    intro s
    rcases s.visitSlot_sweep n with h | h <;> rcases ih (s.visitSlot n) with h' | h'
    · exact .inl (h'.trans h)
    · exact .inr (by rw [← h]; exact h')
    · exact .inr (h'.trans h)
    · exact .inr (h'.trans (by rw [h, mustWalk_mustWalk]))

theorem State.visitSlot_kept (s : State) (n : Nat) :
    (s.visitSlot n).clock = s.clock ∧ (s.visitSlot n).sweep.retention = s.sweep.retention := by
  refine ⟨by simp, ?_⟩
  rcases s.visitSlot_sweep n with h | h
  · rw [h]
  · rw [h]

theorem State.visited_entryAt (m : Nat) (ns : List Nat) : ∀ s : State, ns.Nodup → (s.visited ns).entryAt m
    = if m ∈ ns then (s.entryAt m).bind (Entry.swept · s.clock.day s.sweep.retention) else s.entryAt m := by
  induction ns with
  | nil => exact fun s _ => rfl
  | cons n ns ih =>
    intro s hnodup
    obtain ⟨hn, hns⟩ := List.nodup_cons.1 hnodup
    obtain ⟨hclock, hretention⟩ := s.visitSlot_kept n
    have hrest := ih (s.visitSlot n) hns
    rw [hclock, hretention, State.visitSlot_entryAt] at hrest
    refine hrest.trans ?_
    by_cases hm : m = n
    · subst hm
      simp [hn]
    · simp [hm]

theorem State.visited_freeSlots (ns : List Nat) : ∀ s : State, ns.Nodup → (s.visited ns).freeSlots
    = s.freeSlots + (ns.filter fun n => (s.entryAt n).any (Entry.leaves · s.clock.day s.sweep.retention)).length := by
  induction ns with
  | nil => exact fun s _ => rfl
  | cons n ns ih =>
    intro s hnodup
    obtain ⟨hn, hns⟩ := List.nodup_cons.1 hnodup
    obtain ⟨hclock, hretention⟩ := s.visitSlot_kept n
    have hrest := ih (s.visitSlot n) hns
    rw [hclock, hretention, State.visitSlot_freeSlots] at hrest
    have hsame : ∀ m ∈ ns, (s.visitSlot n).entryAt m = s.entryAt m := fun m hm => by
      rw [State.visitSlot_entryAt, if_neg fun h : m = n => hn (h ▸ hm)]
    refine hrest.trans ?_
    rw [List.filter_congr fun m hm => by rw [hsame m hm], List.filter_cons]
    split
    · rw [List.length_cons]; omega
    · rw [Nat.add_zero]

/-- The 64 slots of a batch from `cursor` on (R175). -/
def batchSlots (cursor : Nat) : List Nat := (List.range 64).map (cursor + ·)

theorem batchSlots_nodup (cursor : Nat) : (batchSlots cursor).Nodup :=
  List.nodup_range.map fun _ _ h => Nat.add_left_cancel h

theorem mem_batchSlots {cursor n : Nat} : n ∈ batchSlots cursor ↔ cursor ≤ n ∧ n < cursor + 64 := by
  simp only [batchSlots, List.mem_map, List.mem_range]
  exact ⟨fun ⟨j, hj, h⟩ => by omega, fun h => ⟨n - cursor, by omega, by omega⟩⟩

theorem State.sweepBatch_of_walk {s : State} {w : Walk} (h : s.sweep.walk = some w) :
    s.sweepBatch = (s.visited (batchSlots w.cursor)).endBatch w.cursor := by
  rw [State.sweepBatch, h]
  rfl

theorem State.endBatch_sweep_rest (s : State) (cursor : Nat) : (s.endBatch cursor).sweep.retention = s.sweep.retention
    ∧ (s.endBatch cursor).sweep.deadline = s.sweep.deadline ∧ (s.endBatch cursor).sweep.floor = s.sweep.floor := by
  unfold State.endBatch
  split
  · simp [State.setWalk]
  · split
    · simp [State.setWalk]
    · exact ⟨rfl, rfl, rfl⟩

/-- The last batch of a walk (R179). -/
theorem State.endBatch_of_last (s : State) {cursor : Nat} (h : 16384 ≤ cursor + 64) :
    (s.endBatch cursor).sweep.walk = none ∧ (s.endBatch cursor).office.flagged (.device .sweepDone) = true := by
  rw [State.endBatch, if_pos h]
  refine ⟨by simp [State.setWalk], ?_⟩
  exact ((s.setWalk none).raise_flagged (.device .sweepDone) (.device .sweepDone) .office).trans (by simp)

theorem State.endBatch_of_more {s : State} {cursor : Nat} (h : cursor + 64 < 16384) {x : Walk} (hwalk : s.sweep.walk = some x) :
    (s.endBatch cursor).sweep.walk = some { x with cursor := cursor + 64 } := by
  rw [State.endBatch, if_neg (Nat.not_le.2 h), hwalk]
  rfl

/-- Settles O52: 64 visits of different slots on the charged state, then `State.endBatch`. -/
theorem sweepBatchVisitsItsSlots : Obligations.SweepBatchVisitsItsSlots := by
  unfold Obligations.SweepBatchVisitsItsSlots
  intro s w hselect hwalk today expires retires
  have hretires (e : Entry) : e.leaves today s.sweep.retention = retires e := by
    refine congrArg (e.marker.isNone && ·) ?_
    cases hstate : e.state with
    | live q => exact Entry.retires_lapsed_of_live _ hstate
    | suspended q | refunded d a | expired => rw [Entry.lapsed_of_not_live (by simp [hstate]), Entry.retires, hstate]
  have hexpires (e : Entry) : (if e.marker.isNone then e.lapsed today else e) = if expires e then { e with state := .expired } else e := by
    cases hmarker : e.marker with
    | some l => simp [expires, hmarker]
    | none =>
      cases hstate : e.state with
      | live q => simp [expires, hmarker, hstate, Entry.lapsed_of_live hstate]
      | suspended q | refunded d a | expired =>
        rw [Entry.lapsed_of_not_live (by simp [hstate])]
        simp [expires, hstate]
  have hswept (e : Entry) : e.swept today s.sweep.retention
      = if retires e then none else some (if expires e then { e with state := .expired } else e) := by
    rw [Entry.swept, hretires, hexpires]
  let u := s.charge .batch
  have hcharged : u.sweep = { s.sweep with walk := some { w with urgency := w.urgency.charged .batch } } := by
    rw [State.charge_sweep, hwalk]
    rfl
  have hbatch : u.sweepBatch = (u.visited (batchSlots w.cursor)).endBatch w.cursor := 
    State.sweepBatch_of_walk (w := { w with urgency := w.urgency.charged .batch }) (by rw [hcharged])
  have hexec : exec .sweepBatch s = .next ((u.visited (batchSlots w.cursor)).endBatch w.cursor) :=
    congrArg Host.Outcome.next ((if_pos hselect).trans hbatch)
  have hentry (n : Nat) := u.visited_entryAt n (batchSlots w.cursor) (batchSlots_nodup _)
  have hfree := u.visited_freeSlots (batchSlots w.cursor) (batchSlots_nodup _)
  have hsame : u.clock.day = today ∧ u.sweep.retention = s.sweep.retention ∧ u.freeSlots = s.freeSlots ∧ ∀ n, u.entryAt n = s.entryAt n := by
    refine ⟨by simp [u, today], by rw [hcharged], by simp [u], by simp [u]⟩
  obtain ⟨hday, hretention, hslots, hentries⟩ := hsame
  have hsweep := u.visited_sweep (batchSlots w.cursor)
  rw [hday, hretention] at hfree
  obtain ⟨x, hx, hcursor, hmay, hmust⟩ : ∃ x, (u.visited (batchSlots w.cursor)).sweep.walk = some x ∧ x.cursor = w.cursor
      ∧ (w.urgency = .may → x.urgency = .may ∨ x.urgency = .must 0) ∧ (w.urgency ≠ .may → x.urgency = .must 0) := by
    have hstart : w.urgency.charged .batch = .may ∧ w.urgency = .may ∨ w.urgency.charged .batch = .must 0 ∧ w.urgency ≠ .may := by
      cases w.urgency <;> simp [Urgency.charged]
    rcases hsweep with h | h
    · refine ⟨{ w with urgency := w.urgency.charged .batch }, by rw [h, hcharged], rfl, fun hmay => ?_, fun hmay => ?_⟩
      · exact .inl (hstart.resolve_right fun h => h.2 hmay).1
      · exact (hstart.resolve_left fun h => hmay h.2).1
    · refine ⟨{ w with urgency := .must 0 }, ?_, rfl, fun _ => .inr rfl, fun _ => rfl⟩
      rw [h, hcharged]
      rcases hstart with ⟨hstart, -⟩ | ⟨hstart, -⟩ <;> simp [mustWalk, hstart]
  obtain ⟨hkeep, hdeadline, hfloor⟩ := (u.visited (batchSlots w.cursor)).endBatch_sweep_rest w.cursor
  have hkept : (u.visited (batchSlots w.cursor)).sweep.retention = s.sweep.retention
      ∧ (u.visited (batchSlots w.cursor)).sweep.deadline = s.sweep.deadline
      ∧ (u.visited (batchSlots w.cursor)).sweep.floor = s.sweep.floor := by
    rcases hsweep with h | h <;> rw [h, hcharged] <;> exact ⟨rfl, rfl, rfl⟩
  refine ⟨_, hexec, fun n hn => ?_, fun n hlow hhigh => ?_, ?_, fun hlast => State.endBatch_of_last _ hlast, fun hmore => ?_,
    hkeep.trans hkept.1, hdeadline.trans hkept.2.1, hfloor.trans hkept.2.2, exec_frame hexec⟩
  · simp only [State.endBatch_frame]
    rw [hentry, if_neg fun h => by have := mem_batchSlots.1 h; omega, hentries]
  · simp only [State.endBatch_frame]
    rw [hentry, if_pos (mem_batchSlots.2 ⟨hlow, hhigh⟩), hentries, hday, hretention]
    exact congrArg (s.entryAt n).bind (funext hswept)
  · simp only [State.endBatch_frame]
    rw [hfree, hslots, batchSlots, List.filter_map, List.length_map]
    refine congrArg (s.freeSlots + ·) (congrArg List.length (List.filter_congr fun j _ => ?_))
    simp only [Function.comp_apply, hentries, funext hretires]
  · exact ⟨_, State.endBatch_of_more hmore hx, rfl, hmay, hmust⟩

end Sys2Proof.Machine

/-! Counting composed of events, and the ends of a hold: PASSED, RELEASE and EXPIRY (sections 5.2 to 5.6 and 7.1). -/

namespace Sys2Proof.Machine

/-! ### Counting composed of events -/

theorem bump_append {α : Type} [BEq α] [LawfulBEq α] {a b c : α → Nat} {top : Nat} {xs ys : List α}
    (hb : ∀ x, b x = if x ∈ xs then bump top (a x) else a x) (hc : ∀ x, c x = if x ∈ ys then bump top (b x) else b x)
    (hdisjoint : ∀ x ∈ xs, x ∉ ys) (x : α) : c x = if x ∈ xs ++ ys then bump top (a x) else a x := by
  rw [hc, hb]
  by_cases hx : x ∈ xs
  · simp [hx, hdisjoint x hx]
  · simp [hx]

section

variable {s t u : State} {ls ls' : List (Lane × LaneCounter)} {fs fs' : List (Lift × LiftCounter)}

theorem State.Counts.trans (h : s.Counts t ls fs) (h' : t.Counts u ls' fs') (hlanes : ∀ x ∈ ls, x ∉ ls') (hlifts : ∀ x ∈ fs, x ∉ fs') :
    s.Counts u (ls ++ ls') (fs ++ fs') := by
  obtain ⟨h1, h2, h3, h4⟩ := h
  obtain ⟨h1', h2', h3', h4'⟩ := h'
  exact ⟨fun l k => bump_append (fun x => h1 x.1 x.2) (fun x => h1' x.1 x.2) hlanes (l, k),
    fun l k => bump_append (fun x => h2 x.1 x.2) (fun x => h2' x.1 x.2) hlanes (l, k),
    fun f k => bump_append (fun x => h3 x.1 x.2) (fun x => h3' x.1 x.2) hlifts (f, k),
    fun f k => bump_append (fun x => h4 x.1 x.2) (fun x => h4' x.1 x.2) hlifts (f, k)⟩

theorem State.Counts.none (h : t.counts = s.counts) : s.Counts t [] [] := by
  rw [State.Counts, h]
  exact ⟨fun _ _ => rfl, fun _ _ => rfl, fun _ _ => rfl, fun _ _ => rfl⟩

/-- Counting looks at the count units alone. -/
theorem State.Counts.congr {s' t' : State} (h : s.Counts t ls fs) (hs : s.counts = s'.counts) (ht : t'.counts = t.counts) :
    s'.Counts t' ls fs := by
  rw [State.Counts, ht, ← hs]
  exact h

end

/-! ### The rollback of a hold -/

section

variable {s : State} {h : Hold} {e : Entry}

theorem State.rollback_entryAt (he : s.entryAt h.slot = some e) (l : Lane) (m : Nat) : (s.rollback l h).entryAt m
    = if m = h.slot then some (e.undone h (s.history.undo h.facts h.lift e.chain).1) else s.entryAt m := by
  have hentry : (s.rollback l h).entryAt m = (s.undoGrant l h).entryAt m := by simp [State.rollback]
  rw [hentry, State.undoGrant_of_entry he]
  simp [State.putEntry_entryAt]

theorem State.rollback_history (he : s.entryAt h.slot = some e) (l : Lane) :
    (s.rollback l h).history = (s.history.undo h.facts h.lift e.chain).2 := by
  have hhistory : (s.rollback l h).history = (s.undoGrant l h).history := by simp [State.rollback]
  rw [hhistory, State.undoGrant_of_entry he]
  simp

theorem State.rollback_lift (s : State) (l : Lane) (h : Hold) (f : Lift) : (s.rollback l h).lift f
    = if f = h.lift then { s.lift f with level := min ((s.lift f).level + 60) (60 * (s.lift f).burst) } else s.lift f := by
  have hundone (g : Lift) : (s.undoGrant l h).lift g = s.lift g := by
    unfold State.undoGrant
    split <;> simp
  rw [State.rollback, State.givePace, State.setLift_lift]
  split
  next hf =>
    subst hf
    simp [hundone, LiftRec.capacity, Config.riderUnits]
  next => simp [hundone]

end

/-! ### PASSED -/

section

variable (s : State) (l : Lane) (h : Hold)

theorem State.commitHold_entryAt (n : Nat) : (s.commitHold l h).entryAt n
    = if n = h.slot then (s.entryAt n).map fun e => { e with marker := none } else s.entryAt n := by
  have hmod := s.modEntry_entryAt h.slot n fun e => { e with marker := none }
  have hrest : (s.commitHold l h).entryAt n = (s.modEntry h.slot fun e => { e with marker := none }).entryAt n := by
    simp only [State.commitHold]
    split <;> split <;> simp
  rw [hrest, hmod]
  split
  next hn => rw [hn]
  next => rfl

theorem State.commitHold_lane (m : Lane) : (s.commitHold l h).lane m = if m = l then { s.lane l with hold := none, late := none } else s.lane m := by
  have hrest : (s.commitHold l h).lane m = (((s.modEntry h.slot fun e => { e with marker := none }).setHold l none).setLate l none).lane m := by
    simp only [State.commitHold]
    split <;> split <;> simp
  rw [hrest]
  by_cases hm : m = l <;> simp [hm]

theorem State.commitHold_counts : s.Counts (s.commitHold l h) ((l, .committed) :: if h.kind = .control then [(l, .staff)] else [])
    ((h.lift, .boarded) :: if h.facts.liftNewlySet then [(h.lift, .distinct)] else []) := by
  simp only [State.commitHold]
  have hstart : s.Counts (((s.modEntry h.slot fun e => { e with marker := none }).setHold l none).setLate l none) [] [] := .none (by simp)
  generalize ((s.modEntry h.slot fun e => { e with marker := none }).setHold l none).setLate l none = t at hstart ⊢
  have hcommitted : s.Counts (t.countLane l .committed) [(l, .committed)] [] := hstart.trans (t.countLane_raises l _) (by simp) (by simp)
  generalize t.countLane l .committed = t at hcommitted ⊢
  have hstaff : s.Counts (if h.kind = .control then t.countLane l .staff else t)
      ((l, .committed) :: if h.kind = .control then [(l, .staff)] else []) [] := by
    split
    · exact hcommitted.trans (t.countLane_raises l _) (by simp) (by simp)
    · exact hcommitted
  generalize (if h.kind = .control then t.countLane l .staff else t) = t at hstaff ⊢
  have hboarded : s.Counts (t.countLift h.lift .boarded) ((l, .committed) :: if h.kind = .control then [(l, .staff)] else [])
      [(h.lift, .boarded)] := by
    simpa using hstaff.trans (t.countLift_raises h.lift .boarded) (by simp) (by simp)
  generalize t.countLift h.lift .boarded = t at hboarded ⊢
  split
  · simpa using hboarded.trans (t.countLift_raises h.lift .distinct) (by simp) (by simp)
  · exact hboarded

end

section

variable (s : State) (l : Lane)

theorem State.latePassage_counts : s.Counts (s.latePassage l) [(l, .late)] [(s.liftOf l, .boarded)] := by
  have hcounts := (s.countLane_raises l .late).trans ((s.countLane l .late).countLift_raises (s.liftOf l) .boarded) (by simp) (by simp)
  exact hcounts.congr rfl (by simp [State.latePassage])

theorem State.unpairedPassage_counts : s.Counts (s.unpairedPassage l)
    [(l, if (s.lane l).state = .work .opened then .free else .tailgate)] [(s.liftOf l, .boarded)] := by
  unfold State.unpairedPassage
  split
  · have hcounts := (s.countLane_raises l .free).trans ((s.countLane l .free).countLift_raises (s.liftOf l) .boarded) (by simp) (by simp)
    exact hcounts.congr rfl (by simp)
  · have hraised : s.Counts ((s.countLane l .tailgate).raise (.tailgate l)) [(l, .tailgate)] [] :=
      (s.countLane_raises l .tailgate).congr rfl (by simp)
    have hcounts := hraised.trans (State.countLift_raises _ (s.liftOf l) .boarded) (by simp) (by simp)
    exact hcounts.congr rfl (by simp)

/-- What LATE and UNPAIRED have in common (R98, R99, R100). -/
structure State.Passes (t : State) : Prop where
  lane   : t.lane l = { s.lane l with late := none }
  others : s.SameLanesBut t l
  lift   : t.lift (s.liftOf l) = { s.lift (s.liftOf l) with level := (s.lift (s.liftOf l)).level - 60 }
  lifts  : s.SameLiftsBut t (s.liftOf l)
  slots  : t.slots = s.slots

theorem State.latePassage_passes : s.Passes l (s.latePassage l) where
  lane := by simp [State.latePassage]
  others m hm := by simp [State.latePassage, hm]
  lift := by simp [State.latePassage, State.takePace]
  lifts g hg := by simp [State.latePassage, State.takePace, hg]
  slots := by simp [State.latePassage]

theorem State.unpairedPassage_passes : s.Passes l (s.unpairedPassage l) := by
  unfold State.unpairedPassage
  split
  · exact ⟨by simp, fun m hm => by simp [hm], by simp [State.takePace], fun g hg => by simp [State.takePace, hg], by simp⟩
  · exact ⟨by simp, fun m hm => by simp [hm], by simp [State.takePace], fun g hg => by simp [State.takePace, hg], by simp⟩

/-- A tailgate sets its flag at the lane's gate port and at the office (R99, R189). -/
theorem State.unpairedPassage_tailgate (hstate : (s.lane l).state ≠ .work .opened) {p : Port} (hp : p ∈ [gateOf l, Port.office]) :
    ((s.unpairedPassage l).port p).flagged (.tailgate l) = true := by
  have hflag : (((s.countLane l .tailgate).raise (.tailgate l)).port p).flagged (.tailgate l) = true := by
    rw [State.raise_flagged, List.contains_iff_mem.2 (show p ∈ (s.countLane l .tailgate).reached (.tailgate l) from hp)]
    simp
  have hraised : ((s.countLane l .tailgate).raise (.tailgate l)).Raised (s.unpairedPassage l) := by
    rw [State.unpairedPassage, if_neg hstate]
    simp
  rw [PortRec.flagged_iff] at hflag ⊢
  exact (hraised p).kept _ hflag

/-- The late window in signed seconds (R97). -/
theorem secondsFrom_eq (a b : Instant) :
    secondsFrom a b = (b.sec : Int) - a.sec + 86400 * (if a.day < b.day then (b.day : Int) - a.day else 0) := by
  have hdays : ((b.day - a.day : Nat) : Int) = if a.day < b.day then (b.day : Int) - a.day else 0 := by split <;> omega
  rw [secondsFrom, hdays]
  rfl

theorem State.withinLateWindow_iff : s.withinLateWindow l = true
    ↔ ∃ x, (s.lane l).late = some x ∧ secondsFrom x.expired s.now ≤ (s.lane l).profile.lateWindow := by
  unfold State.withinLateWindow
  cases (s.lane l).late <;> simp

end

section

variable {s : State} {p : List Byte}

theorem State.passed_of_hold {h : Hold} (hh : (s.lane (laneArg p)).hold = some h) :
    s.passed p = (s.commitHold (laneArg p) h, [20, byteOf (laneArg p).val, 1] ++ bytesOf 4 h.pass) := by
  rw [State.passed]
  simp only [hh]
  rfl

theorem State.passed_of_late {x : LateRecord} (hh : (s.lane (laneArg p)).hold = none) (hx : (s.lane (laneArg p)).late = some x)
    (hwithin : s.withinLateWindow (laneArg p) = true) :
    s.passed p = (s.latePassage (laneArg p), [21, byteOf (laneArg p).val, 1] ++ bytesOf 4 x.pass) := by
  rw [State.passed]
  simp only [hh, hwithin, if_true, hx]
  rfl

theorem State.passed_of_unpaired (hh : (s.lane (laneArg p)).hold = none) (hwithin : s.withinLateWindow (laneArg p) = false) :
    s.passed p = (s.unpairedPassage (laneArg p), [22, byteOf (laneArg p).val, 0, 0, 0, 0, 0]) := by
  have hzero : ([0, 0, 0, 0] : List Byte) = bytesOf 4 0 := by decide
  rw [State.passed, hzero]
  simp only [hh, hwithin, Bool.false_eq_true, if_false]
  rfl

end

/-- Settles O37: the three evaluations of `State.passed` on the charged state. -/
theorem passedCommitsOrIsLateOrUnpaired : Obligations.PassedCommitsOrIsLateOrUnpaired := by
  unfold Obligations.PassedCommitsOrIsLateOrUnpaired
  refine ⟨fun s r h hgrants => ?_, fun s r hgrants => ?_⟩
  · intro l hh
    have hhold : ((s.charge (.request r)).lane l).hold = some h := by simpa using hh
    have hentry := (s.charge (.request r)).commitHold_entryAt l h
    have hlane := (s.charge (.request r)).commitHold_lane l h
    have hcounts := (s.charge (.request r)).commitHold_counts l h
    obtain ⟨hanswers, hports⟩ := State.granted_ports (bs := [20, byteOf l.val, 1] ++ bytesOf 4 h.pass)
      ((State.Raised.refl (s.charge (.request r))).commitHold l h)
      ((State.SameTransactions.refl (s.charge (.request r))).commitHold l h)
    have hexec : exec .passed s = .next (((s.charge (.request r)).commitHold l h).complete r.port r.index r.frame
        ([20, byteOf l.val, 1] ++ bytesOf 4 h.pass)) :=
      congrArg Host.Outcome.next (State.grants_answers hgrants (State.passed_of_hold hhold))
    refine ⟨_, hexec, hanswers, fun n => ?_, ?_, fun m hm => ?_,
      hcounts.congr (by simp) (by simp only [State.complete_frame]), by simp, hports⟩
    · simp only [State.complete_frame, hentry, State.charge_frame]
    · simp only [State.complete_frame, hlane, State.charge_frame, if_true]
    · simp only [State.complete_frame, hlane, State.charge_frame, if_neg hm]
  · intro l lift elapsed late hh
    let u := s.charge (.request r)
    have hlane (m : Lane) : u.lane m = s.lane m := by simp [u]
    have hlift (g : Lift) : u.lift g = s.lift g := by simp [u]
    have hliftOf : u.liftOf l = lift := by simp [u, lift]
    have hnow : u.now = s.now := by simp [u, State.now]
    have hhold : (u.lane l).hold = none := by rw [hlane]; exact hh
    have hlate : u.withinLateWindow l = true ↔ late := by
      rw [State.withinLateWindow_iff, hlane, hnow]
      exact exists_congr fun x => and_congr_right fun _ => by rw [secondsFrom_eq]; rfl
    have hdone {t : State} {bs : List Byte} (hpasses : u.Passes l t) (hraised : u.Raised t) (hsame : u.SameTransactions t) :
        (t.complete r.port r.index r.frame bs).lane l = { s.lane l with late := none }
        ∧ s.SameLanesBut (t.complete r.port r.index r.frame bs) l
        ∧ (t.complete r.port r.index r.frame bs).lift lift = { s.lift lift with level := (s.lift lift).level - 60 }
        ∧ s.SameLiftsBut (t.complete r.port r.index r.frame bs) lift ∧ (t.complete r.port r.index r.frame bs).slots = s.slots
        ∧ s.SamePorts (t.complete r.port r.index r.frame bs) := by
      obtain ⟨h1, h2, h3, h4, h5⟩ := hpasses
      rw [hlane] at h1
      rw [hliftOf, hlift] at h3
      rw [hliftOf] at h4
      refine ⟨?_, fun m hm => ?_, ?_, fun g hg => ?_, ?_, (State.granted_ports hraised hsame).2⟩
      · simp only [State.complete_frame, h1]
      · simp only [State.complete_frame, h2 m hm, hlane]
      · simp only [State.complete_frame, h3]
      · simp only [State.complete_frame, h4 g hg, hlift]
      · simp only [State.complete_frame, h5]
        simp [u]
    by_cases hwithin : u.withinLateWindow l = true
    · obtain ⟨x, hx, -⟩ := hlate.1 hwithin
      have hraised : u.Raised (u.latePassage l) := (State.Raised.refl u).latePassage l
      have hsame : u.SameTransactions (u.latePassage l) := (State.SameTransactions.refl u).latePassage l
      refine ⟨_, congrArg Host.Outcome.next (State.grants_answers hgrants (State.passed_of_late hhold ((hlane l).symm ▸ hx) hwithin)),
        fun y hy _ => ?_, fun hno => absurd (hlate.1 hwithin) hno, hdone (u.latePassage_passes l) hraised hsame⟩
      obtain rfl : x = y := Option.some.inj (hx.symm.trans hy)
      refine ⟨(State.granted_ports hraised hsame).1, ?_⟩
      have hcounts := u.latePassage_counts l
      rw [hliftOf] at hcounts
      exact hcounts.congr (by simp [u]) (by simp only [State.complete_frame]; rfl)
    · have hwithin' : u.withinLateWindow l = false := Bool.eq_false_iff.2 hwithin
      have hraised : u.Raised (u.unpairedPassage l) := (State.Raised.refl u).unpairedPassage l
      have hsame : u.SameTransactions (u.unpairedPassage l) := (State.SameTransactions.refl u).unpairedPassage l
      refine ⟨_, congrArg Host.Outcome.next (State.grants_answers hgrants (State.passed_of_unpaired hhold hwithin')),
        fun y hy hyes => absurd (hlate.2 hyes) hwithin, fun _ => ⟨(State.granted_ports hraised hsame).1, ?_, fun hstate => ?_⟩,
        hdone (u.unpairedPassage_passes l) hraised hsame⟩
      · have hcounts := u.unpairedPassage_counts l
        rw [hliftOf, hlane] at hcounts
        exact hcounts.congr (by simp [u]) (by simp only [State.complete_frame]; rfl)
      · have hflag (p : Port) (hp : p ∈ [gateOf l, Port.office]) (bs : List Byte) :
            (((u.unpairedPassage l).complete r.port r.index r.frame bs).port p).flagged (.tailgate l) = true :=
          (State.SameFlag.complete _ p).trans (u.unpairedPassage_tailgate l (by rw [hlane]; exact hstate) hp)
        exact ⟨hflag _ (by simp) _, hflag .office (by simp) _⟩

end Sys2Proof.Machine

/-! RELEASE and EXPIRY (sections 5.3 to 5.5). -/

namespace Sys2Proof.Machine

/-! ### What a rollback gives back -/

/-- The entry, the chain and the pace units of hold `h` are given back (R88, R89). -/
structure State.Returned (s t : State) (h : Hold) (e : Entry) : Prop where
  entry   : t.entryAt h.slot = some (e.undone h (s.history.undo h.facts h.lift e.chain).1)
  slots   : s.SameSlotsBut t h.slot
  history : t.history = (s.history.undo h.facts h.lift e.chain).2
  lift    : t.lift h.lift = { s.lift h.lift with level := min ((s.lift h.lift).level + 60) (60 * (s.lift h.lift).burst) }
  lifts   : s.SameLiftsBut t h.lift

section

variable {s t : State} {h : Hold} {e : Entry}

theorem State.rollback_returned (he : s.entryAt h.slot = some e) (l : Lane) : s.Returned (s.rollback l h) h e where
  entry := by rw [State.rollback_entryAt he, if_pos rfl]
  slots m hm := by rw [State.rollback_entryAt he, if_neg hm]
  history := State.rollback_history he l
  lift := by rw [State.rollback_lift, if_pos rfl]
  lifts f hf := by rw [State.rollback_lift, if_neg hf]

/-- What is given back is read in the slots, the use history and the lifts alone. -/
theorem State.Returned.congr (hr : s.Returned t h e) {s' t' : State} (hs : s'.slots = s.slots ∧ s'.history = s.history ∧ s'.lifts = s.lifts)
    (ht : t'.slots = t.slots ∧ t'.history = t.history ∧ t'.lifts = t.lifts) : s'.Returned t' h e := by
  have hentry (n : Nat) : s'.entryAt n = s.entryAt n ∧ t'.entryAt n = t.entryAt n := 
    ⟨congrArg (Table.get · n) hs.1, congrArg (Table.get · n) ht.1⟩
  have hlift (f : Lift) : s'.lift f = s.lift f ∧ t'.lift f = t.lift f := 
    ⟨congrArg (·[f]) hs.2.2, congrArg (·[f]) ht.2.2⟩
  refine ⟨?_, fun m hm => ?_, ?_, ?_, fun f hf => ?_⟩
  · rw [(hentry _).2, hs.2.1, hr.entry]
  · rw [(hentry m).2, (hentry m).1, hr.slots m hm]
  · rw [ht.2.1, hs.2.1, hr.history]
  · rw [(hlift _).2, (hlift _).1, hr.lift]
  · rw [(hlift f).2, (hlift f).1, hr.lifts f hf]

theorem State.releaseHold_of_hold {l : Lane} (hh : (s.lane l).hold = some h) : s.releaseHold l = (s.rollback l h).countLane l .released := by
  rw [State.releaseHold, hh]

theorem State.releaseHold_of_none {l : Lane} (hh : (s.lane l).hold = none) : s.releaseHold l = s := by rw [State.releaseHold, hh]

theorem State.releaseHold_returned {l : Lane} (hh : (s.lane l).hold = some h) (he : s.entryAt h.slot = some e) :
    s.Returned (s.releaseHold l) h e := by
  rw [State.releaseHold_of_hold hh]
  exact (State.rollback_returned he l).congr ⟨rfl, rfl, rfl⟩ (by simp)

theorem State.releaseHold_counts {l : Lane} (hh : (s.lane l).hold = some h) : s.Counts (s.releaseHold l) [(l, .released)] [] := by
  rw [State.releaseHold_of_hold hh]
  exact (State.countLane_raises (s.rollback l h) l .released).congr (by simp) rfl

/-! ### RELEASE and EXPIRY -/

theorem State.release_of_hold {p : List Byte} (hh : (s.lane (laneArg p)).hold = some h) :
    s.release p = (s.releaseHold (laneArg p), [23, byteOf (laneArg p).val, 1] ++ bytesOf 4 h.pass) := by
  rw [State.release]
  simp only [hh]
  rfl

theorem State.release_of_none {p : List Byte} (hh : (s.lane (laneArg p)).hold = none) :
    s.release p = (s, [24, byteOf (laneArg p).val, 0, 0, 0, 0, 0]) := by
  have hzero : ([0, 0, 0, 0] : List Byte) = bytesOf 4 0 := by decide
  rw [State.release, hzero]
  simp only [hh]
  rfl

theorem State.exec_expiry {x : Expiry} (hselect : s.select = some (.expiry x)) : exec .expiry s = .next ((s.charge (.expiry x)).expire x) := by
  have hgrantable : s.grantableExpiry = some x := by rw [State.grantableExpiry, hselect]
  simp only [exec, execExpiry, hgrantable]

/-- The state with a granted expiry that waits no longer (R95). -/
def State.unqueued (s : State) (x : Expiry) : State := s.withArbiter { s.arbiter with expiries := s.arbiter.expiries.erase x }

theorem State.expire_of_pending {x : Expiry} (hh : (s.lane x.lane).hold = some h) (hpending : h.pendingExpiry = true) :
    s.expire x = (s.unqueued x).expireHold x.lane h := by
  unfold State.expire
  dsimp only
  split
  next h' hh' =>
    obtain rfl : h' = h := Option.some.inj (hh'.symm.trans hh)
    exact if_pos hpending
  next hnone => exact absurd (hnone.symm.trans hh) (by simp)

theorem State.expire_of_ended {x : Expiry} (hno : ∀ h, (s.lane x.lane).hold = some h → h.pendingExpiry = false) :
    s.expire x = s.unqueued x := by
  unfold State.expire
  dsimp only
  split
  next h hh => exact if_neg (by rw [hno h hh]; exact Bool.noConfusion)
  next => rfl

theorem State.expireHold_returned (he : s.entryAt h.slot = some e) (l : Lane) : s.Returned (s.expireHold l h) h e :=
  (State.rollback_returned he l).congr ⟨rfl, rfl, rfl⟩ (by simp [State.expireHold])

theorem State.expireHold_counts (l : Lane) : s.Counts (s.expireHold l h) [(l, .expired)] [] :=
  (State.countLane_raises (s.rollback l h) l .expired).congr (by simp) (by simp [State.expireHold])

theorem State.expireHold_lane (l m : Lane) : (s.expireHold l h).lane m
    = if m = l then { s.lane l with hold := none, late := some { pass := h.pass, expired := s.now } } else s.lane m := by
  by_cases hm : m = l <;> simp [State.expireHold, hm]

/-- HOLD_EXPIRED is set at the lane's gate port and at the office (R95, R189). -/
theorem State.expireHold_flag (l : Lane) {p : Port} (hp : p ∈ [gateOf l, Port.office]) :
    ((s.expireHold l h).port p).flagged (.holdExpired l) = true := by
  rw [State.expireHold, State.raise_flagged]
  have hreached (u : State) : (u.reached (.holdExpired l)).contains p = true := List.contains_iff_mem.2 hp
  rw [hreached]
  simp

end

/-- Settles O38: the rollback, counted, on the charged state. -/
theorem releaseAndExpiryRollTheHoldBack : Obligations.ReleaseAndExpiryRollTheHoldBack := by
  unfold Obligations.ReleaseAndExpiryRollTheHoldBack
  refine ⟨fun s r hgrants => ?_, fun s x hselect => ⟨fun h e hh hpending he => ?_, fun hno => ?_⟩⟩
  · intro l
    let u := s.charge (.request r)
    have hlane (m : Lane) : u.lane m = s.lane m := by simp [u]
    refine ⟨fun hh => ?_, fun h e hh he => ?_⟩
    · exact congrArg Host.Outcome.next (State.grants_answers hgrants (State.release_of_none (by simpa using hh)))
    · have hhold : (u.lane l).hold = some h := by rw [hlane]; exact hh
      have hentry : u.entryAt h.slot = some e := by simpa [u] using he
      have hexec : exec .release s = .next ((u.releaseHold l).complete r.port r.index r.frame ([23, byteOf l.val, 1] ++ bytesOf 4 h.pass)) :=
        congrArg Host.Outcome.next (State.grants_answers hgrants (State.release_of_hold hhold))
      obtain ⟨hanswers, hports⟩ := State.granted_ports (bs := [23, byteOf l.val, 1] ++ bytesOf 4 h.pass)
        ((State.Raised.refl u).releaseHold l) ((State.SameTransactions.refl u).releaseHold l)
      have hreturned : s.Returned ((u.releaseHold l).complete r.port r.index r.frame ([23, byteOf l.val, 1] ++ bytesOf 4 h.pass)) h e :=
        (State.releaseHold_returned hhold hentry).congr (by simp [u]) (by simp only [State.complete_frame, and_self])
      have hcounts := (State.releaseHold_counts hhold).congr (s' := s)
        (t' := (u.releaseHold l).complete r.port r.index r.frame ([23, byteOf l.val, 1] ++ bytesOf 4 h.pass)) (by simp [u])
        (by simp only [State.complete_frame])
      refine ⟨_, hexec, hanswers, hreturned.entry, hreturned.slots, hreturned.history, ?_, fun m hm => ?_, hreturned.lift, hreturned.lifts,
        hcounts, hports⟩
      · simp only [State.complete_frame, State.releaseHold_lane, if_true, hlane]
      · simp only [State.complete_frame, State.releaseHold_lane, if_neg hm, hlane]
  · let u := (s.charge (.expiry x)).unqueued x
    have hsame : u.lanes = s.lanes ∧ u.slots = s.slots ∧ u.history = s.history ∧ u.lifts = s.lifts ∧ u.counts = s.counts ∧ u.now = s.now := by
      simp [u, State.unqueued, State.now]
    have hports (p : Port) : u.port p = s.port p := by simp [u, State.unqueued]
    obtain ⟨hlanes, hslots, hhistory, hlifts, hcounts, hnow⟩ := hsame
    have hlane (m : Lane) : u.lane m = s.lane m := congrArg (·[m]) hlanes
    have hentry : u.entryAt h.slot = some e := (congrArg (Table.get · h.slot) hslots).trans he
    have hexec : exec .expiry s = .next (u.expireHold x.lane h) := by
      rw [State.exec_expiry hselect, State.expire_of_pending (by simpa using hh) hpending]
    have hreturned : s.Returned (u.expireHold x.lane h) h e :=
      (State.expireHold_returned hentry x.lane).congr ⟨hslots.symm, hhistory.symm, hlifts.symm⟩ ⟨rfl, rfl, rfl⟩
    have hraised : u.Raised (u.expireHold x.lane h) := (State.Raised.refl u).expireHold x.lane h
    have hkept : u.SameTransactions (u.expireHold x.lane h) := (State.SameTransactions.refl u).expireHold x.lane h
    refine ⟨_, hexec, hreturned.entry, hreturned.slots, hreturned.history, ?_, fun m hm => ?_, hreturned.lift, hreturned.lifts,
      (State.expireHold_counts x.lane).congr hcounts rfl, State.expireHold_flag x.lane (by simp), State.expireHold_flag x.lane (p := .office) (by simp),
      ?_, fun p => ?_⟩
    · rw [State.expireHold_lane, if_pos rfl, hlane, hnow]
    · rw [State.expireHold_lane, if_neg hm, hlane]
    · simp [u, State.unqueued, State.charge_arbiter]
    · rw [← hports p, (hraised p).masks, (hraised p).edges, (hraised p).restarted, hkept p, (hraised p).dataOut]
      exact ⟨rfl, rfl, rfl, rfl, rfl⟩
  · rw [State.exec_expiry hselect, State.expire_of_ended (by simpa using hno)]
    rfl

end Sys2Proof.Machine

/-! READER_SUSPECT and REFUND (sections 6.7 and 8.3 to 8.6). -/

namespace Sys2Proof.Machine

/-! ### The reader monitor -/

/-- A change that is handed over is a rise, or a fall that ANY takes (R190). -/
theorem Edge.takes_of_change (m : Edge) {before after : Bool} (h : (before != after) = true) : m.takes before after = (after || m == .any) := by
  cases before <;> cases after <;> simp_all [Edge.takes]

theorem laneReached_contains (p : Port) (l : Lane) : [gateOf l, Port.office].contains p = (p == .office || p == gateOf l) := by
  rw [List.contains_cons, List.contains_cons, List.contains_nil, Bool.or_false, Bool.or_comm]

section

variable (s : State) (l : Lane) (f : LaneRec → LaneRec)

theorem State.modReader_flagged (p : Port) : ((s.modReader l f).port p).flagged (.readerSuspect l)
    = ((s.port p).flagged (.readerSuspect l) || ((p == .office || p == gateOf l) && (s.lane l).suspect != (f (s.lane l)).suspect
      && ((f (s.lane l)).suspect || (s.port p).edges.readerSuspect == .any))) := by
  have hreached : ((s.modLane l f).reached (.readerSuspect l)).contains p = (p == .office || p == gateOf l) := laneReached_contains p l
  rw [State.modReader, State.judgeLevel_flagged, hreached]
  have hport : (s.modLane l f).port p = s.port p := by simp
  rw [hport]
  refine congrArg _ ?_
  cases hchange : ((s.lane l).suspect != (f (s.lane l)).suspect) with
  | false => simp
  | true =>
    rw [Edge.takes_of_change _ hchange]
    simp [EdgeModes.of]

theorem State.modReader_onlyChanges : onlyChanges [.lanes, .gates, .office] s (s.modReader l f) := by simp [onlyChanges_iff, State.modReader]

end

/-- Settles O41: all three are `State.modReader`, which judges the condition before and after. -/
theorem readerMonitor : Obligations.ReaderMonitor := by
  unfold Obligations.ReaderMonitor
  intro s l profile p t r h
  obtain ⟨f, rfl, rfl⟩ : ∃ f : LaneRec → LaneRec, t = s.modReader l f ∧ r = f (s.lane l) := by
    rcases h with ⟨rfl, rfl⟩ | ⟨rfl, rfl⟩ | ⟨rfl, rfl⟩
    · exact ⟨_, rfl, rfl⟩
    · exact ⟨_, rfl, rfl⟩
    · exact ⟨_, rfl, rfl⟩
  exact ⟨by rw [State.modReader_lane, if_pos rfl], fun m hm => by rw [State.modReader_lane, if_neg hm], decide_eq_true_iff,
    s.modReader_flagged l f p, s.modReader_onlyChanges l f⟩

/-! ### REFUND -/

theorem quoteGiven_iff (p : List Byte) : quoteGiven p = true ↔ byteAt 4 p % 2 = 1 := by
  rw [quoteGiven, BitVec.getLsbD, Nat.testBit_zero, decide_eq_true_iff]
  rfl

theorem forceGiven_iff (p : List Byte) : forceGiven p = true ↔ byteAt 4 p / 2 % 2 = 1 := by
  rw [forceGiven, BitVec.getLsbD, Nat.testBit_eq_decide_div_mod_eq, decide_eq_true_iff]
  rfl

theorem Product.refundOk_iff (p : Product) : p.refundOk = true ↔ p.defined = true ∧ p.kind = .rider ∧ p.refundable = true := by
  simp [Product.refundOk, and_assoc]

theorem PassState.refund?_eq_none {x : PassState} (h : ∀ d a, x ≠ .refunded d a) : x.refund? = none := by
  cases x with
  | refunded d a => exact absurd rfl (h d a)
  | live q | suspended q | expired => rfl

section

variable {s : State} {p : List Byte} {n : Nat} {e : Entry}

theorem State.refund_of_unset (h : s.clock.state = .unset) : s.refund p = (s, [11, 0] ++ bytesOf 4 (passArg p)) := if_pos h

section

variable (hclock : s.clock.state = .running)
include hclock

theorem State.refund_of_unknown (h : s.findPass (passArg p) = none) : s.refund p = (s, [5, 0] ++ bytesOf 4 (passArg p)) := by
  rw [State.refund, if_neg (by simp [hclock]), h]
  rfl

variable (hfound : s.findPass (passArg p) = some (n, e))
include hfound

theorem State.refund_of_refunded {d a : Nat} (h : e.state = .refunded d a) : s.refund p =
    (s, [18, 25] ++ bytesOf 4 e.pass ++ [4] ++ [0, 0, 0, 0, 0, 0, 0, 0, 0, 0] ++ bytesOf 2 d ++ bytesOf 3 a) := by
  rw [State.refund, if_neg (by simp [hclock]), hfound]
  simp only [h]
  rfl

theorem State.refund_of_open (h : ∀ d a, e.state ≠ .refunded d a) : s.refund p =
    if (s.product e.product).refundOk = false then (s, [19, 0] ++ bytesOf 4 e.pass)
    else s.refundValued n e (s.valuation e (s.product e.product)) (quoteGiven p) (forceGiven p) := by
  rw [State.refund, if_neg (by simp [hclock]), hfound]
  dsimp only
  split
  next d a hstate => exact absurd hstate (h d a)
  next => rfl

end

section

variable (n e) (v : Valued) (force : Bool)

/-- The values of a valuation in a REFUND response (R160). -/
def Valued.bytes (v : Valued) : List Byte := bytesOf 3 v.amount ++ bytesOf 3 v.value ++ [byteOf v.days] ++ bytesOf 3 v.cap

theorem State.refundValued_of_quote (h : ∀ d a, e.state ≠ .refunded d a) : s.refundValued n e v true force =
    (s, [0, 7] ++ bytesOf 4 e.pass ++ [byteOf e.state.code] ++ v.bytes ++ [0, 0, 0, 0, 0]) := by
  have hzero : ([0, 0, 0, 0, 0] : List Byte) = bytesOf 2 0 ++ bytesOf 3 0 := by decide
  rw [State.refundValued, if_pos rfl, refundReply, PassState.refund?_eq_none h, hzero]
  simp only [Valued.bytes, List.append_assoc]
  rfl

theorem State.refundValued_of_nothing (h : ∀ d a, e.state ≠ .refunded d a) (hamount : v.amount = 0) : s.refundValued n e v false false =
    (s, [17, 3] ++ bytesOf 4 e.pass ++ [byteOf e.state.code] ++ v.bytes ++ [0, 0, 0, 0, 0]) := by
  have hzero : ([0, 0, 0, 0, 0] : List Byte) = bytesOf 2 0 ++ bytesOf 3 0 := by decide
  rw [State.refundValued, if_neg Bool.noConfusion, if_pos ⟨hamount, rfl⟩, refundReply, PassState.refund?_eq_none h, hzero]
  simp only [Valued.bytes, List.append_assoc]
  rfl

theorem State.refundValued_of_closing (h : force = true ∨ 0 < v.amount) : s.refundValued n e v false force =
    (s.putEntry n { e with state := .refunded s.clock.day v.amount },
      [0, 11] ++ bytesOf 4 e.pass ++ [4] ++ v.bytes ++ bytesOf 2 s.clock.day ++ [0, 0, 0]) := by
  have hzero : ([0, 0, 0] : List Byte) = bytesOf 3 0 := by decide
  have hdue : ¬(v.amount = 0 ∧ force = false) := by
    rintro ⟨hamount, hforce⟩
    rcases h with h | h
    · simp [h] at hforce
    · omega
  rw [State.refundValued, if_neg Bool.noConfusion, if_neg hdue, hzero]
  simp [refundReply, Valued.bytes, PassState.refund?]
  exact ⟨rfl, rfl, rfl⟩

end

end

theorem State.charge_valuation (s : State) (g : Grant) (e : Entry) (p : Product) : (s.charge g).valuation e p = s.valuation e p := rfl

/-- Settles O50: the checks of `State.refund` in order, then the table of `State.refundValued`. -/
theorem refundValuesAndCloses : Obligations.RefundValuesAndCloses := by
  unfold Obligations.RefundValuesAndCloses
  intro s r hgrants p answer g quote force
  have hanswer {t : State} {bs : List Byte} (heval : g.refund p = (t, bs)) : exec .refund s = .next (answer t bs) :=
    congrArg Host.Outcome.next (State.grants_answers hgrants heval)
  have hfind : g.findPass (passArg p) = s.findPass (passArg p) := by simp [g]
  have hclock : g.clock = s.clock := by simp [g]
  refine ⟨fun hunset => hanswer (State.refund_of_unset (by rw [hclock, hunset])),
    fun hrunning hno => hanswer (State.refund_of_unknown (by rw [hclock, hrunning]) (by rw [hfind, hno])), fun n e hrunning hfound => ?_⟩
  intro product v credit days cap amount values refundable
  have hg : g.clock.state = .running := by rw [hclock, hrunning]
  have hfound : g.findPass (passArg p) = some (n, e) := hfind.trans hfound
  refine ⟨fun d a hstate => hanswer (State.refund_of_refunded hg hfound hstate), fun hstate => ?_⟩
  have hopen := State.refund_of_open hg hfound hstate
  have hvalued : g.valuation e product = { amount := amount, value := v, days := days, cap := cap } := by
    have hcredit : credit = e.price - v := by simp only [credit]; split <;> omega
    rw [State.charge_valuation]
    simp only [amount, hcredit]
    rfl
  have hok : (g.product e.product).refundOk = true ↔ refundable := Product.refundOk_iff _
  have hpass (h : refundable) : g.refund p = g.refundValued n e { amount := amount, value := v, days := days, cap := cap } (quoteGiven p) (forceGiven p) := by
    rw [hopen, if_neg (by rw [hok.2 h]; exact Bool.noConfusion), ← hvalued]
    rfl
  refine ⟨fun hnot => ?_, fun h hquote => ?_, fun h hquote hforce hamount => ?_, fun h hquote hdue => ?_⟩
  · exact hanswer (hopen.trans (if_pos (Bool.eq_false_iff.2 (mt hok.1 hnot))))
  · refine hanswer ((hpass h).trans ?_)
    rw [(quoteGiven_iff p).2 hquote]
    exact State.refundValued_of_quote n e _ _ hstate
  · refine hanswer ((hpass h).trans ?_)
    rw [Bool.eq_false_iff.2 (mt (quoteGiven_iff p).1 hquote), Bool.eq_false_iff.2 (mt (forceGiven_iff p).1 hforce)]
    exact State.refundValued_of_nothing n e _ hstate hamount
  · rw [Bool.eq_false_iff.2 (mt (quoteGiven_iff p).1 hquote)] at hpass
    have heval := (hpass h).trans (State.refundValued_of_closing n e _ _ (hdue.imp (forceGiven_iff p).2 id))
    rw [hclock] at heval
    exact hanswer heval

end Sys2Proof.Machine

/-! Changes of lane state, and LANE_REPORT JAM and CLEAR (section 6.1). -/

namespace Sys2Proof.Machine

/-! ### A change of lane state -/

section

variable {s : State} {x : Event}

theorem State.SameFlag.judgeLevel {e : Event} {before after : Bool} (hne : x ≠ e) : s.SameFlag (s.judgeLevel e before after) x := by
  unfold State.judgeLevel
  split
  · exact .of_port fun _ => rfl
  · exact .handLevel hne

theorem State.SameFlag.noteSaturation (n : Nat) (hne : x ≠ .device .countSaturated) : s.SameFlag (s.noteSaturation n) x := by
  unfold State.noteSaturation
  split
  · exact (State.SameFlag.of_port (by simp)).trans (.raiseDevice hne)
  · exact .of_port fun _ => rfl

theorem State.SameFlag.countLane (l : Lane) (k : LaneCounter) (hne : x ≠ .device .countSaturated) : s.SameFlag (s.countLane l k) x :=
  (State.SameFlag.of_port (by simp)).trans (.noteSaturation _ hne)

theorem State.SameFlag.givePace (f : Lift) : s.SameFlag (s.givePace f) x := .of_port (by simp)

theorem State.SameFlag.releaseHold (l : Lane) (hfull : x ≠ .device .historyFull) (hsaturated : x ≠ .device .countSaturated) :
    s.SameFlag (s.releaseHold l) x := by
  unfold State.releaseHold
  split
  · exact .of_port fun _ => rfl
  next h _ =>
    refine State.SameFlag.trans ?_ (.countLane l .released hsaturated)
    rw [State.rollback]
    have hundone : s.SameFlag (s.undoGrant l h) x := .of_port (by simp)
    exact (hundone.trans (.judgeLevel hfull)).trans (.givePace _)

end

section

variable (s : State) (l : Lane) (new : LaneState) (dwell : Option Dwell)

/-- LANE_STATE after a change of lane state: a rise, or any change under ANY (R104, R190). -/
theorem State.moveLane_flagged (p : Port) : ((s.moveLane l new dwell).port p).flagged (.laneState l)
    = ((s.port p).flagged (.laneState l) || ((p == .office || p == gateOf l)
      && (s.port p).edges.laneState.takes ((s.lane l).state != .work .normal) (new != .work .normal))) := by
  have hreleased : s.SameFlag (if (s.lane l).state = .work .normal then s.releaseHold l else s) (.laneState l) := by
    split
    · exact .releaseHold l (by simp) (by simp)
    · exact .of_port fun _ => rfl
  have hraised : s.Raised (if (s.lane l).state = .work .normal then s.releaseHold l else s) := by
    split
    · exact (State.Raised.refl s).releaseHold l
    · exact .refl s
  simp only [State.moveLane]
  generalize (if (s.lane l).state = .work .normal then s.releaseHold l else s) = t at hreleased hraised ⊢
  have hport : (t.modLane l fun r => { r with state := new, dwell := dwell }).port p = t.port p := by simp
  have hreached : ((t.modLane l fun r => { r with state := new, dwell := dwell }).reached (.laneState l)).contains p
      = (p == .office || p == gateOf l) := laneReached_contains p l
  rw [State.handLevel_flagged, hport, hreached, hreleased p, (hraised p).edges, beq_self_eq_true, Bool.true_and]
  rfl

/-- Outside its lane and its flag, a change of lane state from NORMAL does what the release does. -/
theorem State.moveLane_of_normal (h : (s.lane l).state = .work .normal) :
    (s.moveLane l new dwell).slots = (s.releaseHold l).slots ∧ (s.moveLane l new dwell).history = (s.releaseHold l).history
      ∧ (s.moveLane l new dwell).lifts = (s.releaseHold l).lifts ∧ (s.moveLane l new dwell).counts = (s.releaseHold l).counts := by
  simp [State.moveLane, h]

/-- Outside its lane and its flag, another change of lane state does nothing. -/
theorem State.moveLane_of_other (h : (s.lane l).state ≠ .work .normal) :
    (s.moveLane l new dwell).slots = s.slots ∧ (s.moveLane l new dwell).history = s.history
      ∧ (s.moveLane l new dwell).lifts = s.lifts ∧ (s.moveLane l new dwell).counts = s.counts := by
  simp [State.moveLane, h]

end

/-! ### JAM and CLEAR -/

section

variable {s : State} {p : List Byte} {w : WorkState}

theorem State.laneReply_ok {l : Lane} {x : LaneState} (h : (s.lane l).state = x) : s.laneReply .ok l = [0, byteOf l.val, byteOf x.laneByte] := by
  rw [State.laneReply, h]
  rfl

theorem State.jam_of_noChange (h : (s.lane (laneArg p)).state = .work .closed ∨ ∃ w, (s.lane (laneArg p)).state = .fault w) :
    s.jam p = (s, [16, byteOf (laneArg p).val, byteOf (s.lane (laneArg p)).state.laneByte]) := by
  rw [State.jam]
  rcases h with h | ⟨w, h⟩ <;> simp only [h] <;> rw [← h] <;> rfl

theorem State.jam_of_work (h : (s.lane (laneArg p)).state = .work w) (hw : w ≠ .closed) :
    s.jam p = (s.moveLane (laneArg p) (.fault w) none, [0, byteOf (laneArg p).val, byteOf (LaneState.fault w).laneByte]) := by
  have hstate : ((s.moveLane (laneArg p) (.fault w) none).lane (laneArg p)).state = .fault w := by rw [State.moveLane_lane, if_pos rfl]
  rw [← State.laneReply_ok hstate, State.jam]
  cases w with
  | closed => exact absurd rfl hw
  | normal | opened => simp only [h]

theorem State.clearJam_of_work (h : (s.lane (laneArg p)).state = .work w) :
    s.clearJam p = (s, [16, byteOf (laneArg p).val, byteOf (s.lane (laneArg p)).state.laneByte]) := by
  rw [State.clearJam]
  simp only [h]
  rw [← h]
  rfl

theorem State.clearJam_of_fault (h : (s.lane (laneArg p)).state = .fault w) :
    s.clearJam p = (s.moveLane (laneArg p) (.work w) none, [0, byteOf (laneArg p).val, byteOf (LaneState.work w).laneByte]) := by
  have hstate : ((s.moveLane (laneArg p) (.work w) none).lane (laneArg p)).state = .work w := by rw [State.moveLane_lane, if_pos rfl]
  rw [← State.laneReply_ok hstate, State.clearJam]
  simp only [h]

end

/-- A granted request of any selection, once its evaluation on the charged state is known. -/
theorem State.grantable_answers {s u : State} {sel : Frame → Bool} {r : StoreReq} (h : s.grantable sel = some r)
    {eval : State → List Byte → State × List Byte} {bs : List Byte} (heval : eval (s.charge (.request r)) r.frame.payload = (u, bs)) :
    s.grantTo sel eval = u.complete r.port r.index r.frame bs := by
  rw [State.grantTo_of_grantable h, heval]

/-- A change of a lane from or to a state other than NORMAL sets LANE_STATE under ANY alone (R190). -/
theorem Edge.takes_away (m : Edge) (after : Bool) : m.takes true after = (m == .any) := by simp [Edge.takes]

/-- What a granted JAM or CLEAR that takes no lane from NORMAL leaves (R104). -/
theorem State.moved_of_other {s : State} {r : StoreReq} {l : Lane} (hstate : (s.lane l).state ≠ .work .normal) (new : LaneState) (bs : List Byte) :
    (((s.charge (.request r)).moveLane l new none).complete r.port r.index r.frame bs).lane l = { s.lane l with state := new, dwell := none }
      ∧ s.SameLanesBut (((s.charge (.request r)).moveLane l new none).complete r.port r.index r.frame bs) l
      ∧ s.Answers (((s.charge (.request r)).moveLane l new none).complete r.port r.index r.frame bs) r.port r.index r.frame bs
      ∧ s.SamePorts (((s.charge (.request r)).moveLane l new none).complete r.port r.index r.frame bs)
      ∧ (((s.charge (.request r)).moveLane l new none).complete r.port r.index r.frame bs).slots = s.slots
      ∧ (((s.charge (.request r)).moveLane l new none).complete r.port r.index r.frame bs).history = s.history
      ∧ (((s.charge (.request r)).moveLane l new none).complete r.port r.index r.frame bs).lifts = s.lifts
      ∧ (((s.charge (.request r)).moveLane l new none).complete r.port r.index r.frame bs).counts = s.counts
      ∧ ∀ p, ((((s.charge (.request r)).moveLane l new none).complete r.port r.index r.frame bs).port p).flagged (.laneState l)
          = ((s.port p).flagged (.laneState l) || ((p == .office || p == gateOf l) && (s.port p).edges.laneState == .any)) := by
  have hlane (m : Lane) : (s.charge (.request r)).lane m = s.lane m := by simp
  have hmoved (m : Lane) := (s.charge (.request r)).moveLane_lane l m new none
  rw [hlane] at hmoved
  obtain ⟨hslots, hhistory, hlifts, hcounts⟩ := (s.charge (.request r)).moveLane_of_other l new none (by rwa [hlane])
  obtain ⟨hanswers, hports⟩ := State.granted_ports (bs := bs) ((State.Raised.refl (s.charge (.request r))).moveLane l new none)
    ((State.SameTransactions.refl (s.charge (.request r))).moveLane l new none)
  refine ⟨?_, fun m hm => ?_, hanswers, hports, ?_, ?_, ?_, ?_, fun p => (State.SameFlag.complete _ p).trans ?_⟩
  · simp only [State.complete_frame, hmoved, if_true, if_neg hstate]
  · simp only [State.complete_frame, hmoved, if_neg hm, hlane]
  · simp only [State.complete_frame, hslots, State.charge_frame]
  · simp only [State.complete_frame, hhistory, State.charge_frame]
  · simp only [State.complete_frame, hlifts, State.charge_frame]
  · simp only [State.complete_frame, hcounts, State.charge_frame]
  · rw [State.moveLane_flagged, hlane, show ((s.lane l).state != .work .normal) = true from bne_iff_ne.2 hstate, Edge.takes_away]
    simp only [State.charge_frame]

/-- Settles O40: both are `State.moveLane` where the lane state allows it. -/
theorem laneReportJamAndClear : Obligations.LaneReportJamAndClear := by
  unfold Obligations.LaneReportJamAndClear
  intro s r l same
  have hlane (m : Lane) : (s.charge (.request r)).lane m = s.lane m := by simp
  refine ⟨fun hgrants => ?_, fun hgrants => ?_⟩
  · have hexec {t : State} {bs : List Byte} (heval : (s.charge (.request r)).jam r.frame.payload = (t, bs)) :
        exec .laneReportJam s = .next (t.complete r.port r.index r.frame bs) :=
      congrArg Host.Outcome.next (State.grantable_answers hgrants heval)
    refine ⟨fun hstate => ?_, fun hstate => ?_, fun hstate => ?_⟩
    · rw [← hlane] at hstate
      refine (hexec (State.jam_of_noChange hstate)).trans ?_
      rw [hlane]
    · let u := s.charge (.request r)
      let t := (u.moveLane l (.fault .normal) none).complete r.port r.index r.frame [0, byteOf l.val, 23]
      have hnormal : (u.lane l).state = .work .normal := by rw [hlane]; exact hstate
      have hmoved (m : Lane) : t.lane m = (u.moveLane l (.fault .normal) none).lane m := by simp only [t, State.complete_frame]
      obtain ⟨hslots, hhistory, hlifts, hcounts⟩ := u.moveLane_of_normal l (.fault .normal) none hnormal
      have hparts : t.slots = (u.releaseHold l).slots ∧ t.history = (u.releaseHold l).history ∧ t.lifts = (u.releaseHold l).lifts
          ∧ t.counts = (u.releaseHold l).counts := by
        simp only [t, State.complete_frame, hslots, hhistory, hlifts, hcounts, and_self]
      obtain ⟨hslots, hhistory, hlifts, hcounts⟩ := hparts
      have hsame : u.slots = s.slots ∧ u.history = s.history ∧ u.lifts = s.lifts ∧ u.counts = s.counts := by simp [u]
      obtain ⟨hslots', hhistory', hlifts', hcounts'⟩ := hsame
      obtain ⟨hanswers, hports⟩ := State.granted_ports (bs := [0, byteOf l.val, 23]) ((State.Raised.refl u).moveLane l (.fault .normal) none)
        ((State.SameTransactions.refl u).moveLane l (.fault .normal) none)
      have hflag (p : Port) (hp : (p == .office || p == gateOf l) = true) : (t.port p).flagged (.laneState l) = true := by
        refine (State.SameFlag.complete _ p).trans ?_
        rw [State.moveLane_flagged, hnormal, hp]
        simp [Edge.takes]
      refine ⟨t, hexec (State.jam_of_work hnormal (by simp)), ?_, fun m hm => ?_, hanswers, ?_, fun hh => ?_, fun h e hh he => ?_,
        hflag _ (by simp), hflag .office rfl, hports⟩
      · rw [hmoved, State.moveLane_lane, if_pos rfl, if_pos hnormal, hlane]
      · rw [hmoved, State.moveLane_lane, if_neg hm, hlane]
      · cases hh : (s.lane l).hold with
        | none =>
          rw [← hlane] at hh
          rw [State.releaseHold_of_none hh] at hcounts
          exact .none (hcounts.trans hcounts')
        | some h =>
          rw [← hlane] at hh
          exact (State.releaseHold_counts hh).congr hcounts' hcounts
      · rw [← hlane] at hh
        rw [State.releaseHold_of_none hh] at hslots hhistory hlifts
        exact ⟨hslots.trans hslots', hhistory.trans hhistory', hlifts.trans hlifts'⟩
      · rw [← hlane] at hh
        have hentry : u.entryAt h.slot = some e := by simpa [u] using he
        have hreturned : s.Returned t h e := (State.releaseHold_returned hh hentry).congr ⟨hslots'.symm, hhistory'.symm, hlifts'.symm⟩
          ⟨hslots, hhistory, hlifts⟩
        exact ⟨hreturned.entry, hreturned.slots, hreturned.history, hreturned.lift, hreturned.lifts⟩
    · have hnot : (s.lane l).state ≠ .work .normal := by simp [hstate]
      obtain ⟨h1, h2, h3, h4, h5, h6, h7, h8, h9⟩ := State.moved_of_other (r := r) hnot (.fault .opened) [0, byteOf l.val, 27]
      exact ⟨_, hexec (State.jam_of_work (w := .opened) (by rw [hlane]; exact hstate) (by simp)), h1, h2, h3, h5, h6, h7, h8, h4, h9⟩
  · have hexec {t : State} {bs : List Byte} (heval : (s.charge (.request r)).clearJam r.frame.payload = (t, bs)) :
        exec .laneReportClear s = .next (t.complete r.port r.index r.frame bs) :=
      congrArg Host.Outcome.next (State.grantable_answers hgrants heval)
    refine ⟨fun ⟨w, hstate⟩ => ?_, fun w hstate => ?_⟩
    · rw [← hlane] at hstate
      refine (hexec (State.clearJam_of_work hstate)).trans ?_
      rw [hlane]
    · have hnot : (s.lane l).state ≠ .work .normal := by simp [hstate]
      obtain ⟨h1, h2, h3, h4, h5, h6, h7, h8, h9⟩ := State.moved_of_other (r := r) hnot (.work w) [0, byteOf l.val, byteOf w.code]
      exact ⟨_, hexec (State.clearJam_of_fault (by rw [hlane]; exact hstate)), h1, h2, h3, h4, h5, h6, h7, h8, h9⟩

end Sys2Proof.Machine

/-! The evaluation of a PRESENT, verdict by verdict (R55), and what a PRESENT that is neither admitted nor toggled leaves. -/

namespace Sys2Proof.Machine

variable {s t : State} {l : Lane} {c : Card} {n : Nat} {e : Entry} {image : Image}

/-! ### What the verdicts say -/

theorem State.charge_verdict (s : State) (g : Grant) (l : Lane) (image : Image) : (s.charge g).verdict l image = s.verdict l image := by
  cases image <;> simp [State.verdict, State.checks, State.presented, State.onFound]

theorem State.charge_presented (s : State) (g : Grant) (image : Image) : (s.charge g).presented image = s.presented image := by
  cases image <;> simp [State.presented]

/-- A PRESENT is answered at a lane that reads no card, at an image that cannot be read, at a card without an entry of the resort, or
on its entry. -/
theorem State.present_ways (s : State) (l : Lane) (image : Image) :
    (s.verdict l image ∈ [Code.clockUnset, .laneClosed, .laneFault]
        ∧ s.present l image = (s.countLane l .refused, presentNoEntry (s.verdict l image) l 0))
    ∨ (∃ x, image = .bad x ∧ s.verdict l image = .unreadable ∧ s.present l image = s.presentUnreadable l x)
    ∨ (∃ c, image = .card c ∧ (s.verdict l image = .foreign ∨ (s.verdict l image = .unknown ∧ s.presented image = none))
        ∧ s.present l image
          = (((s.clearRun l).endOtherDwell l c.pass).countLane l .refused, presentNoEntry (s.verdict l image) l 0))
    ∨ ∃ c n e, image = .card c ∧ s.presented image = some (n, e) ∧ e.pass = c.pass ∧ s.entryAt n = some e
        ∧ ((s.lane l).state = .work .normal ∨ (s.lane l).state = .work .opened)
        ∧ s.verdict l image = s.judgeEntry l c e ∧ s.present l image = (s.clearRun l).presentFound (s.verdict l image) l n e := by
  rcases s.present_cases l image with ⟨-, hv, h⟩ | ⟨-, -, hv, h⟩ | ⟨-, -, hv, h⟩ | ⟨-, hlane, h⟩
  · exact .inl ⟨by simp [hv], by rw [hv, h]⟩
  · exact .inl ⟨by simp [hv], by rw [hv, h]⟩
  · exact .inl ⟨by simp [hv], by rw [hv, h]⟩
  · rcases h with ⟨x, himage, hv, h⟩ | ⟨c, rfl, ⟨hv, -, h⟩ | ⟨hv, -, hfind, h⟩ | ⟨n, e, -, hfind, hv, h⟩⟩
    · exact .inr (.inl ⟨x, himage, hv, h⟩)
    · exact .inr (.inr (.inl ⟨c, rfl, .inl hv, by rw [hv, h]⟩))
    · exact .inr (.inr (.inl ⟨c, rfl, .inr ⟨hv, hfind⟩, by rw [hv, h]⟩))
    · obtain ⟨hentry, hpass⟩ := State.findPass_pass hfind
      exact .inr (.inr (.inr ⟨c, n, e, rfl, hfind, hpass, hentry, hlane, hv, h⟩))

/-- CONTROL: a CONTROL pass at an OPEN lane. -/
theorem State.judgeEntry_of_control (h : s.judgeEntry l c e = .control) :
    (s.lane l).state = .work .opened ∧ (s.product e.product).kind = .control := by
  have hgrant := s.judgeGrant_cases l e
  unfold State.judgeEntry at h
  cases hmarker : e.marker <;> rw [hmarker] at h <;> dsimp only at h <;> split_ifs at h with h1 h2 h3 h4 h5 h6
  · exact ⟨h4, h5⟩
  · simp [h] at hgrant
  · exact ⟨h4, h5⟩

/-- HELD: the pass carries the marker of the lane, which is not OPEN. -/
theorem State.judgeEntry_of_held (h : s.judgeEntry l c e = .held) : (s.lane l).state ≠ .work .opened ∧ e.marker = some l := by
  have hgrant := s.judgeGrant_cases l e
  unfold State.judgeEntry at h
  cases hmarker : e.marker <;> rw [hmarker] at h <;> dsimp only at h <;> split_ifs at h with h1 h2 h3 h4 h5 h6
  · simp [h] at hgrant
  · exact ⟨h4, by rw [h6]⟩

/-! ### The evaluation of an entry that was found -/

theorem State.presentFound_of_admitted {q : LiveState} (h : e.state = .live q) : s.presentFound .admitted l n e = s.presentAdmit l n e q := by
  simp [State.presentFound, h]

theorem State.presentFound_of_control : s.presentFound .control l n e = s.presentTracked .control l n e.pass := by
  simp [State.presentFound]

theorem State.presentFound_of_laneBusy : s.presentFound .laneBusy l n e =
    (((s.setDwell l none).countLane l .refused), ((s.setDwell l none).countLane l .refused).presentEntry .laneBusy l n false) := by
  simp [State.presentFound]

theorem State.presentFound_of_held_control (h : (s.product e.product).kind = .control) :
    s.presentFound .held l n e = s.presentTracked .held l n e.pass := by
  simp [State.presentFound, h]

/-- Every other verdict ends the dwell of another pass and is counted (R78, R82). -/
theorem State.presentFound_of_other {v : Code} (h : v ∉ [Code.admitted, .control, .laneBusy])
    (hheld : v = .held → (s.product e.product).kind ≠ .control) :
    s.presentFound v l n e = ((s.endOtherDwell l e.pass).countVerdict v l,
      ((s.endOtherDwell l e.pass).countVerdict v l).presentEntry v l n false) := by
  cases v <;> simp_all [State.presentFound, State.countVerdict]

theorem State.track_of_not {pass : Nat} (h : s.toggling l pass = false) :
    s.track l pass = (s.setDwell l (some (trackedDwell (s.lane l).dwell pass s.now)), false) := by
  have h : toggles (trackedDwell (s.lane l).dwell pass s.now) s.now (s.lane l).profile = false := h
  rw [State.track, h]
  rfl

theorem State.track_of_toggling {pass : Nat} (h : s.toggling l pass = true) :
    s.track l pass = (s.moveLane l (s.lane l).state.toggled
      (some { trackedDwell (s.lane l).dwell pass s.now with spent := true }), true) := by
  have h : toggles (trackedDwell (s.lane l).dwell pass s.now) s.now (s.lane l).profile = true := h
  rw [State.track, h]
  rfl

theorem State.clearRun_toggling (s : State) (l : Lane) (pass : Nat) : (s.clearRun l).toggling l pass = s.toggling l pass := by
  simp [State.toggling, State.now]

theorem State.charge_toggling (s : State) (g : Grant) (l : Lane) (pass : Nat) : (s.charge g).toggling l pass = s.toggling l pass := by
  simp [State.toggling, State.now]

theorem State.charge_tracked (s : State) (g : Grant) (v : Code) (e : Entry) : (s.charge g).tracked v e = s.tracked v e := by
  simp [State.tracked]

theorem State.tracked_iff {v : Code} :
    s.tracked v e = true ↔ (s.product e.product).kind = .control ∧ (v = .admitted ∨ v = .held ∨ v = .control) := by
  simp [State.tracked, or_assoc]

/-! ### A PRESENT neither admitted nor toggled -/

/-- From `s` to `t` nothing of the pass, the use history, a hold or a pace level changes: lane `l` becomes `r`, and the counters
listed rise by 1. -/
structure State.Refuses (s t : State) (l : Lane) (r : LaneRec) (ls : List (Lane × LaneCounter)) (fs : List (Lift × LiftCounter)) : Prop where
  lane : t.lane l = r
  lanes : s.SameLanesBut t l
  slots : t.slots = s.slots
  history : t.history = s.history
  lifts : t.lifts = s.lifts
  counts : s.Counts t ls fs

namespace State.Refuses

variable {r : LaneRec} {ls : List (Lane × LaneCounter)} {fs : List (Lift × LiftCounter)}

theorem refl (s : State) (l : Lane) : s.Refuses s l (s.lane l) [] [] := ⟨rfl, fun _ _ => rfl, rfl, rfl, rfl, .none rfl⟩

theorem raiseRun (s : State) (l : Lane) : s.Refuses (s.raiseRun l) l { s.lane l with unreadRun := bump 255 (s.lane l).unreadRun } [] [] :=
  ⟨by simp, fun m hm => by simp [hm], by simp, by simp, by simp, .none (by simp)⟩

theorem clearRun (s : State) (l : Lane) : s.Refuses (s.clearRun l) l { s.lane l with unreadRun := 0 } [] [] :=
  ⟨by simp, fun m hm => by simp [hm], by simp, by simp, by simp, .none (by simp)⟩

theorem setDwell (h : s.Refuses t l r ls fs) (d : Option Dwell) : s.Refuses (t.setDwell l d) l { r with dwell := d } ls fs :=
  ⟨by simp [h.lane], fun m hm => by simp [hm, h.lanes m hm], by simp [h.slots], by simp [h.history], by simp [h.lifts],
    h.counts.congr rfl (by simp)⟩

theorem endOtherDwell (h : s.Refuses t l r ls fs) (pass : Nat) :
    s.Refuses (t.endOtherDwell l pass) l { r with dwell := r.dwell.filter fun d => d.pass == pass } ls fs :=
  ⟨by simp [State.endOtherDwell_lane, h.lane], fun m hm => by simp [State.endOtherDwell_lane, hm, h.lanes m hm], by simp [h.slots],
    by simp [h.history], by simp [h.lifts], h.counts.congr rfl (by simp)⟩

theorem countLane (h : s.Refuses t l r ls fs) (k : LaneCounter) (hk : (l, k) ∉ ls) :
    s.Refuses (t.countLane l k) l r (ls ++ [(l, k)]) fs := by
  have hcounts := h.counts.trans (t.countLane_raises l k) (fun x hx hx' => hk (List.mem_singleton.1 hx' ▸ hx)) (fun _ _ => List.not_mem_nil)
  rw [List.append_nil] at hcounts
  exact ⟨by simp [h.lane], fun m hm => by simp [h.lanes m hm], by simp [h.slots], by simp [h.history], by simp [h.lifts], hcounts⟩

theorem countLift (h : s.Refuses t l r ls []) (f : Lift) (k : LiftCounter) : s.Refuses (t.countLift f k) l r ls [(f, k)] := by
  have hcounts := h.counts.trans (t.countLift_raises f k) (fun _ _ => List.not_mem_nil) (fun _ hx => absurd hx List.not_mem_nil)
  rw [List.append_nil] at hcounts
  exact ⟨by simp [h.lane], fun m hm => by simp [h.lanes m hm], by simp [h.slots], by simp [h.history], by simp [h.lifts], hcounts⟩

/-- The grant of the request and its completion touch none of these parts. -/
theorem granted {g : Grant} (h : (s.charge g).Refuses t l r ls fs) (p : Port) (i : Nat) (f : Frame) (bs : List Byte) :
    s.Refuses (t.complete p i f bs) l r ls fs :=
  ⟨by simp [h.lane], fun m hm => by simp [h.lanes m hm], by simp [h.slots], by simp [h.history], by simp [h.lifts],
    h.counts.congr (by simp) (by simp)⟩

end State.Refuses

end Sys2Proof.Machine

/-! A PRESENT that is neither admitted nor toggled (R56 to R73, R78, R82, R122). -/

namespace Sys2Proof.Machine

variable {s t : State} {l : Lane} {n : Nat} {e : Entry} {image : Image}

/-- What a verdict adds to the counters of the lane, where it is neither ADMIT nor TOGGLED (R82). -/
def Code.laneCounts (v : Code) (l : Lane) : List (Lane × LaneCounter) :=
  match v with
  | .unreadable => [(l, .refused), (l, .unreadable)]
  | .pace => [(l, .pace)]
  | .held | .free | .control => []
  | _ => [(l, .refused)]

/-- What a verdict adds to the counters of the lane's lift (R82). -/
def Code.liftCounts (v : Code) (f : Lift) : List (Lift × LiftCounter) := if v = .pace then [(f, .pace)] else []

theorem State.Refuses.countVerdict {r : LaneRec} (h : s.Refuses t l r [] []) {v : Code} (hv : v ≠ .unreadable) :
    s.Refuses (t.countVerdict v l) l r (v.laneCounts l) (v.liftCounts (t.liftOf l)) := by
  have hrefused := h.countLane .refused List.not_mem_nil
  cases v
  case unreadable => exact absurd rfl hv
  case held => exact h
  case free => exact h
  case control => exact h
  case pace =>
    have hcounted := (h.countLane .pace List.not_mem_nil).countLift (t.liftOf l) .pace
    simpa [State.countVerdict, Code.laneCounts, Code.liftCounts] using hcounted
  all_goals exact hrefused

theorem State.Refuses.presentTracked {v : Code} {r : LaneRec} {ls : List (Lane × LaneCounter)} {fs : List (Lift × LiftCounter)} {pass : Nat}
    (h : s.Refuses t l r ls fs) (htoggling : t.toggling l pass = false) :
    s.Refuses (t.presentTracked v l n pass).1 l { r with dwell := some (trackedDwell r.dwell pass t.now) } ls fs := by
  have hdwell := h.setDwell (some (trackedDwell r.dwell pass t.now))
  rw [← h.lane] at hdwell ⊢
  rw [State.presentTracked, State.track_of_not htoggling]
  exact hdwell

/-- A lane after a card has been read there, neither admitted nor toggled (R59, R66, R78). -/
def State.readLane (s : State) (l : Lane) (v : Code) (pass : Nat) (tracked : Bool) : LaneRec :=
  { s.lane l with
    unreadRun := 0
    dwell :=
      if tracked then some (trackedDwell (s.lane l).dwell pass s.now)
      else if v = .laneBusy then none else (s.lane l).dwell.filter fun d => d.pass == pass }

theorem State.readLane_of_tracked (v : Code) (pass : Nat) :
    s.readLane l v pass true = { s.lane l with unreadRun := 0, dwell := some (trackedDwell (s.lane l).dwell pass s.now) } := rfl

theorem State.readLane_of_other {v : Code} (h : v ≠ .laneBusy) (pass : Nat) :
    s.readLane l v pass false = { s.lane l with unreadRun := 0, dwell := (s.lane l).dwell.filter fun d => d.pass == pass } := by
  simp [State.readLane, h]

/-- The evaluation of the entry that a card finds, when it neither opens a hold nor toggles the lane (R62 to R73). -/
theorem State.presentFound_refuses {v : Code} (hlate : v ∉ [Code.clockUnset, .laneClosed, .laneFault, .unreadable, .foreign, .unknown])
    (hnot : v ≠ .admitted) (hcontrol : v = .control → (s.product e.product).kind = .control)
    (htoggling : (s.tracked v e && s.toggling l e.pass) = false) :
    s.Refuses ((s.clearRun l).presentFound v l n e).1 l (s.readLane l v e.pass (s.tracked v e)) (v.laneCounts l)
      (v.liftCounts (s.liftOf l)) := by
  have hclear := State.Refuses.clearRun s l
  have hend := hclear.endOtherDwell e.pass
  have hkind : ((s.clearRun l).product e.product).kind = (s.product e.product).kind := by simp
  cases htracked : s.tracked v e with
  | true =>
    obtain ⟨hiscontrol, hcases⟩ := State.tracked_iff.1 htracked
    have hquiet : (s.clearRun l).toggling l e.pass = false := by
      rw [State.clearRun_toggling]
      simpa [htracked] using htoggling
    have hnow : (s.clearRun l).now = s.now := by simp [State.now]
    have htrack (v : Code) := hclear.presentTracked (v := v) (n := n) hquiet
    rw [State.readLane_of_tracked, ← hnow]
    rcases hcases with rfl | rfl | rfl
    · exact absurd rfl hnot
    · rw [State.presentFound_of_held_control (hkind.trans hiscontrol)]
      exact htrack .held
    · rw [State.presentFound_of_control]
      exact htrack .control
  | false =>
    have hnotcontrol : v ≠ .control := fun h => by simp [State.tracked, hcontrol h, h] at htracked
    by_cases hbusy : v = .laneBusy
    · rw [hbusy, State.presentFound_of_laneBusy]
      exact (hclear.setDwell none).countLane .refused List.not_mem_nil
    · have hcounted := hend.countVerdict (v := v) (by simp_all)
      have hlift : ((s.clearRun l).endOtherDwell l e.pass).liftOf l = s.liftOf l := by simp
      rw [State.readLane_of_other hbusy, State.presentFound_of_other (by simp [hnot, hnotcontrol, hbusy])
        (fun hheld hiscontrol => by simp [State.tracked, hheld, hkind.symm.trans hiscontrol] at htracked), ← hlift]
      exact hcounted

theorem State.presented_eq_some (h : s.presented image = some (n, e)) :
    ∃ c, image = .card c ∧ e.pass = c.pass ∧ s.entryAt n = some e := by
  cases image with
  | bad x => simp [State.presented] at h
  | card c => exact ⟨c, rfl, (State.findPass_pass h).2, (State.findPass_pass h).1⟩

theorem State.present_refuses (hnot : s.verdict l image ≠ .admitted)
    (htoggling : ∀ n e, s.presented image = some (n, e) → (s.tracked (s.verdict l image) e && s.toggling l e.pass) = false) :
    ∃ r, s.Refuses (s.present l image).1 l r ((s.verdict l image).laneCounts l) ((s.verdict l image).liftCounts (s.liftOf l))
      ∧ (s.verdict l image ∈ [Code.clockUnset, .laneClosed, .laneFault] → r = s.lane l)
      ∧ (s.verdict l image = .unreadable → r = { s.lane l with unreadRun := bump 255 (s.lane l).unreadRun })
      ∧ ∀ c, image = .card c → s.verdict l image ∉ [Code.clockUnset, .laneClosed, .laneFault] →
        r = s.readLane l (s.verdict l image) c.pass ((s.presented image).any fun x => s.tracked (s.verdict l image) x.2) := by
  rcases s.present_ways l image with ⟨hv, h⟩ | ⟨x, rfl, hv, h⟩ | ⟨c, rfl, hv, h⟩ | ⟨c, n, e, rfl, hfound, hpass, -, -, hv, h⟩
  · have hcounted := (State.Refuses.refl s l).countLane .refused List.not_mem_nil
    rw [h]
    dsimp only
    generalize s.verdict l image = v at hv
    have hcounts : v.laneCounts l = [(l, .refused)] ∧ v.liftCounts (s.liftOf l) = [] ∧ v ≠ .unreadable := by
      cases v <;> simp [Code.laneCounts, Code.liftCounts] at hv ⊢
    rw [hcounts.1, hcounts.2.1]
    exact ⟨_, hcounted, fun _ => rfl, fun hunread => absurd hunread hcounts.2.2, fun _ _ hnot => absurd hv hnot⟩
  · have hcounted := ((State.Refuses.raiseRun s l).countLane .refused List.not_mem_nil).countLane .unreadable (by simp)
    rw [h, hv, State.presentUnreadable]
    dsimp only
    exact ⟨_, hcounted, fun hearly => by simp at hearly, fun _ => rfl, fun _ hc => by simp at hc⟩
  · have hcounted := ((State.Refuses.clearRun s l).endOtherDwell c.pass).countLane .refused List.not_mem_nil
    have hread : s.verdict l (.card c) ∉ [Code.clockUnset, .laneClosed, .laneFault, .unreadable, .laneBusy] := by
      rcases hv with hv | ⟨hv, -⟩ <;> simp [hv]
    have hcounts : (s.verdict l (.card c)).laneCounts l = [(l, .refused)] ∧ (s.verdict l (.card c)).liftCounts (s.liftOf l) = [] := by
      rcases hv with hv | ⟨hv, -⟩ <;> simp [hv, Code.laneCounts, Code.liftCounts]
    have huntracked : (s.presented (.card c)).any (fun x => s.tracked (s.verdict l (.card c)) x.2) = false := by
      rcases hv with hv | ⟨-, hnone⟩
      · cases s.presented (.card c) <;> simp [hv, State.tracked]
      · rw [hnone]
        rfl
    rw [h, huntracked, hcounts.1, hcounts.2]
    generalize s.verdict l (.card c) = v at hread
    refine ⟨_, hcounted, fun hearly => by simp_all, fun hunread => by simp_all, fun c' hc _ => ?_⟩
    cases hc
    rw [State.readLane_of_other (by simp_all)]
  · have hlate := s.judgeEntry_late l c e
    have hcontrol (h : s.judgeEntry l c e = .control) := (State.judgeEntry_of_control h).2
    specialize htoggling n e hfound
    rw [← hv] at hlate hcontrol
    rw [h, hfound]
    generalize s.verdict l (.card c) = v at hlate hcontrol hnot htoggling
    refine ⟨_, State.presentFound_refuses hlate hnot hcontrol htoggling, fun hearly => by simp_all, fun hunread => by simp_all,
      fun c' hc _ => ?_⟩
    cases hc
    rw [hpass]
    rfl

/-- Settles O34: the verdict decides the counters, and whether the presentation is tracked the dwell. -/
theorem refusedPresentTouchesOnlyItsLane : Obligations.RefusedPresentTouchesOnlyItsLane := by
  unfold Obligations.RefusedPresentTouchesOnlyItsLane
  intro s r hgrants l image v ended hnot htoggling
  let u := s.charge (.request r)
  have hv : u.verdict l image = v := State.charge_verdict ..
  have hpresented : u.presented image = s.presented image := State.charge_presented ..
  have hread (v : Code) (pass : Nat) (tracked : Bool) : u.readLane l v pass tracked = s.readLane l v pass tracked := by
    simp [State.readLane, u, State.now]
  have hsame : u.liftOf l = s.liftOf l ∧ u.lane l = s.lane l := by simp [u]
  have htracked (e : Entry) : u.tracked v e = s.tracked v e := State.charge_tracked ..
  obtain ⟨rec, hrefuses, hunheard, hunread, hcard⟩ := u.present_refuses (l := l) (image := image) (hv ▸ hnot) (fun n e hfound => by
    rw [hv, htracked, State.charge_toggling]
    exact htoggling n e (hpresented ▸ hfound))
  simp only [hv, hread, hsame.1, hsame.2, hpresented, htracked] at hrefuses hunheard hunread hcard
  obtain ⟨hrec, hlanes, hslots, hhistory, hlifts, hcounts⟩ :=
    hrefuses.granted r.port r.index r.frame (u.present l image).2
  have hexec : exec .present s = .next ((u.present l image).1.complete r.port r.index r.frame (u.present l image).2) :=
    congrArg Host.Outcome.next (State.grants_answers hgrants rfl)
  refine ⟨_, hexec, hcounts, hlanes, hslots, hhistory, hlifts, fun hearly => hrec.trans (hunheard hearly),
    fun h => hrec.trans (hunread h), fun c hc hearly huntracked => ?_, fun n e hfound h => ?_,
    (State.granted_ports ((State.Raised.refl u).present l image) ((State.SameTransactions.refl u).present l image)).2⟩
  · have hnone : (s.presented image).any (fun x => s.tracked v x.2) = false := by
      cases hfound : s.presented image with
      | none => rfl
      | some x => exact huntracked x.1 x.2 hfound
    rw [hrec, hcard c hc hearly, hnone]
    rfl
  · obtain ⟨c, himage, hpass, -⟩ := State.presented_eq_some hfound
    have hearly : v ∉ [Code.clockUnset, .laneClosed, .laneFault] := by
      obtain ⟨-, hcases⟩ := State.tracked_iff.1 h
      rcases hcases with h | h | h <;> simp [h]
    rw [hrec, hcard c himage hearly, hfound, hpass]
    simp only [Option.any_some, h]
    exact s.readLane_of_tracked ..

end Sys2Proof.Machine

/-! The grant of an admission, and an admission that is not toggled (R33, R74 to R78, R83, R84). -/

namespace Sys2Proof.Machine

variable {s t : State} {l : Lane} {c : Card} {n : Nat} {e : Entry} {q : LiveState} {image : Image} {f : Lift}

/-! ### The history part of a grant -/

theorem State.grantHistory_of_control (h : (s.product e.product).kind = .control) (f : Lift) :
    s.grantHistory e f = { history := s.history, entry := e, facts := .none } := if_pos h

theorem State.grantHistory_of_rider (h : (s.product e.product).kind = .rider) (f : Lift) :
    s.grantHistory e f = if e.lastUse = some s.clock.day then s.history.update e s.clock.day f
      else s.history.debit e
        { day := s.clock.day, cls := s.calendar.classOf s.clock.day, first := s.clock.sec, admits := 1, lifts := liftBit f } := by
  have h : (s.product e.product).kind ≠ .control := by simp [h]
  exact if_neg h

theorem History.debit_made (h : History) (e : Entry) (r : UseRecord) :
    (h.debit e r).facts.debitMade = true ∧ (h.debit e r).entry.used = e.used + 1 ∧ (h.debit e r).entry.bought = e.bought := by
  unfold History.debit
  dsimp only
  split <;> exact ⟨rfl, rfl, rfl⟩

/-- A debit is made for a RIDER pass not used today, and for no other (R33, R76, R77). -/
theorem State.grantHistory_made_iff : (s.grantHistory e f).facts.debitMade = true
    ↔ (s.product e.product).kind = .rider ∧ e.lastUse ≠ some s.clock.day := by
  refine ⟨State.grantHistory_debitMade, fun ⟨hrider, hday⟩ => ?_⟩
  rw [State.grantHistory_of_rider hrider, if_neg hday]
  exact (History.debit_made ..).1

/-- The grant is the work of the clock, the calendar, the products, the history, the scheme and the lane's profile. -/
theorem State.charge_grantHistory (s : State) (g : Grant) (e : Entry) (f : Lift) : (s.charge g).grantHistory e f = s.grantHistory e f := by
  simp [State.grantHistory]

theorem State.charge_granted (s : State) (g : Grant) (l : Lane) (e : Entry) (q : LiveState) : (s.charge g).granted l e q = s.granted l e q := by
  simp [State.granted, State.charge_grantHistory]

theorem State.charge_opensHold (s : State) (g : Grant) (l : Lane) (n : Nat) (e : Entry) (q : LiveState) :
    (s.charge g).opensHold l n e q = { s.opensHold l n e q with order := s.arbiter.nextGrant + 1 } := by
  simp [State.opensHold, State.charge_grantHistory, State.now, State.charge_arbiter]

theorem State.clearRun_grantHistory (s : State) (l : Lane) (e : Entry) (f : Lift) : (s.clearRun l).grantHistory e f = s.grantHistory e f := by
  simp [State.grantHistory]

theorem State.clearRun_granted (s : State) (l : Lane) (e : Entry) (q : LiveState) : (s.clearRun l).granted l e q = s.granted l e q := by
  simp [State.granted, State.clearRun_grantHistory]

theorem State.clearRun_opensHold (s : State) (l : Lane) (n : Nat) (e : Entry) (q : LiveState) :
    (s.clearRun l).opensHold l n e q = s.opensHold l n e q := by
  simp [State.opensHold, State.clearRun_grantHistory, State.now]

theorem State.takePace_lift (s : State) (f g : Lift) :
    (s.takePace f).lift g = if g = f then { s.lift f with level := (s.lift f).level - Config.riderUnits } else s.lift g := by
  simp [State.takePace]

theorem State.grant_lift (s : State) (l : Lane) (n : Nat) (e : Entry) (q : LiveState) (g : Lift) : (s.grant l n e q).lift g
    = if g = s.liftOf l then { s.lift (s.liftOf l) with level := (s.lift (s.liftOf l)).level - 60 } else s.lift g := by
  rw [State.grant_eq, State.takePace_lift]
  simp [Config.riderUnits]

/-! ### The state after the grant, before the dwell of its lane is tracked -/

/-- A lane read a card and granted its pass: what is so from `s` to `t`, whatever becomes of the dwell (R74 to R77, R83, R84). -/
structure State.Opens (s t : State) (l : Lane) (n : Nat) (e : Entry) (q : LiveState) (dwell : Option Dwell)
    (order : Nat) : Prop where
  entry : t.entryAt n = some (s.granted l e q)
  slots : s.SameSlotsBut t n
  history : t.history = (s.grantHistory e (s.liftOf l)).history
  lane : t.lane l = { s.lane l with unreadRun := 0, dwell := dwell, hold := some { s.opensHold l n e q with order := order } }
  lanes : s.SameLanesBut t l
  lift : t.lift (s.liftOf l) = { s.lift (s.liftOf l) with level := (s.lift (s.liftOf l)).level - 60 }
  lifts : s.SameLiftsBut t (s.liftOf l)
  counts : s.Counts t [(l, .granted)] []

/-- The state after the grant of an admission, counted, at a lane that has read a card (R59, R74, R82). -/
def State.admission (s : State) (l : Lane) (n : Nat) (e : Entry) (q : LiveState) : State :=
  ((s.clearRun l).grant l n e q).countLane l .granted

theorem State.admission_opens (s : State) (l : Lane) (n : Nat) (e : Entry) (q : LiveState) :
    s.Opens (s.admission l n e q) l n e q (s.lane l).dwell s.arbiter.nextGrant where
  entry := by simp [State.admission, State.clearRun_granted]
  slots m hm := by simp [State.admission, hm]
  history := by simp [State.admission, State.clearRun_grantHistory]
  lane := by
    change _ = { s.lane l with unreadRun := 0, dwell := (s.lane l).dwell, hold := some (s.opensHold l n e q) }
    simp [State.admission, State.clearRun_opensHold]
  lanes m hm := by simp [State.admission, hm]
  lift := by simp [State.admission, State.grant_lift]
  lifts g hg := by simp [State.admission, State.grant_lift, hg]
  counts := (((s.clearRun l).grant l n e q).countLane_raises l .granted).congr (by simp) rfl

theorem State.Opens.setDwell {d : Option Dwell} {k : Nat} (h : s.Opens t l n e q d k) (d' : Option Dwell) :
    s.Opens (t.setDwell l d') l n e q d' k where
  entry := by simp [h.entry]
  slots m hm := by simp [h.slots m hm]
  history := by simp [h.history]
  lane := by simp [h.lane]
  lanes m hm := by simp [hm, h.lanes m hm]
  lift := by simp [h.lift]
  lifts g hg := by simp [h.lifts g hg]
  counts := h.counts.congr rfl (by simp)

theorem State.Opens.endOtherDwell {d : Option Dwell} {k : Nat} (h : s.Opens t l n e q d k) (pass : Nat) :
    s.Opens (t.endOtherDwell l pass) l n e q (d.filter fun x => x.pass == pass) k where
  entry := by simp [h.entry]
  slots m hm := by simp [h.slots m hm]
  history := by simp [h.history]
  lane := by simp [State.endOtherDwell_lane, h.lane]
  lanes m hm := by simp [State.endOtherDwell_lane, hm, h.lanes m hm]
  lift := by simp [h.lift]
  lifts g hg := by simp [h.lifts g hg]
  counts := h.counts.congr rfl (by simp)

theorem State.admission_toggling (s : State) (l : Lane) (n : Nat) (e : Entry) (q : LiveState) (pass : Nat) :
    (s.admission l n e q).toggling l pass = s.toggling l pass := by
  simp [State.admission, State.toggling, State.now]

theorem State.presentAdmit_of_rider (h : (s.product e.product).kind = .rider) : (s.clearRun l).presentAdmit l n e q
    = ((s.admission l n e q).endOtherDwell l e.pass, ((s.admission l n e q).endOtherDwell l e.pass).presentEntry .admitted l n
        (s.grantHistory e (s.liftOf l)).facts.debitMade) := by
  simp [State.presentAdmit, State.admission, State.clearRun_grantHistory, h]

theorem State.presentAdmit_of_control (h : (s.product e.product).kind = .control) :
    (s.clearRun l).presentAdmit l n e q = (s.admission l n e q).presentTracked .admitted l n e.pass := by
  have h : ((s.clearRun l).product e.product).kind = .control := by simp [h]
  simp only [State.presentAdmit, if_pos h, State.admission]

/-- The grant of the request raises the number of the next grant, and its completion touches none of these parts. -/
theorem State.Opens.granted {g : Grant} {d : Option Dwell} {k : Nat} (h : (s.charge g).Opens t l n e q d k) (p : Port) (i : Nat)
    (fr : Frame) (bs : List Byte) : s.Opens (t.complete p i fr bs) l n e q d k where
  entry := by simp [h.entry, State.charge_granted]
  slots m hm := by simp [h.slots m hm]
  history := by simp [h.history, State.charge_grantHistory]
  lane := by simp [h.lane, State.charge_opensHold]
  lanes m hm := by simp [h.lanes m hm]
  lift := by
    have hlift := h.lift
    simp only [State.charge_frame] at hlift
    simp [hlift]
  lifts f hf := by
    have hlift := h.lifts f (by simpa using hf)
    simp [hlift]
  counts := h.counts.congr (by simp) (by simp)

/-- A PRESENT with the verdict ADMIT: the pass is live and without a marker, and its lane NORMAL and without a hold. -/
theorem State.present_of_admitted (hv : s.verdict l image = .admitted) (hfound : s.presented image = some (n, e)) :
    s.entryAt n = some e ∧ e.marker = none ∧ (s.lane l).state = .work .normal ∧ (s.lane l).hold = none
      ∧ ∃ q, e.state = .live q ∧ s.present l image = (s.clearRun l).presentAdmit l n e q := by
  rcases s.present_ways l image with ⟨hv', -⟩ | ⟨x, -, hv', -⟩ | ⟨c, -, hv', -⟩ | ⟨c, n', e', -, hfound', -, hentry, hlane, hv', h⟩
  · simp [hv] at hv'
  · simp [hv] at hv'
  · simp [hv] at hv'
  · obtain ⟨rfl, rfl⟩ : n' = n ∧ e' = e := by simpa [hfound] using hfound'.symm
    obtain ⟨hopened, hmarker, hhold, ⟨q, hlive⟩, -⟩ := State.judgeEntry_admit (hv'.symm.trans hv)
    rw [hv, State.presentFound_of_admitted hlive] at h
    exact ⟨hentry, hmarker, hlane.resolve_right hopened, hhold, q, hlive, h⟩

/-- HISTORY_FULL is handed over at the office when the debit of an admission is lost (R31, R190). -/
theorem State.admission_historyFull (hbefore : s.history.full = false) (hafter : (s.grantHistory e (s.liftOf l)).history.full = true)
    (n : Nat) (q : LiveState) : (s.admission l n e q).office.flagged (.device .historyFull) = true := by
  let u := (s.clearRun l).writeHistory (s.grantHistory e (s.liftOf l)).history
  have hgrant : u.SameFlag ((s.clearRun l).grant l n e q) (.device .historyFull) := by
    refine .of_port fun p => ?_
    simp [State.grant_eq, State.clearRun_grantHistory, u]
  have hcount : u.SameFlag (s.admission l n e q) (.device .historyFull) := hgrant.trans (.countLane _ _ (by simp))
  have hfull : (s.clearRun l).history.full = false := by simp [hbefore]
  have hflag : (u.port .office).flagged (.device .historyFull) = true := by
    rw [show u = ((s.clearRun l).withHistory _).judgeLevel _ _ _ from rfl, State.judgeLevel_flagged, hfull, hafter]
    simp [State.reached, Edge.takes]
  exact (hcount .office).trans hflag

/-! ### The obligation -/

/-- The entry that the grant of a RIDER pass leaves (R75 to R77). -/
theorem State.granted_of_rider {d : Debited} (hd : s.grantHistory e (s.liftOf l) = d) (hrider : (s.product e.product).kind = .rider) :
    s.granted l e q = { d.entry with
      state := .live (if e.lastUse = some s.clock.day then q else if e.used + 1 = e.bought then .exhausted else .active)
      lastAdmit := some { lift := s.liftOf l, lane := l, day := s.clock.day, sec := s.clock.sec }, marker := some l } := by
  have hmade := State.grantHistory_made_iff (s := s) (e := e) (f := s.liftOf l)
  by_cases hday : e.lastUse = some s.clock.day
  · have hmade : d.facts.debitMade = false := by simpa [hd, hday] using hmade
    simp [State.granted, hd, hmade, hday]
  · have hdebit := History.debit_made s.history e
      { day := s.clock.day, cls := s.calendar.classOf s.clock.day, first := s.clock.sec, admits := 1, lifts := liftBit (s.liftOf l) }
    rw [show s.history.debit e _ = d by rw [← hd, State.grantHistory_of_rider hrider, if_neg hday]] at hdebit
    obtain ⟨hmade, hused, hbought⟩ := hdebit
    simp [State.granted, hd, hmade, hused, hbought, hday, stateAfterDebit]

/-- The entry that the grant of a CONTROL pass leaves (R33, R75). -/
theorem State.granted_of_control (hcontrol : (s.product e.product).kind = .control) (hlive : e.state = .live q) :
    s.granted l e q = { e with
      lastAdmit := some { lift := s.liftOf l, lane := l, day := s.clock.day, sec := s.clock.sec }, marker := some l } := by
  simp [State.granted, State.grantHistory_of_control hcontrol, UndoFacts.none, ← hlive]

/-- Settles O35: an admission is `State.admission`, and then the dwell of its lane is ended or tracked. -/
theorem admissionOpensAHold : Obligations.AdmissionOpensAHold := by
  unfold Obligations.AdmissionOpensAHold
  refine ⟨fun s r n e hgrants => ?_, fun s r n e hgrants => ?_⟩
  · intro l lift today d hv hfound hrider
    let u := s.charge (.request r)
    have hkind : (u.product e.product).kind = .rider := by simp [u, hrider]
    obtain ⟨hentry, hmarker, hstate, hhold, q, hlive, hpresent⟩ := State.present_of_admitted (s := u) (l := l)
      ((State.charge_verdict ..).trans hv) ((State.charge_presented ..).trans hfound)
    have hd : s.grantHistory e (s.liftOf l) = d := State.grantHistory_of_rider hrider _
    let v := (u.admission l n e q).endOtherDwell l e.pass
    let bs := v.presentEntry .admitted l n (u.grantHistory e (u.liftOf l)).facts.debitMade
    have hpresent : u.present l (imageArg r.frame.payload) = (v, bs) := hpresent.trans (State.presentAdmit_of_rider hkind)
    have hexec : exec .present s = .next (v.complete r.port r.index r.frame bs) :=
      congrArg Host.Outcome.next (State.grants_answers hgrants hpresent)
    obtain ⟨hentry, hslots, hhistory, hlane, hlanes, hlift, hlifts, hcounts⟩ :=
      ((u.admission_opens l n e q).endOtherDwell e.pass).granted r.port r.index r.frame bs
    have hraised := (State.Raised.refl u).present l (imageArg r.frame.payload)
    have hsame := (State.SameTransactions.refl u).present l (imageArg r.frame.payload)
    rw [hpresent] at hraised hsame
    refine ⟨_, q, hexec, hlive, hentry.trans (congrArg some (State.granted_of_rider hd hrider)), hhistory.trans (congrArg _ hd), ?_, hlift,
      hlifts, hcounts, hlanes, hslots, (State.granted_ports hraised hsame).2, fun hbefore hafter => ?_⟩
    · rw [hlane, ← hd]
      simp [State.opensHold, hrider, u, State.charge_arbiter, lift]
    · have hfull : (u.grantHistory e (u.liftOf l)).history.full = true := by
        simpa [u, State.charge_grantHistory, hd] using hafter
      have hflag := u.admission_historyFull (by simpa [u] using hbefore) hfull n q
      have hends : (v.port .office).flagged (.device .historyFull) = ((u.admission l n e q).port .office).flagged (.device .historyFull) := by
        simp only [v, State.endOtherDwell_frame]
      exact ((State.SameFlag.complete _ .office).trans hends).trans hflag
  · intro l lift hv hfound hcontrol htoggling
    let u := s.charge (.request r)
    have hkind : (u.product e.product).kind = .control := by simp [u, hcontrol]
    obtain ⟨hentry, hmarker, hstate, hhold, q, hlive, hpresent⟩ := State.present_of_admitted (s := u) (l := l)
      ((State.charge_verdict ..).trans hv) ((State.charge_presented ..).trans hfound)
    have hd := State.grantHistory_of_control hcontrol (s.liftOf l)
    have hquiet : (u.admission l n e q).toggling l e.pass = false := by
      rw [State.admission_toggling, State.charge_toggling]
      exact htoggling
    let v := (u.admission l n e q).setDwell l (some (trackedDwell ((u.admission l n e q).lane l).dwell e.pass (u.admission l n e q).now))
    let bs := v.presentEntry .admitted l n false
    have hpresent : u.present l (imageArg r.frame.payload) = (v, bs) := by
      rw [hpresent, State.presentAdmit_of_control hkind, State.presentTracked, State.track_of_not hquiet]
      rfl
    have hexec : exec .present s = .next (v.complete r.port r.index r.frame bs) :=
      congrArg Host.Outcome.next (State.grants_answers hgrants hpresent)
    obtain ⟨hentry, hslots, hhistory, hlane, hlanes, hlift, hlifts, hcounts⟩ :=
      ((u.admission_opens l n e q).setDwell _).granted r.port r.index r.frame bs
    have hraised := (State.Raised.refl u).present l (imageArg r.frame.payload)
    have hsame := (State.SameTransactions.refl u).present l (imageArg r.frame.payload)
    rw [hpresent] at hraised hsame
    refine ⟨_, q, hexec, hlive, hentry.trans (congrArg some (State.granted_of_control hcontrol hlive)), hhistory.trans (by rw [hd]), ?_,
      hlift, hlifts, hcounts, hlanes, hslots, (State.granted_ports hraised hsame).2⟩
    rw [hlane]
    simp [State.opensHold, hcontrol, hd, u, State.charge_arbiter, lift, State.admission, State.now]

end Sys2Proof.Machine

/-! A tracked presentation that toggles its lane (R79, R104, R118 to R120). -/

namespace Sys2Proof.Machine

variable {s t b : State} {l : Lane} {n : Nat} {e : Entry} {image : Image} {pass : Nat}

/-- A tracked presentation is CONTROL at an OPEN lane, or HELD or ADMIT at a NORMAL one (R78). -/
theorem State.present_of_tracked (hfound : s.presented image = some (n, e)) (htracked : s.tracked (s.verdict l image) e = true) :
    (s.verdict l image = .control ∧ (s.lane l).state = .work .opened ∧ s.present l image = (s.clearRun l).presentTracked .control l n e.pass)
    ∨ (s.verdict l image = .held ∧ (s.lane l).state = .work .normal ∧ s.present l image = (s.clearRun l).presentTracked .held l n e.pass)
    ∨ (s.verdict l image = .admitted ∧ (s.lane l).state = .work .normal ∧ e.marker = none ∧ s.entryAt n = some e
      ∧ ∃ q, e.state = .live q ∧ s.present l image = (s.admission l n e q).presentTracked .admitted l n e.pass) := by
  obtain ⟨hcontrol, hv⟩ := State.tracked_iff.1 htracked
  have hkind : ((s.clearRun l).product e.product).kind = .control := by simp [hcontrol]
  rcases s.present_ways l image with ⟨hv', -⟩ | ⟨x, -, hv', -⟩ | ⟨c, -, hv', -⟩ | ⟨c, n', e', -, hfound', -, -, hlane, hv', h⟩
  · rcases hv with hv | hv | hv <;> simp [hv] at hv'
  · rcases hv with hv | hv | hv <;> simp [hv] at hv'
  · rcases hv with hv | hv | hv <;> simp [hv] at hv'
  · obtain ⟨rfl, rfl⟩ : n' = n ∧ e' = e := by simpa [hfound] using hfound'.symm
    rcases hv with hv | hv | hv
    · obtain ⟨hentry, hmarker, hstate, -, q, hlive, hpresent⟩ := State.present_of_admitted hv hfound
      exact .inr (.inr ⟨hv, hstate, hmarker, hentry, q, hlive, hpresent.trans (State.presentAdmit_of_control hcontrol)⟩)
    · have hopened := (State.judgeEntry_of_held (hv'.symm.trans hv)).1
      rw [hv, State.presentFound_of_held_control hkind] at h
      exact .inr (.inl ⟨hv, hlane.resolve_right hopened, h⟩)
    · have hopened := (State.judgeEntry_of_control (hv'.symm.trans hv)).1
      rw [hv, State.presentFound_of_control] at h
      exact .inl ⟨hv, hopened, h⟩

/-! ### The toggle -/

/-- `t` is `s` after a card has been read at lane `l`, which may hold another hold now. -/
structure State.ReadAt (s t : State) (l : Lane) (h : Option Hold) : Prop where
  lane : t.lane l = { s.lane l with unreadRun := 0, hold := h }
  lanes : s.SameLanesBut t l
  now : t.now = s.now
  raised : s.Raised t

theorem State.clearRun_readAt (s : State) (l : Lane) : s.ReadAt (s.clearRun l) l (s.lane l).hold where
  lane := by simp
  lanes m hm := by simp [hm]
  now := by simp [State.now]
  raised := (State.Raised.refl s).clearRun l

theorem State.admission_readAt (s : State) (l : Lane) (n : Nat) (e : Entry) (q : LiveState) :
    s.ReadAt (s.admission l n e q) l (some (s.opensHold l n e q)) where
  lane := (s.admission_opens l n e q).lane
  lanes := (s.admission_opens l n e q).lanes
  now := by simp [State.admission, State.now]
  raised := (((State.Raised.refl s).clearRun l).grant l n e q).countLane l .granted

/-- The toggle of a lane, once a card has been read there (R120). -/
def State.toggle (s : State) (l : Lane) (pass : Nat) : State :=
  s.moveLane l (s.lane l).state.toggled (some { trackedDwell (s.lane l).dwell pass s.now with spent := true })

theorem State.ReadAt.toggle_lane {h : Option Hold} (hread : s.ReadAt b l h) (pass : Nat) : (b.toggle l pass).lane l
    = { s.lane l with
        state := (s.lane l).state.toggled, dwell := some { trackedDwell (s.lane l).dwell pass s.now with spent := true }
        unreadRun := 0, hold := if (s.lane l).state = .work .normal then none else h } := by
  rw [State.toggle, State.moveLane_lane, if_pos rfl, hread.lane, hread.now]

theorem State.ReadAt.toggle_lanes {h : Option Hold} (hread : s.ReadAt b l h) (pass : Nat) : s.SameLanesBut (b.toggle l pass) l :=
  fun m hm => by rw [State.toggle, State.moveLane_lane, if_neg hm, hread.lanes m hm]

theorem State.ReadAt.toggle_flagged {h : Option Hold} (hread : s.ReadAt b l h) (pass : Nat) {p : Port} (hp : p = .office ∨ p = gateOf l)
    (hedge : (s.lane l).state = .work .normal ∨ (s.port p).edges.laneState = .any)
    (hheard : (s.lane l).state = .work .normal ∨ (s.lane l).state = .work .opened) :
    ((b.toggle l pass).port p).flagged (.laneState l) = true := by
  have hreached : (p == .office || p == gateOf l) = true := by simpa using hp
  have hedges : (b.port p).edges = (s.port p).edges := (hread.raised p).edges
  have hstate : (b.lane l).state = (s.lane l).state := by rw [hread.lane]
  rw [State.toggle, State.moveLane_flagged, hreached, hedges, hstate]
  rcases hheard with hnormal | hopened
  · simp [hnormal, LaneState.toggled, Edge.takes]
  · have hany : (s.port p).edges.laneState = .any := hedge.resolve_left (by simp [hopened])
    simp [hopened, hany, Edge.takes]

theorem State.presentTracked_of_toggling (h : s.toggling l pass = true) (v : Code) (n : Nat) :
    s.presentTracked v l n pass = (s.toggle l pass, (s.toggle l pass).presentEntry .toggled l n false) := by
  rw [State.presentTracked, State.track_of_toggling h]
  rfl

theorem History.undo_none (h : History) (f : Lift) (c : Option Chain) : h.undo .none f c = (c, h) := by
  cases c <;> rfl

/-- A rollback at once undoes the grant of a CONTROL pass (R33, R88). -/
theorem State.granted_undone_of_control {q : LiveState} (hcontrol : (s.product e.product).kind = .control) (hlive : e.state = .live q)
    (hmarker : e.marker = none) : (s.granted l e q).undone (s.opensHold l n e q) e.chain = e := by
  rw [State.granted_of_control hcontrol hlive]
  simp [Entry.undone, State.opensHold, State.grantHistory_of_control hcontrol, UndoFacts.none, ← hlive, ← hmarker]

/-- The toggle of a lane in NORMAL is, of the store, the lifts and the counters, the release of its hold (R92, R104). -/
theorem State.toggle_of_normal (h : (s.lane l).state = .work .normal) (pass : Nat) :
    (s.toggle l pass).slots = (s.releaseHold l).slots ∧ (s.toggle l pass).history = (s.releaseHold l).history
      ∧ (s.toggle l pass).lifts = (s.releaseHold l).lifts ∧ (s.toggle l pass).counts = (s.releaseHold l).counts :=
  s.moveLane_of_normal l _ _ h

theorem State.lift_congr (h : t.lifts = s.lifts) (f : Lift) : t.lift f = s.lift f := congrArg (·[f]) h

theorem State.entryAt_congr (h : t.slots = s.slots) (m : Nat) : t.entryAt m = s.entryAt m := congrArg (Table.get · m) h

/-- A release returns 60 pace units to the lift of its hold (R89). -/
theorem State.releaseHold_lift {h : Hold} (hh : (s.lane l).hold = some h) (f : Lift) : (s.releaseHold l).lift f
    = if f = h.lift then { s.lift f with level := min ((s.lift f).level + 60) (60 * (s.lift f).burst) } else s.lift f := by
  rw [State.releaseHold_of_hold hh, ← State.rollback_lift s l]
  simp

/-- The toggle of an OPEN lane does nothing to them. -/
theorem State.toggle_of_other (h : (s.lane l).state ≠ .work .normal) (pass : Nat) :
    (s.toggle l pass).slots = s.slots ∧ (s.toggle l pass).history = s.history ∧ (s.toggle l pass).lifts = s.lifts
      ∧ (s.toggle l pass).counts = s.counts :=
  s.moveLane_of_other l _ _ h

/-- An admission whose dwell toggles the lane is undone at once (R79, R92). -/
theorem State.admission_toggle {q : LiveState} (hcontrol : (s.product e.product).kind = .control) (hlive : e.state = .live q)
    (hmarker : e.marker = none) (hentry : s.entryAt n = some e) (hstate : (s.lane l).state = .work .normal) (pass : Nat) :
    (∀ m, ((s.admission l n e q).toggle l pass).entryAt m = s.entryAt m)
      ∧ ((s.admission l n e q).toggle l pass).history = s.history
      ∧ ((s.admission l n e q).toggle l pass).lift (s.liftOf l) = { s.lift (s.liftOf l) with
          level := min ((s.lift (s.liftOf l)).level - 60 + 60) (60 * (s.lift (s.liftOf l)).burst) }
      ∧ s.SameLiftsBut ((s.admission l n e q).toggle l pass) (s.liftOf l)
      ∧ s.Counts ((s.admission l n e q).toggle l pass) [(l, .granted), (l, .released)] [] := by
  let b := s.admission l n e q
  let h := s.opensHold l n e q
  have hopens := s.admission_opens l n e q
  have hhold : (b.lane l).hold = some h := by rw [hopens.lane]; rfl
  have hchain : (s.granted l e q).chain = e.chain := by rw [State.granted_of_control hcontrol hlive]
  have hhistory : b.history = s.history := by rw [hopens.history, State.grantHistory_of_control hcontrol]
  have hfacts : h.facts = .none := by simp [h, State.opensHold, State.grantHistory_of_control hcontrol]
  obtain ⟨hslots, hhist, hlifts, hcounts⟩ := State.toggle_of_normal (s := b) (l := l) (by rw [hopens.lane]; exact hstate) pass
  have hreturned := (State.releaseHold_returned hhold hopens.entry).congr (s' := b) (t' := b.toggle l pass) ⟨rfl, rfl, rfl⟩
    ⟨hslots, hhist, hlifts⟩
  have hundone := hreturned.entry
  rw [hfacts, hchain, History.undo_none, State.granted_undone_of_control hcontrol hlive hmarker] at hundone
  have hback := hreturned.history
  rw [hfacts, History.undo_none] at hback
  refine ⟨fun m => ?_, hback.trans hhistory, ?_, fun f hf => (hreturned.lifts f hf).trans (hopens.lifts f hf),
    (hopens.counts.trans (State.releaseHold_counts hhold) (by simp) (by simp)).congr rfl hcounts⟩
  · by_cases hm : m = n
    · rw [hm, hentry]
      exact hundone
    · exact (hreturned.slots m hm).trans (hopens.slots m hm)
  · have hlift := hreturned.lift
    rw [show h.lift = s.liftOf l from rfl, hopens.lift] at hlift
    exact hlift

/-! ### The obligation -/

theorem trackedDwell_goes_on {x : Dwell} {now : Instant} (hpass : x.pass = pass) (hlast : secondsFrom x.last now ≤ 1) :
    trackedDwell (some x) pass now = { x with last := now } := if_pos ⟨hpass, hlast⟩

theorem trackedDwell_starts {x : Dwell} {now : Instant} (h : x.pass ≠ pass ∨ 1 < secondsFrom x.last now) :
    trackedDwell (some x) pass now = { pass := pass, start := now, last := now, spent := false } :=
  if_neg fun ⟨hpass, hlast⟩ => h.elim (· hpass) (by omega)

theorem toggles_iff (x : Dwell) (now : Instant) (p : Profile) :
    toggles x now p = true ↔ x.spent = false ∧ 3 ≤ secondsFrom x.start now ∧ p.toggle = true := by
  simp [toggles, and_assoc]

theorem State.ReadAt.toggling {h : Option Hold} (hread : s.ReadAt b l h) (pass : Nat) : b.toggling l pass = s.toggling l pass := by
  simp only [State.toggling, hread.lane, hread.now]

/-- What a granted PRESENT that toggles its lane leaves, once it is known on which state the toggle is made. -/
theorem State.exec_toggle {r : StoreReq} {w : Code} {h : Option Hold} (hgrants : s.grants .present r)
    (hread : (s.charge (.request r)).ReadAt b (laneArg r.frame.payload) h)
    (hpresent : (s.charge (.request r)).present (laneArg r.frame.payload) (imageArg r.frame.payload)
      = b.presentTracked w (laneArg r.frame.payload) n pass)
    (htoggling : s.toggling (laneArg r.frame.payload) pass = true) :
    let l := laneArg r.frame.payload
    ∃ t, exec .present s = .next t
      ∧ (t.slots = (b.toggle l pass).slots ∧ t.history = (b.toggle l pass).history ∧ t.lifts = (b.toggle l pass).lifts
        ∧ t.counts = (b.toggle l pass).counts)
      ∧ t.lane l = { s.lane l with
          state := (s.lane l).state.toggled, dwell := some { trackedDwell (s.lane l).dwell pass s.now with spent := true }
          unreadRun := 0, hold := if (s.lane l).state = .work .normal then none else h }
      ∧ s.SameLanesBut t l ∧ s.SamePorts t
      ∧ ∀ p, p = .office ∨ p = gateOf l → ((s.lane l).state = .work .normal
          ∨ (s.lane l).state = .work .opened ∧ (s.port p).edges.laneState = .any) → (t.port p).flagged (.laneState l) = true := by
  intro l
  let u := s.charge (.request r)
  let bs := (b.toggle l pass).presentEntry .toggled l n false
  have hpresent : u.present l (imageArg r.frame.payload) = (b.toggle l pass, bs) := by
    refine hpresent.trans (State.presentTracked_of_toggling ?_ w n)
    rw [hread.toggling, State.charge_toggling]
    exact htoggling
  have hexec : exec .present s = .next ((b.toggle l pass).complete r.port r.index r.frame bs) :=
    congrArg Host.Outcome.next (State.grants_answers hgrants hpresent)
  have hraised := (State.Raised.refl u).present l (imageArg r.frame.payload)
  have hsame := (State.SameTransactions.refl u).present l (imageArg r.frame.payload)
  rw [hpresent] at hraised hsame
  have hnow : (s.charge (.request r)).now = s.now := by simp [State.now]
  have hlane (m : Lane) : (s.charge (.request r)).lane m = s.lane m := by simp
  have hport (p : Port) : (s.charge (.request r)).port p = s.port p := by simp
  have hrec := hread.toggle_lane pass
  rw [hlane, hnow] at hrec
  refine ⟨_, hexec, by simp, ?_, fun m hm => ?_, (State.granted_ports hraised hsame).2, fun p hp hedge => ?_⟩
  · simp only [State.complete_frame]
    exact hrec
  · simp only [State.complete_frame]
    exact (hread.toggle_lanes pass m hm).trans (hlane m)
  · refine (State.SameFlag.complete _ p).trans (hread.toggle_flagged pass hp ?_ ?_)
    · rw [hlane, hport]
      exact hedge.imp_right And.right
    · rw [hlane]
      exact hedge.imp_right And.left

/-- Settles O36: the toggle is `State.toggle`, after the grant at ADMIT; the tests of R119 and R120 follow the model's. -/
theorem dwellsAndToggles : Obligations.DwellsAndToggles := by
  unfold Obligations.DwellsAndToggles
  refine ⟨fun s r n e hgrants => ?_, fun d pass now x p => ?_⟩
  · intro l v lift hfound htracked htoggling
    let u := s.charge (.request r)
    have hv : u.verdict l (imageArg r.frame.payload) = v := State.charge_verdict ..
    have hlane : u.lane l = s.lane l := by simp [u]
    have hsame : u.slots = s.slots ∧ u.history = s.history ∧ u.lifts = s.lifts ∧ u.counts = s.counts := by simp [u]
    obtain ⟨hslots, hhistory, hlifts, hcounts⟩ := hsame
    have htracked' : u.tracked (u.verdict l (imageArg r.frame.payload)) e = true := by rwa [hv, State.charge_tracked]
    have hcases := State.present_of_tracked ((State.charge_presented ..).trans hfound) htracked'
    rw [hv, hlane] at hcases
    rcases hcases with ⟨hcontrol, hstate, hpresent⟩ | ⟨hheld, hstate, hpresent⟩
      | ⟨hadmitted, hstate, hmarker, hentry, q, hlive, hpresent⟩
    · obtain ⟨t, hexec, hparts, hrec, hlanes, hports, hflags⟩ := State.exec_toggle hgrants (u.clearRun_readAt l) hpresent htoggling
      refine ⟨t, hexec, by rw [hrec], by rw [hrec, if_pos hcontrol, hstate]; rfl, fun _ => ?_, fun h => by simp [hcontrol] at h,
        fun h => by simp [hcontrol] at h, hlanes, by rw [hrec], by rw [hrec], by rw [hrec], hports, fun p hp hedge => ?_⟩
      · obtain ⟨hs, hh, hl, hc⟩ := State.toggle_of_other (s := u.clearRun l) (l := l) (by simp [hlane, hstate]) e.pass
        obtain ⟨ts, th, tl, tc⟩ := hparts
        have hclear := State.Refuses.clearRun u l
        refine ⟨(ts.trans hs).trans (hclear.slots.trans hslots), (th.trans hh).trans (hclear.history.trans hhistory),
          (tl.trans hl).trans (hclear.lifts.trans hlifts), ?_, hclear.counts.congr hcounts (tc.trans hc)⟩
        rw [hrec, hstate, hlane]
        rfl
      · exact hflags p hp (.inr ⟨hstate, hedge.resolve_left (fun hne => hne hcontrol)⟩)
    · obtain ⟨t, hexec, hparts, hrec, hlanes, hports, hflags⟩ := State.exec_toggle hgrants (u.clearRun_readAt l) hpresent htoggling
      have hnot : v ≠ .control := by simp [hheld]
      refine ⟨t, hexec, by rw [hrec], by rw [hrec, if_neg hnot, hstate]; rfl, fun h => absurd h hnot,
        fun h => by simp [hheld] at h, fun _ => ⟨by rw [hrec, if_pos hstate], fun h hh => ?_⟩, hlanes, by rw [hrec], by rw [hrec],
        by rw [hrec], hports, fun p hp _ => hflags p hp (.inl hstate)⟩
      have hclear := State.Refuses.clearRun u l
      have hhold : ((u.clearRun l).lane l).hold = some h := by rw [hclear.lane, hlane]; exact hh
      obtain ⟨hs, hhist, hl, hc⟩ := State.toggle_of_normal (s := u.clearRun l) (l := l) (by simp [hlane, hstate]) e.pass
      obtain ⟨ts, th, tl, tc⟩ := hparts
      have hlift (f : Lift) : t.lift f = if f = h.lift then { s.lift f with level := min ((s.lift f).level + 60) (60 * (s.lift f).burst) }
          else s.lift f := by
        rw [State.lift_congr (tl.trans hl), State.releaseHold_lift hhold, State.lift_congr (hclear.lifts.trans hlifts)]
      refine ⟨(State.releaseHold_counts hhold).congr (by simp [u]) (tc.trans hc), by rw [hlift, if_pos rfl],
        fun f hf => by rw [hlift, if_neg hf], fun x hx => ?_⟩
      have hentry : (u.clearRun l).entryAt h.slot = some x := by simpa [u] using hx
      have hreturned : s.Returned t h x := (State.releaseHold_returned hhold hentry).congr (by simp [u])
        ⟨ts.trans hs, th.trans hhist, tl.trans hl⟩
      refine ⟨hreturned.entry, hreturned.slots, hreturned.history, fun hfacts => ?_⟩
      have hback := hreturned.history
      rw [hfacts, History.undo_none] at hback
      exact ⟨by rw [hfacts, History.undo_none], hback⟩
    · obtain ⟨t, hexec, hparts, hrec, hlanes, hports, hflags⟩ := State.exec_toggle hgrants (u.admission_readAt l n e q) hpresent htoggling
      have hnot : v ≠ .control := by simp [hadmitted]
      refine ⟨t, hexec, by rw [hrec], by rw [hrec, if_neg hnot, hstate]; rfl, fun h => absurd h hnot,
        fun _ => ?_, fun h => by simp [hadmitted] at h, hlanes, by rw [hrec], by rw [hrec], by rw [hrec], hports,
        fun p hp _ => hflags p hp (.inl hstate)⟩
      have hkind : (u.product e.product).kind = .control := by simpa [u] using (State.tracked_iff.1 htracked).1
      obtain ⟨hentries, hback, hlift, hlifts', hcount⟩ := u.admission_toggle (l := l) hkind hlive hmarker hentry (by rw [hlane, hstate]) e.pass
      obtain ⟨ts, th, tl, tc⟩ := hparts
      have hlift' (f : Lift) : t.lift f = ((u.admission l n e q).toggle l e.pass).lift f := State.lift_congr tl f
      have hulift (f : Lift) : u.lift f = s.lift f := State.lift_congr hlifts f
      have huliftOf : u.liftOf l = lift := by simp [u, lift]
      rw [huliftOf, hulift] at hlift
      rw [huliftOf] at hlifts'
      exact ⟨fun m => ((State.entryAt_congr ts m).trans (hentries m)).trans (State.entryAt_congr hslots m), (th.trans hback).trans hhistory,
        by rw [hrec, if_pos hstate], (hlift' lift).trans hlift,
        fun f hf => ((hlift' f).trans (hlifts' f hf)).trans (hulift f), hcount.congr hcounts tc⟩
  · simp only [← secondsFrom_eq]
    refine ⟨fun hd hpass hlast => hd ▸ trackedDwell_goes_on hpass hlast, fun h => ?_, toggles_iff x now p⟩
    rcases h with rfl | ⟨rfl, h⟩
    · rfl
    · exact trackedDwell_starts h

end Sys2Proof.Machine

/-! The response to a PRESENT (R80, R81, R199). -/

namespace Sys2Proof.Machine

variable {s t : State} {l : Lane} {n : Nat} {e x : Entry} {image : Image} {v : Code} {pass : Nat}

/-! ### The response of an entry -/

/-- The six bytes of a response with an entry (R80, R81). -/
def foundReply (v : Code) (l : Lane) (debited control : Bool) (e : Entry) : List Byte :=
  [v.byte, byteOf l.val, 0, if debited then 3 else 1, byteOf e.state.code, if control then 0 else byteOf (e.bought - e.used)]

theorem State.presentEntry_of_entry (he : t.entryAt n = some x) (v : Code) (l : Lane) (debited : Bool) :
    t.presentEntry v l n debited = foundReply v l debited ((t.product x.product).kind == .control) x := by
  have hdays : byteOf (t.daysRemaining x) = if (t.product x.product).kind == .control then 0 else byteOf (x.bought - x.used) := by
    cases hkind : (t.product x.product).kind <;> simp [State.daysRemaining, hkind, byteOf]
  have hdebited : byteOf (bitAt 0 true + bitAt 1 debited) = if debited then 3 else 1 := by cases debited <;> decide
  simp only [State.presentEntry, he, foundReply, hdays, hdebited]

/-- A release leaves an entry in its slot, of its product. -/
theorem State.releaseHold_entry (he : s.entryAt n = some e) (l : Lane) :
    ∃ e', (s.releaseHold l).entryAt n = some e' ∧ e'.product = e.product := by
  cases hh : (s.lane l).hold with
  | none => exact ⟨e, by rw [State.releaseHold_of_none hh, he], rfl⟩
  | some h =>
    have hread : (s.releaseHold l).entryAt n = (s.rollback l h).entryAt n := by rw [State.releaseHold_of_hold hh]; simp
    rw [hread]
    cases hx : s.entryAt h.slot with
    | none =>
      have hnothing : (s.rollback l h).entryAt n = s.entryAt n := by simp [State.rollback, State.undoGrant_of_none hx]
      exact ⟨e, hnothing.trans he, rfl⟩
    | some x =>
      rw [State.rollback_entryAt hx]
      split
      next hn =>
        obtain rfl : x = e := by rw [← hn, he] at hx; exact (Option.some.inj hx).symm
        exact ⟨_, rfl, rfl⟩
      · exact ⟨e, he, rfl⟩

/-- The dwell tracking of a lane leaves an entry in its slot, of its product, toggle or not. -/
theorem State.presentTracked_answers (he : s.entryAt n = some e) (hcontrol : (s.product e.product).kind = .control) :
    ∃ e', (s.presentTracked v l n pass).1.entryAt n = some e'
      ∧ (s.presentTracked v l n pass).2 = foundReply (if s.toggling l pass then .toggled else v) l false true e' := by
  cases htoggling : s.toggling l pass with
  | false =>
    rw [State.presentTracked, State.track_of_not htoggling]
    have hentry : (s.setDwell l (some (trackedDwell (s.lane l).dwell pass s.now))).entryAt n = some e := by simp [he]
    refine ⟨e, hentry, (State.presentEntry_of_entry hentry ..).trans ?_⟩
    simp [hcontrol]
  | true =>
    rw [State.presentTracked_of_toggling htoggling]
    have hentry : ∃ e', (s.toggle l pass).entryAt n = some e' ∧ e'.product = e.product := by
      by_cases hstate : (s.lane l).state = .work .normal
      · rw [State.entryAt_congr (State.toggle_of_normal hstate pass).1]
        exact State.releaseHold_entry he l
      · exact ⟨e, (State.entryAt_congr (State.toggle_of_other hstate pass).1 n).trans he, rfl⟩
    obtain ⟨e', hentry, hproduct⟩ := hentry
    have hkind : ((s.toggle l pass).product e'.product).kind = .control := by simp [State.toggle, hproduct, hcontrol]
    refine ⟨e', hentry, (State.presentEntry_of_entry hentry ..).trans ?_⟩
    rw [hkind]
    rfl

/-! ### The response to a PRESENT -/

/-- Of a presentation that is neither admitted nor tracked, the response shows the entry as it stood (R80). -/
theorem State.presentFound_reply (hnot : v ∉ [Code.admitted, .control]) (huntracked : s.tracked v e = false) :
    (s.presentFound v l n e).2 = (s.presentFound v l n e).1.presentEntry v l n false := by
  by_cases hbusy : v = .laneBusy
  · rw [hbusy, State.presentFound_of_laneBusy]
  · rw [State.presentFound_of_other (by simp_all) fun hheld hcontrol => by simp [State.tracked, hheld, hcontrol] at huntracked]

theorem State.granted_product (s : State) (l : Lane) (e : Entry) (q : LiveState) : (s.granted l e q).product = e.product := by
  simp only [State.granted]
  rw [State.grantHistory_entry]

/-- What a PRESENT answers from step 6 on, and its entry as it stands then (R80, R81). -/
theorem State.present_answers (hfound : s.presented image = some (n, e))
    (hlate : s.verdict l image ∉ [Code.clockUnset, .laneClosed, .laneFault, .unreadable, .foreign, .unknown]) :
    ∃ e', (s.present l image).1.entryAt n = some e' ∧ (s.present l image).2
      = foundReply (if s.tracked (s.verdict l image) e && s.toggling l e.pass then .toggled else s.verdict l image) l
          (s.verdict l image == .admitted && (s.product e.product).kind != .control && e.lastUse != some s.clock.day)
          ((s.product e.product).kind == .control) e' := by
  obtain ⟨c, himage, -, hentry⟩ := State.presented_eq_some hfound
  cases htracked : s.tracked (s.verdict l image) e with
  | true =>
    have hcontrol := (State.tracked_iff.1 htracked).1
    have hread := State.presentTracked_answers (s := s.clearRun l) (l := l) (v := s.verdict l image) (pass := e.pass)
      (show (s.clearRun l).entryAt n = some e by simp [hentry]) (by simp [hcontrol])
    rw [State.clearRun_toggling] at hread
    simp only [hcontrol, Bool.true_and]
    rcases State.present_of_tracked hfound htracked with ⟨hv, -, h⟩ | ⟨hv, -, h⟩ | ⟨hv, -, -, -, q, -, h⟩
    · rw [h, ← hv]
      simpa [hv] using hread
    · rw [h, ← hv]
      simpa [hv] using hread
    · have hadmitted := State.presentTracked_answers (l := l) (v := .admitted) (pass := e.pass) (s.admission_opens l n e q).entry
        (by simp [State.admission, State.granted_product, hcontrol])
      rw [State.admission_toggling] at hadmitted
      rw [h, hv]
      exact hadmitted
  | false =>
    simp only [Bool.false_and, Bool.false_eq_true, if_false]
    by_cases hv : s.verdict l image = .admitted
    · obtain ⟨-, -, -, -, q, -, h⟩ := State.present_of_admitted hv hfound
      have hrider : (s.product e.product).kind = .rider := by
        cases hkind : (s.product e.product).kind
        · rfl
        · simp [State.tracked, hv, hkind] at htracked
      have hopens := (s.admission_opens l n e q).endOtherDwell e.pass
      have hkind : (((s.admission l n e q).endOtherDwell l e.pass).product (s.granted l e q).product).kind = .rider := by
        simp [State.admission, State.granted_product, hrider]
      have hmade : (s.grantHistory e (s.liftOf l)).facts.debitMade = (e.lastUse != some s.clock.day) := by
        rw [Bool.eq_iff_iff, State.grantHistory_made_iff]
        simp [hrider]
      rw [h, State.presentAdmit_of_rider hrider]
      refine ⟨_, hopens.entry, (State.presentEntry_of_entry hopens.entry ..).trans ?_⟩
      rw [hkind, hmade, hrider, hv]
      rfl
    · have hunadmitted : (s.verdict l image == .admitted) = false := beq_false_of_ne hv
      have hrefuses := State.present_refuses hv fun n' e' hfound' => by
        obtain ⟨rfl, rfl⟩ : n' = n ∧ e' = e := by simpa [hfound] using hfound'.symm
        rw [htracked]
        rfl
      obtain ⟨r, hrefuses, -⟩ := hrefuses
      have hkept : (s.present l image).1.entryAt n = some e := (State.entryAt_congr hrefuses.slots n).trans hentry
      have hproduct : (s.present l image).1.product e.product = s.product e.product := by simp
      refine ⟨e, hkept, ?_⟩
      rw [hunadmitted, Bool.false_and, Bool.false_and, ← hproduct, ← State.presentEntry_of_entry hkept]
      rcases s.present_ways l image with ⟨hv', -⟩ | ⟨x, -, hv', -⟩ | ⟨c, -, hv', -⟩ | ⟨c, n', e', -, hfound', -, -, hlane, hv', h⟩
      · simp_all
      · simp_all
      · rcases hv' with hv' | ⟨hv', -⟩ <;> simp [hv'] at hlate
      · obtain ⟨rfl, rfl⟩ : n' = n ∧ e' = e := by simpa [hfound] using hfound'.symm
        have hcontrol : s.verdict l image ≠ .control := fun hc => by
          have hkind := (State.judgeEntry_of_control (hv'.symm.trans hc)).2
          simp [State.tracked, hc, hkind] at htracked
        rw [h]
        exact State.presentFound_reply (by simp [hv, hcontrol]) (by simpa [State.tracked] using htracked)

/-- What a PRESENT answers before an entry is found (R80). -/
theorem State.present_answers_early (hearly : s.verdict l image ∈ [Code.clockUnset, .laneClosed, .laneFault, .unreadable, .foreign, .unknown]) :
    (∃ x, image = .bad x ∧ s.verdict l image = .unreadable ∧ (s.present l image).2 = presentNoEntry .unreadable l x.code)
    ∨ (s.verdict l image ≠ .unreadable ∧ (s.present l image).2 = presentNoEntry (s.verdict l image) l 0) := by
  rcases s.present_ways l image with ⟨hv, h⟩ | ⟨x, himage, hv, h⟩ | ⟨c, -, hv, h⟩ | ⟨c, n, e, -, -, -, -, -, hv, -⟩
  · exact .inr ⟨by rintro h'; simp [h'] at hv, by rw [h]⟩
  · exact .inl ⟨x, himage, hv, by rw [h]; rfl⟩
  · exact .inr ⟨by rcases hv with hv | ⟨hv, -⟩ <;> simp [hv], by rw [h]⟩
  · exact absurd (hv ▸ hearly) (s.judgeEntry_late l c e)

/-- Settles O33: the verdict of R55 is the model's by `State.present_cases`, and the response follows the case. -/
theorem presentAnswersTheFirstVerdict : Obligations.PresentAnswersTheFirstVerdict := by
  unfold Obligations.PresentAnswersTheFirstVerdict
  intro s r hgrants l image v early
  let u := s.charge (.request r)
  have hv : u.verdict l image = v := State.charge_verdict ..
  have hpresented : u.presented image = s.presented image := State.charge_presented ..
  have hexec : exec .present s = .next ((u.present l image).1.complete r.port r.index r.frame (u.present l image).2) :=
    congrArg Host.Outcome.next (State.grants_answers hgrants rfl)
  refine ⟨_, _, hexec,
    (State.granted_ports ((State.Raised.refl u).present l image) ((State.SameTransactions.refl u).present l image)).1, fun hearly => ?_,
    fun n e hfound hlate => ?_⟩
  · have hearly : u.verdict l image ∈ [Code.clockUnset, .laneClosed, .laneFault, .unreadable, .foreign, .unknown] := by rwa [hv]
    have hcases := State.present_answers_early hearly
    rw [hv] at hcases
    rcases hcases with ⟨x, himage, hunread, hreply⟩ | ⟨hread, hreply⟩
    · rw [hreply, himage]
      simp [presentNoEntry, hunread]
    · rw [hreply]
      cases image <;> simp [presentNoEntry, hread, byteOf]
  · intro toggled control
    have hlate : u.verdict l image ∉ [Code.clockUnset, .laneClosed, .laneFault, .unreadable, .foreign, .unknown] := by rwa [hv]
    obtain ⟨e', hentry, hreply⟩ := State.present_answers (hpresented.trans hfound) hlate
    rw [hv, State.charge_tracked, State.charge_toggling] at hreply
    refine ⟨e', by simpa using hentry, hreply.trans ?_⟩
    have hsame : u.product e.product = s.product e.product ∧ u.clock = s.clock := by simp [u]
    rw [hsame.1, hsame.2]
    simp [foundReply, apply_ite Code.byte, toggled, control, and_assoc]

end Sys2Proof.Machine

/-! Several rollbacks in a row (R93, R105): each undoes its own grant, and none touches the chain of another pass. -/

namespace Sys2Proof.Machine

/-! ### The undo reads and writes one chain -/

section

variable {h h' : History} {c : Option Chain} {rest : List Nat}

/-- What an undo makes of a chain depends on the granules of the chain alone. -/
theorem History.Parts.undo_local (hp : h.Parts c rest) (hread : ∀ g ∈ h.chainGranules c, h'.granule g = h.granule g)
    (hsame : h'.chainGranules c = h.chainGranules c) (facts : UndoFacts) (f : Lift) :
    (h'.undo facts f c).1 = (h.undo facts f c).1
      ∧ ∀ g ∈ h.chainGranules c, (h'.undo facts f c).2.granule g = (h.undo facts f c).2.granule g := by
  cases c with
  | none => exact ⟨rfl, hread⟩
  | some c =>
    obtain ⟨pre, rs, hgs, -⟩ := hp.tail
    have htail : h'.granule c.tail = h.granule c.tail := hread _ (by simp [hgs])
    simp only [History.undo]
    split
    · unfold History.unwrite
      split
      · refine ⟨rfl, fun g hg => ?_⟩
        simp [History.placesOf_congr htail, hread g hg]
      split
      · exact ⟨rfl, fun g hg => by simp [hread g hg]⟩
      · have hfind : (h'.chainGranules (some c)).find? (fun g => (h'.granule g).any fun x => x.link == .next c.tail)
            = (h.chainGranules (some c)).find? fun g => (h.granule g).any fun x => x.link == .next c.tail := by
          rw [hsame]
          exact List.find?_congr fun g hg => by rw [hread g hg]
        rw [hfind]
        cases hfound : (h.chainGranules (some c)).find? fun g => (h.granule g).any fun x => x.link == .next c.tail with
        | none => exact ⟨rfl, fun g hg => by simp [hread g hg]⟩
        | some p =>
          have hp' := hread p (List.mem_of_find?_eq_some hfound)
          exact ⟨rfl, fun g hg => by simp [hread g hg, History.placesOf_congr hp']⟩
    · split
      · refine ⟨rfl, fun g hg => ?_⟩
        unfold History.amendTail
        rw [htail]
        split
        · exact hread g hg
        split
        · exact hread g hg
        · simp [hread g hg]
      · exact ⟨rfl, hread⟩

end

/-! ### One rollback after another -/

/-- The granule that a grant allocated, which its rollback frees (R31, R34). -/
def State.allocatedBy (s : State) (h : Hold) : Option Nat :=
  if h.facts.recordWritten && h.facts.granuleAllocated then (s.entryAt h.slot).bind fun e => e.chain.map Chain.tail else none

theorem State.allocatedBy_of_entry {s : State} {h : Hold} {e : Entry} (he : s.entryAt h.slot = some e) : s.allocatedBy h
    = if h.facts.recordWritten && h.facts.granuleAllocated then e.chain.map Chain.tail else none := by
  rw [State.allocatedBy, he]
  rfl

/-- `t` is reached from `s` by rolling back these holds, in this order; each rollback is counted in the day set, and around it only
what the store does not rest on may change. -/
inductive State.RollsBack : State → List (Lane × Hold) → State → Prop where
  | nil {s t : State} : s.Quiet t → RollsBack s [] t
  | cons {s u t : State} {l : Lane} {h : Hold} {xs : List (Lane × Hold)} : (s.lane l).hold = some h →
      ((s.undoGrant l h).countDayOnly l .released).Quiet u → RollsBack u xs t → RollsBack s ((l, h) :: xs) t

/-- What the rollbacks of these holds leave of the pass store and the use history (R31, R34, R88). -/
structure State.RolledBack (s t : State) (xs : List (Lane × Hold)) : Prop where
  undone : ∀ x ∈ xs, ∀ e, s.entryAt x.2.slot = some e →
    t.entryAt x.2.slot = some (e.undone x.2 (s.history.undo x.2.facts x.2.lift e.chain).1)
      ∧ t.history.records (s.history.undo x.2.facts x.2.lift e.chain).1
        = (s.history.undo x.2.facts x.2.lift e.chain).2.records (s.history.undo x.2.facts x.2.lift e.chain).1
  entries : ∀ n, (∀ x ∈ xs, x.2.slot ≠ n) → t.entryAt n = s.entryAt n
  granules : ∀ n e, (∀ x ∈ xs, x.2.slot ≠ n) → s.entryAt n = some e →
    ∀ g ∈ s.history.chainGranules e.chain, t.history.granule g = s.history.granule g
  free : t.history.free = (xs.reverse.filterMap fun x => s.allocatedBy x.2) ++ s.history.free
  full : t.history.full = (s.history.full && (xs.filterMap fun x => s.allocatedBy x.2).isEmpty)

variable {s t u : State} {l : Lane} {h : Hold} {xs : List (Lane × Hold)}

/-- The holds that are rolled back stand open before the first of the rollbacks. -/
theorem State.RollsBack.opened (hr : s.RollsBack xs t) : ∀ x ∈ xs, (s.lane x.1).hold = some x.2 := by
  induction hr with
  | nil _ => simp
  | @cons s u t l h xs hh hq _ ih =>
    intro x hx
    rcases List.mem_cons.1 hx with rfl | hx
    · exact hh
    · have hopen := ih x hx
      rw [hq.hold] at hopen
      simp only [State.countDayOnly_frame, State.undoGrant_lane] at hopen
      split at hopen
      · cases hopen
      · exact hopen

/-- The rollback of one hold leaves the holds of the other lanes open. -/
theorem State.RollsBack.open_cons (hq : ((s.undoGrant l h).countDayOnly l .released).Quiet u)
    (hr : u.RollsBack xs t) : ∀ x ∈ xs, x.1 ≠ l ∧ (s.lane x.1).hold = some x.2 := by
  intro x hx
  have hopen := hr.opened x hx
  rw [hq.hold] at hopen
  simp only [State.countDayOnly_frame, State.undoGrant_lane] at hopen
  split at hopen
  · cases hopen
  · exact ⟨‹_›, hopen⟩

theorem State.RolledBack.nil (hq : s.Quiet t) : s.RolledBack t [] where
  undone x hx := by cases hx
  entries n _ := hq.entryAt n
  granules n e _ _ g _ := by rw [hq.history]
  free := by simp [hq.history]
  full := by simp [hq.history]

/-- Rollbacks are of the pass store and the use history alone. -/
theorem State.RolledBack.congr (hr : s.RolledBack t xs) {s' t' : State} (hs : s'.slots = s.slots ∧ s'.history = s.history)
    (ht : t'.slots = t.slots ∧ t'.history = t.history) : s'.RolledBack t' xs := by
  obtain ⟨hslots, hhistory⟩ := hs
  obtain ⟨hslots', hhistory'⟩ := ht
  have hentry (n : Nat) : s'.entryAt n = s.entryAt n := congrArg (Table.get · n) hslots
  have hentry' (n : Nat) : t'.entryAt n = t.entryAt n := congrArg (Table.get · n) hslots'
  have hallocated (h : Hold) : s'.allocatedBy h = s.allocatedBy h := by rw [State.allocatedBy, State.allocatedBy, hentry]
  obtain ⟨h1, h2, h3, h4, h5⟩ := hr
  refine ⟨?_, ?_, ?_, ?_, ?_⟩
  · simpa only [hentry, hentry', hhistory, hhistory'] using h1
  · simpa only [hentry, hentry'] using h2
  · simpa only [hentry, hhistory, hhistory'] using h3
  · simpa only [hallocated, hhistory, hhistory'] using h4
  · simpa only [hallocated, hhistory, hhistory'] using h5

/-- What rollbacks in a row leave, from the invariants of the pass store, the holds and the use history. -/
theorem State.RollsBack.rolledBack (hr : s.RollsBack xs t) (hs : s.StoreOk) (hh : s.HoldsOk) (hok : s.HistoryOk) : s.RolledBack t xs := by
  induction hr with
  | nil hq => exact .nil hq
  | @cons s u t l h xs hhold hq hr ih =>
    have hmove : s.Move ((s.undoGrant l h).countDayOnly l .released) := .drop hhold (by simp)
    have hus := (State.Move.quiet hq).storeOk (hmove.storeOk hs)
    have huh := (State.Move.quiet hq).holdsOk (hmove.holdsOk hh)
    have huok := (State.Move.quiet hq).historyOk (hmove.storeOk hs) (hmove.holdsOk hh) (hmove.historyOk hs hh hok)
    have hrolled := ih hus huh huok
    obtain ⟨e, -, he, -⟩ := hh.entry hhold
    have hundone := hok.undone hs hhold he
    have hread (n : Nat) : u.entryAt n = if n = h.slot then some (e.undone h (s.history.undo h.facts h.lift e.chain).1) else s.entryAt n := by
      rw [hq.entryAt, State.undoGrant_of_entry he]
      simp
    have hhistory : u.history = (s.history.undo h.facts h.lift e.chain).2 := by
      rw [hq.history, State.undoGrant_of_entry he]
      simp
    have hlater (x : Lane × Hold) (hx : x ∈ xs) : x.2.slot ≠ h.slot :=
      have hx := State.RollsBack.open_cons hq hr x hx
      hh.slots_ne hx.2 hhold hx.1
    have hkept (n : Nat) (x : Entry) (hn : n ≠ h.slot) (hx : s.entryAt n = some x) (g : Nat) (hg : g ∈ s.history.chainGranules x.chain) :
        u.history.granule g = s.history.granule g := by
      rw [hhistory]
      exact hundone.kept g (State.mem_others hn hx hg)
    have hchains (n : Nat) (x : Entry) (hn : n ≠ h.slot) (hx : s.entryAt n = some x) :
        u.history.chainGranules x.chain = s.history.chainGranules x.chain :=
      ((hok.chains n x hx).congr (hok.parts_of_entry hs hx).nodup (hkept n x hn hx)).2.1
    have hallocated (x : Lane × Hold) (hx : x ∈ xs) : u.allocatedBy x.2 = s.allocatedBy x.2 := by
      rw [State.allocatedBy, State.allocatedBy, hread, if_neg (hlater x hx)]
    refine ⟨fun x hx y hy => ?_, fun n hn => ?_, fun n y hn hy g hg => ?_, ?_, ?_⟩
    · rcases List.mem_cons.1 hx with rfl | hx
      · obtain rfl : y = e := Option.some.inj (hy.symm.trans he)
        have hentry : u.entryAt h.slot = some (y.undone h (s.history.undo h.facts h.lift y.chain).1) := by rw [hread, if_pos rfl]
        refine ⟨(hrolled.entries h.slot hlater).trans hentry, ?_⟩
        have hsame := (huok.chains _ _ hentry).congr (huok.parts_of_entry hus hentry).nodup
          (hrolled.granules h.slot _ hlater hentry)
        exact hsame.2.2.trans (congrArg (History.records · _) hhistory)
      · have hne := hlater x hx
        have hentry : u.entryAt x.2.slot = some y := by rw [hread, if_neg hne, hy]
        obtain ⟨hlane, hopen⟩ := State.RollsBack.open_cons hq hr x hx
        have hopen' := hr.opened x hx
        obtain ⟨hfirst, hrecords⟩ := hrolled.undone x hx y hentry
        have hparts := hok.parts_of_entry hs hy
        obtain ⟨hchain, hgranules⟩ := hparts.undo_local (hkept _ y hne hy) (hchains _ y hne hy) x.2.facts x.2.lift
        have hun := hok.undone hs hopen hy
        have hun' := huok.undone hus hopen' hentry
        rw [hchain] at hfirst hrecords
        refine ⟨hfirst, hrecords.trans ?_⟩
        exact (hun.parts.chain.congr hun.parts.nodup fun g hg => hgranules g (hun.own hg)).2.2
    · rw [hrolled.entries n fun x hx => hn x (List.mem_cons_of_mem _ hx), hread, if_neg (hn (l, h) List.mem_cons_self).symm]
    · have hne : n ≠ h.slot := (hn (l, h) List.mem_cons_self).symm
      have hentry : u.entryAt n = some y := by rw [hread, if_neg hne, hy]
      rw [hrolled.granules n y (fun x hx => hn x (List.mem_cons_of_mem _ hx)) hentry g (by rwa [hchains n y hne hy]), hkept n y hne hy g hg]
    · rw [hrolled.free, hhistory, hundone.free, List.reverse_cons, List.filterMap_append, List.append_assoc,
        List.filterMap_congr fun x hx => hallocated x (List.mem_reverse.1 hx), List.filterMap_cons, State.allocatedBy_of_entry he]
      split <;> rfl
    · obtain ⟨c, hc⟩ | hnot : (∃ c, e.chain = some c) ∨ (h.facts.recordWritten && h.facts.granuleAllocated) = false := by
        cases hw : h.facts.recordWritten
        · exact .inr rfl
        · obtain ⟨c, hc, -⟩ := (hok.facts l h e hhold he).2.2.1 hw
          exact .inl ⟨c, hc⟩
      · rw [hrolled.full, hhistory, hundone.full, List.filterMap_congr hallocated, List.filterMap_cons, State.allocatedBy_of_entry he, hc]
        cases h.facts.recordWritten && h.facts.granuleAllocated <;> simp
      · rw [hrolled.full, hhistory, hundone.full, List.filterMap_congr hallocated, List.filterMap_cons, State.allocatedBy_of_entry he, hnot]
        simp

end Sys2Proof.Machine

/-! The warm reset (R93, R102, R126, R141, R168, R173, R188, R195). -/

namespace Sys2Proof.Machine

variable {s t : State}

/-! ### The order of the rollbacks -/

theorem insertHold_sorted {x : Lane × Hold} {l : List (Lane × Hold)} (h : l.Pairwise fun a b => b.2.order ≤ a.2.order) :
    (insertHold x l).Pairwise fun a b => b.2.order ≤ a.2.order := by
  induction l with
  | nil => simp [insertHold]
  | cons y rest ih =>
    obtain ⟨hy, hrest⟩ := List.pairwise_cons.1 h
    rw [insertHold]
    split
    next hle =>
      refine List.pairwise_cons.2 ⟨fun z hz => ?_, h⟩
      rcases List.mem_cons.1 hz with rfl | hz
      · exact hle
      · exact (hy z hz).trans hle
    next hgt =>
      refine List.pairwise_cons.2 ⟨fun z hz => ?_, ih hrest⟩
      rcases List.mem_cons.1 ((insertHold_perm x rest).mem_iff.1 hz) with rfl | hz
      · omega
      · exact hy z hz

theorem newestFirst_sorted (l : List (Lane × Hold)) : (newestFirst l).Pairwise fun a b => b.2.order ≤ a.2.order := by
  induction l with
  | nil => exact .nil
  | cons x rest ih => exact insertHold_sorted ih

/-- In the order of their grants, the open holds have rising grant numbers (R83, R93). -/
theorem State.HoldsOk.newestFirst_rising (hh : s.HoldsOk) : (newestFirst s.openHolds).reverse.Pairwise fun x y => x.2.order < y.2.order := by
  rw [List.pairwise_reverse]
  obtain ⟨hnodup, hmem⟩ := s.newestFirst_spec
  refine ((newestFirst_sorted s.openHolds).and (List.pairwise_map.1 hnodup)).imp_of_mem fun {x y} hx hy hxy => ?_
  have hne : y.2.order ≠ x.2.order := fun heq => hxy.2
    (hh.orders x.1 y.1 x.2 y.2 ((hmem x.1 x.2).1 hx) ((hmem y.1 y.2).1 hy) heq.symm)
  have hle := hxy.1
  omega

/-! ### The rollbacks of a warm reset -/

theorem State.rollsBack_foldl (xs : List (Lane × Hold)) (s : State) (hnodup : (xs.map Prod.fst).Nodup)
    (hopen : ∀ x ∈ xs, (s.lane x.1).hold = some x.2) :
    s.RollsBack xs (xs.foldl (fun t x => (t.undoGrant x.1 x.2).countDayOnly x.1 .released) s) := by
  induction xs generalizing s with
  | nil => exact .nil (.refl s)
  | cons x xs ih =>
    simp only [List.map_cons, List.nodup_cons] at hnodup
    refine .cons (hopen x List.mem_cons_self) (.refl _) (ih _ hnodup.2 fun y hy => ?_)
    have hne : y.1 ≠ x.1 := fun he => hnodup.1 (he ▸ List.mem_map_of_mem (f := Prod.fst) hy)
    simpa [hne] using hopen y (List.mem_cons_of_mem _ hy)

theorem State.rollBackAll_rollsBack (s : State) : s.RollsBack (newestFirst s.openHolds) s.rollBackAll :=
  s.rollsBack_foldl _ s.newestFirst_spec.1 fun x hx => (s.newestFirst_spec.2 x.1 x.2).1 hx

theorem State.warmReset_store (s : State) : s.warmReset.slots = s.rollBackAll.slots ∧ s.warmReset.history = s.rollBackAll.history := by
  simp [State.warmReset]

/-- The warm reset is, of the pass store and the use history, the rollbacks of the open holds (R93). -/
theorem State.warmReset_rolledBack (hs : s.StoreOk) (hh : s.HoldsOk) (hok : s.HistoryOk) :
    s.RolledBack s.warmReset (newestFirst s.openHolds) :=
  (s.rollBackAll_rollsBack.rolledBack hs hh hok).congr ⟨rfl, rfl⟩ s.warmReset_store

/-! ### The counters of a warm reset -/

/-- Counting events of the released counters of different lanes, in the day set alone (R93, R141). -/
theorem State.rollBacks_counts (xs : List (Lane × Hold)) (s : State) (hnodup : (xs.map Prod.fst).Nodup) :
    ∃ day, (xs.foldl (fun t x => (t.undoGrant x.1 x.2).countDayOnly x.1 .released) s).counts = { s.counts with day := day }
      ∧ (∀ l, day.lane l .released = if l ∈ xs.map Prod.fst then bump Config.dayTop (s.dayCount l .released) else s.dayCount l .released)
      ∧ (∀ l k, k ≠ .released → day.lane l k = s.dayCount l k) ∧ ∀ f k, day.lift f k = s.counts.day.lift f k := by
  induction xs generalizing s with
  | nil => exact ⟨s.counts.day, rfl, fun l => rfl, fun l k _ => rfl, fun f k => rfl⟩
  | cons x xs ih =>
    simp only [List.map_cons, List.nodup_cons] at hnodup
    obtain ⟨day, hcounts, hreleased, hothers, hlifts⟩ := ih ((s.undoGrant x.1 x.2).countDayOnly x.1 .released) hnodup.2
    have hundo : (s.undoGrant x.1 x.2).counts = s.counts := by simp
    have hday (l : Lane) (k : LaneCounter) : ((s.undoGrant x.1 x.2).countDayOnly x.1 .released).dayCount l k
        = if (l, k) = (x.1, .released) then bump Config.dayTop (s.dayCount x.1 .released) else s.dayCount l k := by
      rw [State.dayCount_countDayOnly, State.dayCount_congr hundo, State.dayCount_congr hundo]
    refine ⟨day, by rw [List.foldl_cons, hcounts]; simp, fun l => ?_, fun l k hk => ?_, fun f k => ?_⟩
    · rw [hreleased, hday]
      by_cases hl : l = x.1
      · subst hl
        rw [if_neg hnodup.1, if_pos rfl, if_pos (by simp)]
      · have hmem : l ∈ (x :: xs).map Prod.fst ↔ l ∈ xs.map Prod.fst := by simp only [List.map_cons, List.mem_cons, hl, false_or]
        simp only [hmem, Prod.mk.injEq, hl, false_and, if_false]
    · rw [hothers l k hk, hday, if_neg (by simp [hk])]
    · rw [hlifts]
      simp

theorem State.rollBackAll_counts (s : State) : ∃ day, s.rollBackAll.counts = { s.counts with day := day }
    ∧ (∀ l, day.lane l .released = if (s.lane l).hold.isSome then bump Config.dayTop (s.dayCount l .released) else s.dayCount l .released)
    ∧ (∀ l k, k ≠ .released → day.lane l k = s.dayCount l k) ∧ ∀ f k, day.lift f k = s.counts.day.lift f k := by
  obtain ⟨hnodup, hmem⟩ := s.newestFirst_spec
  obtain ⟨day, hcounts, hreleased, hothers, hlifts⟩ := State.rollBacks_counts (newestFirst s.openHolds) s hnodup
  have hopen (l : Lane) : l ∈ (newestFirst s.openHolds).map Prod.fst ↔ (s.lane l).hold.isSome = true := by
    simp only [List.mem_map, Prod.exists, exists_and_right, exists_eq_right, hmem, Option.isSome_iff_exists]
  refine ⟨day, hcounts, fun l => ?_, hothers, hlifts⟩
  rw [hreleased]
  simp only [hopen]

/-! ### Each block after a warm reset -/

theorem State.warmReset_lane (s : State) (l : Lane) : s.warmReset.lane l
    = { state := .work .closed, profile := (s.lane l).profile, dwell := none, unreadRun := 0, hold := none, late := none } := by
  simp [State.warmReset, LaneRec.warm, State.rollBackAll_lane]

theorem State.warmReset_lift (s : State) (f : Lift) : s.warmReset.lift f
    = { established := .stopped, previous := none, rate := (s.lift f).rate, burst := (s.lift f).burst, level := 60 * (s.lift f).burst } := by
  simp [State.warmReset, LiftRec.warm, LiftRec.capacity]

theorem State.warmReset_counts (s : State) : s.warmReset.counts = s.rollBackAll.counts.warm := by
  simp [State.warmReset]

theorem State.warmReset_arbiter (s : State) : s.warmReset.arbiter = { s.arbiter with expiries := [], burst := 0 } := by
  simp [State.warmReset, Arbiter.warm]

theorem State.warmReset_sweep (s : State) : s.warmReset.sweep = { s.sweep with
    walk := s.sweep.walk.map fun _ => { cursor := 0, urgency := if s.freeSlots < s.sweep.floor then .must 0 else .may } } := by
  have hlow : s.warmReset.sweep = if s.freeSlots < s.sweep.floor then { s.sweep.warm with walk := mustWalk s.sweep.warm.walk }
      else s.sweep.warm := by
    simp [State.warmReset, State.tableLowTest_sweep, State.tableLow, Sweep.warm]
  rw [hlow]
  split
  · cases hwalk : s.sweep.walk <;> simp [Sweep.warm, mustWalk, hwalk]
  · rfl

/-- Every flag is clear after a warm reset but RESTARTED at the office (R188, R195). -/
theorem State.warmReset_flagged (s : State) (p : Port) (e : Event) :
    (s.warmReset.port p).flagged e = true ↔ p = .office ∧ e = .device .restarted := by
  rw [State.warmReset_port]
  by_cases hp : p = .office
  · rw [if_pos hp, PortRec.withFlag_flagged]
    simp [hp, PortRec.warm, PortRec.flagged]
  · rw [if_neg hp]
    simp [hp, PortRec.warm, PortRec.flagged]

/-- What a warm reset leaves of a port (R188, R195). -/
theorem State.warmReset_kept (s : State) (p : Port) : (s.warmReset.port p).requests = [] ∧ (s.warmReset.port p).responses = []
    ∧ (s.warmReset.port p).restarted = true ∧ (s.warmReset.port p).masks = (s.port p).masks
    ∧ (s.warmReset.port p).edges = (s.port p).edges ∧ (s.warmReset.port p).dataOut = (s.port p).dataOut
    ∧ (s.warmReset.port p).transaction = (s.port p).transaction.map Transaction.cut := by
  rw [State.warmReset_port]
  by_cases hp : p = .office
  · subst hp
    exact ⟨rfl, rfl, rfl, rfl, rfl, rfl, rfl⟩
  · rw [if_neg hp]
    exact ⟨rfl, rfl, rfl, rfl, rfl, rfl, rfl⟩

/-! ### RESTART -/

theorem checkFrame_restart (tag : Byte) : checkFrame .office { kind := 48, tag := tag, payload := [] } 0 = none := rfl

/-- A RESTART that the office port can take makes a warm reset at once, whatever bytes follow (R184, R188). -/
theorem State.send_restart {tag : Byte} {bytes : Piece (List Byte)} {extra : List Byte} (htake : s.canTake .office)
    (hin : s.shiftedIn .office bytes = some ([48, tag, 0] ++ extra)) : s.send .office bytes = (s.sent .office bytes .over).warmReset := by
  have hframe : sentFrame ([48, tag, 0] ++ extra) = some ({ kind := 48, tag := tag, payload := [] }, 0) := by
    have hwhole := sentFrame_of_whole (kind := 48) (tag := tag) (len := 0) (payload := []) extra (by decide) rfl
    exact hwhole
  rw [((State.send_of_shiftedIn hin).2 _ _ hframe).2 htake]
  exact State.takeFrame_of_restart (checkFrame_restart tag) rfl

/-! ### The obligation -/

/-- Settles O9: block by block, with `State.warmReset_rolledBack` for the pass store and the use history. -/
theorem warmResetByLineAndRestart : Obligations.WarmResetByLineAndRestart := by
  unfold Obligations.WarmResetByLineAndRestart
  refine ⟨fun s tag => ?_, fun s => ?_, fun s hs hh hok => ?_⟩
  · refine ⟨fun h => congrArg Host.Outcome.next (if_neg (by simp [h])), fun h => congrArg Host.Outcome.next (if_pos h), rfl, rfl,
      fun htake => ?_, fun bytes extra htake hin => congrArg Host.Outcome.next (State.send_restart htake hin)⟩
    exact congrArg Host.Outcome.next (State.send_restart (extra := []) htake rfl)
  · obtain ⟨day, hcounts, hreleased, hothers, hlifts⟩ := s.rollBackAll_counts
    have hwarm : s.warmReset.counts = CountUnit.warm { s.counts with day := day } := s.warmReset_counts.trans (congrArg _ hcounts)
    have hday (l : Lane) (k : LaneCounter) : s.warmReset.dayCount l k = day.lane l k := by rw [State.dayCount, hwarm]; rfl
    refine ⟨fun p => ?_, s.warmReset_lane, s.warmReset_lift, ?_, fun l => (hday l _).trans (hreleased l),
      fun l k hk => (hday l k).trans (hothers l k hk), fun f k => ?_, by rw [hwarm]; rfl, by rw [hwarm]; rfl, by rw [hwarm]; rfl,
      by rw [hwarm]; rfl, by rw [hwarm]; rfl, by rw [hwarm]; rfl, by rw [hwarm]; rfl, ?_, s.warmReset_arbiter, s.warmReset_sweep,
      s.warmReset_onlyChanges⟩
    · obtain ⟨h1, h2, h3, h4, h5, h6, htransaction⟩ := s.warmReset_kept p
      refine ⟨h1, h2, h3, h4, h5, h6, htransaction.trans ?_, s.warmReset_flagged p⟩
      rcases (s.port p).transaction with _ | (_ | _ | _) <;> rfl
    · simp [hwarm, CountUnit.warm]
    · rw [hwarm, ← hlifts]
      rfl
    · rw [hwarm]
      cases hmode : s.counts.mode <;> simp [CountUnit.warm, CountUnit.loaded, hmode, Nat.mul_comm]
  · intro t
    obtain ⟨hundone, hentries, hgranules, hfree, hfull⟩ := State.warmReset_rolledBack hs hh hok
    obtain ⟨-, hmem⟩ := s.newestFirst_spec
    have hslots (n : Nat) (hn : ∀ l h, (s.lane l).hold = some h → h.slot ≠ n) : ∀ x ∈ newestFirst s.openHolds, x.2.slot ≠ n :=
      fun x hx => hn x.1 x.2 ((hmem x.1 x.2).1 hx)
    refine ⟨fun l h e hhold he => hundone (l, h) ((hmem l h).2 hhold) e he, fun n hn => ⟨hentries n (hslots n hn), fun e he => ⟨?_, ?_⟩⟩,
      (newestFirst s.openHolds).reverse, hh.newestFirst_rising, fun l h => List.mem_reverse.trans (hmem l h), hfree, ?_⟩
    · exact ((hok.chains n e he).congr (hok.parts_of_entry hs he).nodup (hgranules n e (hslots n hn) he)).2.2
    · exact hgranules n e (hslots n hn) he
    · refine hfull.trans (congrArg _ ?_)
      rw [List.filterMap_reverse, List.isEmpty_reverse]
      rfl

end Sys2Proof.Machine

/-! The releases of several lanes (R92, R105). -/

namespace Sys2Proof.Machine

variable {s t : State}

/-- The open holds of these lanes, with their lanes. -/
def State.holdsOf (s : State) (ls : List Lane) : List (Lane × Hold) := ls.filterMap fun l => (s.lane l).hold.map fun h => (l, h)

theorem State.mem_holdsOf {ls : List Lane} {x : Lane × Hold} : x ∈ s.holdsOf ls ↔ x.1 ∈ ls ∧ (s.lane x.1).hold = some x.2 := by
  obtain ⟨l, h⟩ := x
  simp only [State.holdsOf, List.mem_filterMap, Option.map_eq_some_iff, Prod.mk.injEq]
  exact ⟨fun ⟨m, hm, k, hk, hml, hkh⟩ => hml ▸ hkh ▸ ⟨hm, hk⟩, fun ⟨hl, hh⟩ => ⟨l, hl, h, hh, rfl, rfl⟩⟩

theorem State.holdsOf_congr {ls : List Lane} (h : ∀ l ∈ ls, (t.lane l).hold = (s.lane l).hold) : t.holdsOf ls = s.holdsOf ls :=
  List.filterMap_congr fun l hl => by rw [h l hl]

theorem State.holdsOf_filterMap {α : Type} (s : State) (ls : List Lane) (g : Hold → Option α) :
    (s.holdsOf ls).filterMap (fun x => g x.2) = ls.filterMap fun l => (s.lane l).hold.bind g := by
  rw [State.holdsOf, List.filterMap_filterMap]
  exact List.filterMap_congr fun l _ => by cases (s.lane l).hold <;> rfl

/-- The releases of lanes, one after the other (R105). -/
def State.releaseAll (s : State) (ls : List Lane) : State := ls.foldl State.releaseHold s

theorem State.releaseAll_cons (s : State) (l : Lane) (ls : List Lane) : s.releaseAll (l :: ls) = (s.releaseHold l).releaseAll ls := rfl

theorem State.releaseAll_rollsBack (ls : List Lane) (s : State) (hnodup : ls.Nodup) : s.RollsBack (s.holdsOf ls) (s.releaseAll ls) := by
  induction ls generalizing s with
  | nil => exact .nil (.refl s)
  | cons l ls ih =>
    obtain ⟨hl, hnodup⟩ := List.nodup_cons.1 hnodup
    have hrest : (s.releaseHold l).holdsOf ls = s.holdsOf ls := State.holdsOf_congr fun m hm => by
      rw [State.releaseHold_lane, if_neg fun he : m = l => hl (he ▸ hm)]
    rw [State.releaseAll_cons]
    cases hh : (s.lane l).hold with
    | none =>
      have hsame : s.holdsOf (l :: ls) = s.holdsOf ls := by simp [State.holdsOf, hh]
      rw [hsame, State.releaseHold_of_none hh]
      exact ih s hnodup
    | some h =>
      have hfirst : s.holdsOf (l :: ls) = (l, h) :: s.holdsOf ls := by simp [State.holdsOf, hh]
      have hquiet : ((s.undoGrant l h).countDayOnly l .released).Quiet (s.releaseHold l) := by
        rw [State.releaseHold_of_hold hh]
        exact ((s.rollback_quiet l h).countDayOnly l _).trans (State.countDayOnly_quiet_countLane _ _ _)
      rw [hfirst]
      exact .cons hh hquiet (hrest ▸ ih _ hnodup)

theorem State.releaseAll_lane (ls : List Lane) (s : State) (m : Lane) :
    (s.releaseAll ls).lane m = if m ∈ ls then { s.lane m with hold := none } else s.lane m := by
  induction ls generalizing s with
  | nil => simp [State.releaseAll]
  | cons l ls ih =>
    rw [State.releaseAll_cons, ih, State.releaseHold_lane]
    by_cases hm : m = l
    · subst hm
      simp
    · simp [hm]

/-- Counting is of the counters listed, in any order. -/
theorem State.Counts.of_mem {ls ls' : List (Lane × LaneCounter)} {fs : List (Lift × LiftCounter)} (h : s.Counts t ls fs)
    (hmem : ∀ x, x ∈ ls ↔ x ∈ ls') : s.Counts t ls' fs := by
  simp only [State.Counts, hmem] at h
  exact h

theorem State.releaseAll_counts (ls : List Lane) (s : State) (hnodup : ls.Nodup) (hopen : ∀ l ∈ ls, (s.lane l).hold.isSome = true) :
    s.Counts (s.releaseAll ls) (ls.map fun l => (l, .released)) [] := by
  induction ls generalizing s with
  | nil => exact .none rfl
  | cons l ls ih =>
    obtain ⟨hl, hnodup⟩ := List.nodup_cons.1 hnodup
    obtain ⟨h, hh⟩ := Option.isSome_iff_exists.1 (hopen l List.mem_cons_self)
    have hrest := ih (s.releaseHold l) hnodup fun m hm => by
      rw [State.releaseHold_lane, if_neg fun he : m = l => hl (he ▸ hm)]
      exact hopen m (List.mem_cons_of_mem _ hm)
    exact (State.releaseHold_counts hh).trans hrest (by simpa using fun m hm (he : m = l) => hl (he ▸ hm)) (by simp)

/-- Each release returns 60 pace units to the lift of its hold, up to the capacity (R89). -/
theorem State.releaseAll_lift (ls : List Lane) (s : State) (hnodup : ls.Nodup) (f : Lift) (hok : (s.lift f).level ≤ 60 * (s.lift f).burst) :
    (s.releaseAll ls).lift f = { s.lift f with
      level := min ((s.lift f).level + 60 * (ls.filter fun l => (s.lane l).hold.any fun h => h.lift == f).length) (60 * (s.lift f).burst) } := by
  induction ls generalizing s with
  | nil =>
    have hmin : min (s.lift f).level (60 * (s.lift f).burst) = (s.lift f).level := Nat.min_eq_left hok
    simp [State.releaseAll, hmin]
  | cons l ls ih =>
    obtain ⟨hl, hnodup⟩ := List.nodup_cons.1 hnodup
    have hfilter : (ls.filter fun m => ((s.releaseHold l).lane m).hold.any fun h => h.lift == f)
        = ls.filter fun m => (s.lane m).hold.any fun h => h.lift == f :=
      List.filter_congr fun m hm => by rw [State.releaseHold_lane, if_neg fun he : m = l => hl (he ▸ hm)]
    have hlift : (s.releaseHold l).lift f = { s.lift f with
        level := min ((s.lift f).level + if ((s.lane l).hold.any fun h => h.lift == f) then 60 else 0) (60 * (s.lift f).burst) } := by
      have hmin : min (s.lift f).level (60 * (s.lift f).burst) = (s.lift f).level := Nat.min_eq_left hok
      cases hh : (s.lane l).hold with
      | none => simp [State.releaseHold_of_none hh, hmin]
      | some h =>
        rw [State.releaseHold_lift hh]
        by_cases hf : h.lift = f
        · simp [hf]
        · simp [hf, Ne.symm hf, hmin]
    rw [State.releaseAll_cons, ih _ hnodup (by rw [hlift]; exact Nat.min_le_right _ _), hfilter, hlift, List.filter_cons]
    cases (s.lane l).hold.any fun h => h.lift == f with
    | false =>
      simp only [Bool.false_eq_true, if_false, LiftRec.mk.injEq, true_and]
      omega
    | true =>
      simp only [if_true, List.length_cons, LiftRec.mk.injEq, true_and]
      omega

end Sys2Proof.Machine

/-! What a SET_LANE writes at each lane, once the holds that it ends are released (R104, R106, R108). -/

namespace Sys2Proof.Machine

variable {s t : State} {l : Lane} {code : Option WorkState}

/-- Whether a SET_LANE changes the state of a lane (R106). -/
def LaneRec.moves (r : LaneRec) (code : Option WorkState) : Bool :=
  match r.state with
  | .fault _ => false
  | .work w => code.any (· != w)

/-- The state of a lane after a SET_LANE (R106). -/
def LaneState.named (x : LaneState) (code : Option WorkState) : LaneState :=
  match code, x with
  | none, x => x
  | some w, .fault _ => .fault w
  | some w, .work _ => .work w

/-- A lane that a SET_LANE writes, of whose hold the release has disposed (R104, R106). -/
def LaneRec.written (r : LaneRec) (code : Option WorkState) (p : Profile) : LaneRec :=
  { r with state := r.state.named code, dwell := if r.moves code then none else r.dwell, profile := p }

theorem State.nameState_of_keep : s.nameState l none = s := rfl

theorem State.nameState_of_fault {w x : WorkState} (h : (s.lane l).state = .fault x) :
    s.nameState l (some w) = s.modLane l fun r => { r with state := .fault w } := by
  simp [State.nameState, h]

theorem State.nameState_of_same {w : WorkState} (h : (s.lane l).state = .work w) : s.nameState l (some w) = s := by
  simp [State.nameState, h]

theorem State.nameState_of_other {w x : WorkState} (h : (s.lane l).state = .work x) (hne : x ≠ w) :
    s.nameState l (some w) = s.moveLane l (.work w) none := by
  simp [State.nameState, h, hne]

/-- A lane that is not to lose its hold has none, where it leaves NORMAL. -/
theorem State.hold_of_kept {w : WorkState} (hkept : s.losesHold (some w) l = false) (h : (s.lane l).state = .work .normal) (hne : .normal ≠ w) :
    (s.lane l).hold = none := by
  simpa [State.losesHold, h, Ne.symm hne] using hkept

/-- What the naming of a state writes at a lane that is not to lose its hold (R104, R106). -/
theorem State.nameState_lane (hkept : s.losesHold code l = false) (m : Lane) : (s.nameState l code).lane m = if m = l then
      { s.lane l with state := (s.lane l).state.named code, dwell := if (s.lane l).moves code then none else (s.lane l).dwell }
    else s.lane m := by
  cases code with
  | none =>
    have hsame : (s.lane l).moves none = false := by cases h : (s.lane l).state <;> simp [LaneRec.moves, h]
    rw [State.nameState_of_keep, hsame]
    split
    next hm => rw [hm]; rfl
    · rfl
  | some w =>
    cases h : (s.lane l).state with
    | fault x => simp [State.nameState_of_fault h, LaneRec.moves, h, LaneState.named]
    | work x =>
      by_cases hne : x = w
      · subst hne
        have hsame : (s.lane l).moves (some x) = false := by simp [LaneRec.moves, h]
        rw [State.nameState_of_same h, hsame]
        split
        next hm => rw [hm]; simp [LaneState.named, ← h]
        · rfl
      · have hmoves : (s.lane l).moves (some w) = true := by simpa [LaneRec.moves, h] using Ne.symm hne
        rw [State.nameState_of_other h hne, State.moveLane_lane, hmoves]
        split
        · split
          next hnormal =>
            have hx : x = .normal := by simpa [h] using hnormal
            rw [← State.hold_of_kept hkept hnormal (hx ▸ hne)]
            rfl
          · rfl
        · rfl

/-- The naming of a state is nothing to the store, the lifts and the counters, at a lane that is not to lose its hold. -/
theorem State.nameState_store (hkept : s.losesHold code l = false) : (s.nameState l code).slots = s.slots
    ∧ (s.nameState l code).history = s.history ∧ (s.nameState l code).lifts = s.lifts ∧ (s.nameState l code).counts = s.counts := by
  cases code with
  | none => exact ⟨rfl, rfl, rfl, rfl⟩
  | some w =>
    cases h : (s.lane l).state with
    | fault x => simp [State.nameState_of_fault h]
    | work x =>
      by_cases hne : x = w
      · subst hne
        rw [State.nameState_of_same h]
        exact ⟨rfl, rfl, rfl, rfl⟩
      · rw [State.nameState_of_other h hne]
        by_cases hnormal : (s.lane l).state = .work .normal
        · have hx : x = .normal := by simpa [h] using hnormal
          have hrelease := s.moveLane_of_normal l (.work w) none hnormal
          rwa [State.releaseHold_of_none (State.hold_of_kept hkept hnormal (hx ▸ hne))] at hrelease
        · exact s.moveLane_of_other l (.work w) none hnormal

/-- A change of lane state is handed over (R190). -/
theorem State.nameState_flagged (hmoves : (s.lane l).moves code = true) {p : Port} (hp : p = .office ∨ p = gateOf l)
    (hedge : (s.lane l).state = .work .normal ∨ (s.port p).edges.laneState = .any) :
    ((s.nameState l code).port p).flagged (.laneState l) = true := by
  cases code with
  | none => cases h : (s.lane l).state <;> simp [LaneRec.moves, h] at hmoves
  | some w =>
    cases h : (s.lane l).state with
    | fault x => simp [LaneRec.moves, h] at hmoves
    | work x =>
      have hne : x ≠ w := fun he => by simp [LaneRec.moves, h, he] at hmoves
      have hreached : (p == .office || p == gateOf l) = true := by simpa using hp
      rw [State.nameState_of_other h hne, State.moveLane_flagged, hreached]
      rcases hedge with hnormal | hany
      · have hx : x = .normal := by simpa [h] using hnormal
        subst hx
        have hw : (LaneState.work w != .work .normal) = true := by simpa using Ne.symm hne
        rw [h, hw]
        simp [Edge.takes]
      · simp [hany, Edge.takes]

/-! ### One lane -/

/-- What a SET_LANE writes at one lane (R105, R106, R108). -/
def State.writeLane (s : State) (code : Option WorkState) (p : Profile) (l : Lane) : State := (s.nameState l code).writeProfile l p

theorem State.writeLane_lane (hkept : s.losesHold code l = false) (p : Profile) (m : Lane) :
    (s.writeLane code p l).lane m = if m = l then (s.lane l).written code p else s.lane m := by
  rw [State.writeLane, State.writeProfile_lane, State.nameState_lane hkept, State.nameState_lane hkept, if_pos rfl]
  split <;> rfl

theorem State.writeLane_store (hkept : s.losesHold code l = false) (p : Profile) : (s.writeLane code p l).slots = s.slots
    ∧ (s.writeLane code p l).history = s.history ∧ (s.writeLane code p l).lifts = s.lifts ∧ (s.writeLane code p l).counts = s.counts := by
  simpa [State.writeLane] using State.nameState_store hkept

theorem State.Raised.writeLane (h : s.Raised t) (code : Option WorkState) (p : Profile) (l : Lane) : s.Raised (t.writeLane code p l) :=
  (h.nameState l code).writeProfile l p

/-! ### Every lane of a SET_LANE -/

/-- The writes of a SET_LANE at its lanes, one after the other (R105). -/
def State.writeLanes (s : State) (code : Option WorkState) (p : Profile) (ls : List Lane) : State :=
  ls.foldl (fun t l => t.writeLane code p l) s

theorem State.losesHold_congr {m : Lane} (h : t.lane m = s.lane m) : t.losesHold code m = s.losesHold code m := by
  simp only [State.losesHold, h]

theorem State.Raised.writeLanes (code : Option WorkState) (p : Profile) (ls : List Lane) (s : State) : s.Raised (s.writeLanes code p ls) := by
  induction ls generalizing s with
  | nil => exact .refl s
  | cons l ls ih => exact ((State.Raised.refl s).writeLane code p l).trans (ih _)

section

variable {p : Profile}

/-- The lanes that come after one that is written are not to lose their holds either. -/
theorem State.kept_after {ls : List Lane} (hl : l ∉ ls) (hkept : ∀ m ∈ l :: ls, s.losesHold code m = false) :
    ∀ m ∈ ls, (s.writeLane code p l).losesHold code m = false := by
  intro m hm
  have hlane : (s.writeLane code p l).lane m = s.lane m := by
    rw [State.writeLane_lane (hkept l List.mem_cons_self), if_neg fun he : m = l => hl (he ▸ hm)]
  rw [State.losesHold_congr hlane]
  exact hkept m (List.mem_cons_of_mem _ hm)

theorem State.writeLanes_lane (ls : List Lane) (s : State) (hnodup : ls.Nodup) (hkept : ∀ l ∈ ls, s.losesHold code l = false) (m : Lane) :
    (s.writeLanes code p ls).lane m = if m ∈ ls then (s.lane m).written code p else s.lane m := by
  induction ls generalizing s with
  | nil => simp [State.writeLanes]
  | cons l ls ih =>
    obtain ⟨hl, hnodup⟩ := List.nodup_cons.1 hnodup
    have hfirst := State.writeLane_lane (hkept l List.mem_cons_self) p m
    refine (ih _ hnodup (State.kept_after hl hkept)).trans ?_
    rw [hfirst]
    by_cases hm : m = l
    · subst hm
      simp [hl]
    · simp [hm]

theorem State.writeLanes_store (ls : List Lane) (s : State) (hnodup : ls.Nodup) (hkept : ∀ l ∈ ls, s.losesHold code l = false) :
    (s.writeLanes code p ls).slots = s.slots ∧ (s.writeLanes code p ls).history = s.history
      ∧ (s.writeLanes code p ls).lifts = s.lifts ∧ (s.writeLanes code p ls).counts = s.counts := by
  induction ls generalizing s with
  | nil => exact ⟨rfl, rfl, rfl, rfl⟩
  | cons l ls ih =>
    obtain ⟨hl, hnodup⟩ := List.nodup_cons.1 hnodup
    obtain ⟨h1, h2, h3, h4⟩ := State.writeLane_store (hkept l List.mem_cons_self) p
    obtain ⟨h1', h2', h3', h4'⟩ := ih _ hnodup (State.kept_after hl hkept)
    exact ⟨h1'.trans h1, h2'.trans h2, h3'.trans h3, h4'.trans h4⟩

/-- Every change of lane state is handed over at the ports that it reaches (R190). -/
theorem State.writeLanes_flagged (ls : List Lane) (s : State) (hnodup : ls.Nodup) (hkept : ∀ l ∈ ls, s.losesHold code l = false)
    (hl : l ∈ ls) (hmoves : (s.lane l).moves code = true) {q : Port} (hq : q = .office ∨ q = gateOf l)
    (hedge : (s.lane l).state = .work .normal ∨ (s.port q).edges.laneState = .any) :
    ((s.writeLanes code p ls).port q).flagged (.laneState l) = true := by
  induction ls generalizing s with
  | nil => cases hl
  | cons m ls ih =>
    obtain ⟨hm, hnodup⟩ := List.nodup_cons.1 hnodup
    by_cases hlm : l = m
    · subst hlm
      have hnamed := State.nameState_flagged hmoves hq hedge
      have hlater : (s.nameState l code).Raised (s.writeLanes code p (l :: ls)) :=
        ((State.Raised.refl _).writeProfile l p).trans (State.Raised.writeLanes code p ls _)
      exact PortRec.flagged_iff.2 ((hlater q).kept _ (PortRec.flagged_iff.1 hnamed))
    · have hlane : (s.writeLane code p m).lane l = s.lane l := by
        rw [State.writeLane_lane (hkept m List.mem_cons_self), if_neg hlm]
      have hedges : ((s.writeLane code p m).port q).edges = (s.port q).edges := (((State.Raised.refl s).writeLane code p m) q).edges
      exact ih _ hnodup (State.kept_after hm hkept) (List.mem_of_ne_of_mem hlm hl) (hlane ▸ hmoves) (by rwa [hlane, hedges])

end

end Sys2Proof.Machine

/-! SET_LANE (R92, R104, R105, R106, R108). -/

namespace Sys2Proof.Machine

variable {s t : State} {l : Lane} {code : Option WorkState} {p : Profile} {ls : List Lane}

/-! ### The work of a SET_LANE -/

/-- The lanes of a SET_LANE that lose their holds, in the free order of their rollbacks (R92, log entry 3). -/
def State.losing (s : State) (ls : List Lane) (code : Option WorkState) : List Lane := s.freeOrder (ls.filter (s.losesHold code))

theorem State.losing_perm (s : State) (ls : List Lane) (code : Option WorkState) : (s.losing ls code).Perm (ls.filter (s.losesHold code)) :=
  s.freeOrder_perm _

theorem State.mem_losing : l ∈ s.losing ls code ↔ l ∈ ls ∧ s.losesHold code l = true := by
  rw [(s.losing_perm ls code).mem_iff, List.mem_filter]

theorem State.losing_nodup (h : ls.Nodup) : (s.losing ls code).Nodup := (s.losing_perm ls code).nodup_iff.2 (h.filter _)

/-- The state of a SET_LANE between the releases and the writes. -/
def State.released (s : State) (ls : List Lane) (code : Option WorkState) : State :=
  (s.releaseAll (s.losing ls code)).drewOrder (ls.filter (s.losesHold code))

theorem State.setLanes_eq : s.setLanes ls code p = (s.released ls code).writeLanes code p ls := rfl

theorem State.released_lane (m : Lane) : (s.released ls code).lane m
    = if m ∈ s.losing ls code then { s.lane m with hold := none } else s.lane m := by
  rw [← State.releaseAll_lane]
  simp [State.released]

theorem State.released_kept : ∀ l ∈ ls, (s.released ls code).losesHold code l = false := by
  intro l hl
  by_cases hlose : s.losesHold code l = true
  · simp [State.losesHold, State.released_lane, State.mem_losing.2 ⟨hl, hlose⟩]
  · have hnot : l ∉ s.losing ls code := fun h => hlose (State.mem_losing.1 h).2
    exact (State.losesHold_congr (s := s) (by rw [State.released_lane, if_neg hnot])).trans (by simpa using hlose)

theorem State.losesHold_open (h : s.losesHold code l = true) : (s.lane l).hold.isSome = true := by
  simp only [State.losesHold, Bool.and_eq_true] at h
  exact h.1.2

/-- What a SET_LANE leaves at a lane (R104, R106, R108). -/
theorem State.setLanes_lane (hnodup : ls.Nodup) (m : Lane) : (s.setLanes ls code p).lane m = if m ∈ ls then
      { (s.lane m).written code p with hold := if s.losesHold code m then none else (s.lane m).hold } else s.lane m := by
  rw [State.setLanes_eq, State.writeLanes_lane ls _ hnodup State.released_kept, State.released_lane]
  by_cases hm : m ∈ ls
  · by_cases hlose : s.losesHold code m = true
    · simp only [State.mem_losing, hm, hlose, and_self, if_true]
      rfl
    · simp only [State.mem_losing, hm, hlose, if_true]
      rfl
  · simp only [State.mem_losing, hm, false_and, if_false]

/-- Of the store, the lifts and the counters, a SET_LANE is its releases. -/
theorem State.setLanes_store (hnodup : ls.Nodup) : (s.setLanes ls code p).slots = (s.releaseAll (s.losing ls code)).slots
    ∧ (s.setLanes ls code p).history = (s.releaseAll (s.losing ls code)).history
    ∧ (s.setLanes ls code p).lifts = (s.releaseAll (s.losing ls code)).lifts
    ∧ (s.setLanes ls code p).counts = (s.releaseAll (s.losing ls code)).counts := by
  have hwrites := State.writeLanes_store (p := p) ls (s.released ls code) hnodup State.released_kept
  simpa [State.setLanes_eq, State.released] using hwrites

theorem State.setLanes_rolledBack (hnodup : ls.Nodup) (hs : s.StoreOk) (hh : s.HoldsOk) (hok : s.HistoryOk) :
    s.RolledBack (s.setLanes ls code p) (s.holdsOf (s.losing ls code)) := by
  obtain ⟨hslots, hhistory, -, -⟩ := State.setLanes_store (s := s) (code := code) (p := p) hnodup
  exact ((State.releaseAll_rollsBack _ s (State.losing_nodup hnodup)).rolledBack hs hh hok).congr ⟨rfl, rfl⟩ ⟨hslots, hhistory⟩

theorem State.setLanes_counts (hnodup : ls.Nodup) :
    s.Counts (s.setLanes ls code p) ((ls.filter (s.losesHold code)).map fun l => (l, .released)) [] := by
  obtain ⟨-, -, -, hcounts⟩ := State.setLanes_store (s := s) (code := code) (p := p) hnodup
  have hreleased := State.releaseAll_counts (s.losing ls code) s (State.losing_nodup hnodup) fun l hl =>
    State.losesHold_open (State.mem_losing.1 hl).2
  exact (hreleased.congr rfl hcounts).of_mem fun x => ((s.losing_perm ls code).map _).mem_iff

theorem State.setLanes_lift (hnodup : ls.Nodup) (f : Lift) (hok : (s.lift f).level ≤ 60 * (s.lift f).burst) :
    (s.setLanes ls code p).lift f = { s.lift f with
      level := min ((s.lift f).level + 60 * ((ls.filter (s.losesHold code)).filter fun l => (s.lane l).hold.any fun h => h.lift == f).length)
        (60 * (s.lift f).burst) } := by
  obtain ⟨-, -, hlifts, -⟩ := State.setLanes_store (s := s) (code := code) (p := p) hnodup
  rw [State.lift_congr hlifts, State.releaseAll_lift _ s (State.losing_nodup hnodup) f hok,
    ((s.losing_perm ls code).filter _).length_eq]

theorem State.Raised.released (ls : List Lane) (code : Option WorkState) : s.Raised (s.released ls code) := by
  have hall (ms : List Lane) (s : State) : s.Raised (s.releaseAll ms) := by
    induction ms generalizing s with
    | nil => exact .refl s
    | cons m ms ih => exact ((State.Raised.refl s).releaseHold m).trans (ih _)
  exact (hall (s.losing ls code) s).same fun q => by simp [State.released]

theorem State.setLanes_flagged (hnodup : ls.Nodup) (hl : l ∈ ls) (hmoves : (s.lane l).moves code = true) {q : Port}
    (hq : q = .office ∨ q = gateOf l) (hedge : (s.lane l).state = .work .normal ∨ (s.port q).edges.laneState = .any) :
    ((s.setLanes ls code p).port q).flagged (.laneState l) = true := by
  have hstate : ((s.released ls code).lane l).state = (s.lane l).state := by
    rw [State.released_lane]
    split <;> rfl
  have hmoves : ((s.released ls code).lane l).moves code = true := by
    rw [← hmoves, LaneRec.moves, hstate]
    rfl
  have hedges : ((s.released ls code).port q).edges = (s.port q).edges := (State.Raised.released ls code q).edges
  exact State.writeLanes_flagged ls _ hnodup State.released_kept hl hmoves hq (by rwa [hstate, hedges])

/-! ### The request -/

/-- Whether a SET_LANE targets a lane (R105). -/
def State.isTarget (s : State) (form number : Nat) (l : Lane) : Bool :=
  match form with
  | 0 => l.val == number % 8
  | 1 => (s.liftOf l).val == number
  | _ => true

theorem State.charge_isTarget (s : State) (g : Grant) (form number : Nat) (l : Lane) :
    (s.charge g).isTarget form number l = s.isTarget form number l := by
  simp [State.isTarget]

theorem allLanes_filter_one : ∀ k : Lane, (allLanes.filter fun l => l.val == k.val) = [k] := by decide

theorem State.targets_eq (s : State) : ∀ form number, s.targets form number = allLanes.filter (s.isTarget form number)
  | 0, number => (allLanes_filter_one (Fin.ofNat 8 number)).symm
  | 1, _ => rfl
  | _ + 2, _ => (List.filter_eq_self.2 fun _ _ => rfl).symm

theorem allLanes_nodup : allLanes.Nodup := by decide

/-- Settles O39: the releases of `State.released`, in the free order, and then the writes of `State.writeLanes`. -/
theorem setLaneActsOnEveryTarget : Obligations.SetLaneActsOnEveryTarget := by
  unfold Obligations.SetLaneActsOnEveryTarget
  intro s r hgrants hs hh hok hlift p targeted code profile state moves loses returned ls
  let u := s.charge (.request r)
  have hlane (m : Lane) : u.lane m = s.lane m := by simp [u]
  have htargets : u.targets (byteAt 0 p) (byteAt 1 p) = ls := by
    rw [State.targets_eq]
    refine List.filter_congr fun l _ => ?_
    exact State.charge_isTarget ..
  have hcode : stateArg p = code := rfl
  have hprofile : profileArg p = profile := by simp [profileArg, profile, clamp]
  have hmem (l : Lane) : l ∈ ls ↔ targeted l = true := List.mem_filter.trans (and_iff_right (mem_allLanes l))
  have hmoves (l : Lane) (hl : targeted l = true) : (u.lane l).moves code = moves l := by
    have hmoves : moves l = (targeted l && (s.lane l).moves code) := rfl
    rw [hmoves, hl, hlane, Bool.true_and]
  have hlosesAt (l : Lane) : (targeted l && u.losesHold code l) = loses l := by
    have hloses : loses l = (targeted l && (s.lane l).moves code && (s.lane l).state == .work .normal && (s.lane l).hold.isSome) := rfl
    rw [hloses, State.losesHold, hlane]
    by_cases hnormal : (s.lane l).state = .work .normal
    · simp only [hnormal, LaneRec.moves, beq_self_eq_true, Bool.true_and, Bool.and_true]
      ac_rfl
    · simp [beq_false_of_ne hnormal]
  have hloses : ls.filter (u.losesHold code) = allLanes.filter loses := by
    rw [List.filter_filter]
    exact List.filter_congr fun l _ => (Bool.and_comm ..).trans (hlosesAt l)
  have hstate (l : Lane) : (u.lane l).state.named code = state l := by
    rw [hlane]
    rfl
  have hnodup : ls.Nodup := allLanes_nodup.filter _
  have husame : u.slots = s.slots ∧ u.history = s.history ∧ u.counts = s.counts := by simp [u]
  obtain ⟨huslots, huhistory, hucounts⟩ := husame
  let bs := (u.setLanes ls code profile).setLaneReply ls profile
  have heval : u.setLaneRequest p = (u.setLanes ls code profile, bs) := by
    rw [State.setLaneRequest, htargets, hcode, hprofile]
  have hexec : exec .setLane s = .next ((u.setLanes ls code profile).complete r.port r.index r.frame bs) :=
    congrArg Host.Outcome.next (State.grants_answers hgrants heval)
  have hlost (l : Lane) (hl : targeted l = true) : u.losesHold code l = loses l := by
    rw [← hlosesAt, hl, Bool.true_and]
  have hwritten (l : Lane) (hl : targeted l = true) : (u.setLanes ls code profile).lane l = { s.lane l with
      state := state l, profile := profile, dwell := if moves l then none else (s.lane l).dwell
      hold := if loses l then none else (s.lane l).hold } := by
    rw [State.setLanes_lane hnodup, if_pos ((hmem l).2 hl), LaneRec.written, hmoves l hl, hlost l hl, hstate, hlane]
  have hrolled : s.RolledBack (u.setLanes ls code profile) (u.holdsOf (u.losing ls code)) := by
    have hcharge := s.charge_quiet (.request r)
    have huh : u.HoldsOk := hh.quiet hcharge
    exact (State.setLanes_rolledBack hnodup ((State.Move.quiet hcharge).storeOk hs) huh
      ((State.Move.quiet hcharge).historyOk hs hh hok)).congr ⟨huslots.symm, huhistory.symm⟩ ⟨rfl, rfl⟩
  have hholds (x : Lane × Hold) : x ∈ u.holdsOf (u.losing ls code) ↔ loses x.1 = true ∧ (s.lane x.1).hold = some x.2 := by
    rw [State.mem_holdsOf, State.mem_losing, hmem, hlane, ← hlosesAt, Bool.and_eq_true]
  have hreply : bs = [0, byteOf ls.length, byteOf profile.holdTime, byteOf profile.lateWindow, byteOf profile.threshold,
      if profile.toggle then 1 else 0] ++ ls.flatMap fun l => [byteOf l.val, byteOf (state l).laneByte] := by
    refine congrArg₂ (· ++ ·) ?_ (List.flatMap_congr fun l hl => ?_)
    · cases profile.toggle <;> rfl
    · rw [hwritten l ((hmem l).1 hl)]
  obtain ⟨hanswers, hports⟩ := State.granted_ports (r := r) (bs := bs) ((State.Raised.refl u).setLanes ls code profile)
    ((State.SameTransactions.refl u).setLanes ls code profile)
  obtain ⟨hundone, hentries, hgranules, hfree, hfull⟩ := hrolled.congr (s' := s)
    (t' := (u.setLanes ls code profile).complete r.port r.index r.frame bs) ⟨rfl, rfl⟩ (by simp)
  have hslots (n : Nat) (hn : ∀ l h, loses l = true → (s.lane l).hold = some h → h.slot ≠ n) :
      ∀ x ∈ u.holdsOf (u.losing ls code), x.2.slot ≠ n := fun x hx =>
    hn x.1 x.2 ((hholds x).1 hx).1 ((hholds x).1 hx).2
  refine ⟨_, hexec, fun l hl => ?_, fun l hl => ?_, hreply ▸ hanswers, ?_,
    fun l h e hl hhold he => hundone (l, h) ((hholds (l, h)).2 ⟨hl, hhold⟩) e he,
    ⟨_, ?_, hfree, hfull.trans ?_⟩, fun n hn => ⟨hentries n (hslots n hn), fun e he => ?_⟩, fun f => ?_, fun l q hl hq hedge => ?_, hports⟩
  · simp only [State.complete_frame]
    exact hwritten l hl
  · simp only [State.complete_frame]
    rw [State.setLanes_lane hnodup, if_neg (by simp [hmem, hl]), hlane]
  · have hcounts := State.setLanes_counts (s := u) (code := code) (p := profile) hnodup
    rw [hloses] at hcounts
    exact hcounts.congr hucounts (by simp)
  · refine ((List.reverse_perm _).filterMap _).trans ?_
    rw [State.holdsOf_filterMap u (u.losing ls code) s.allocatedBy]
    refine ((u.losing_perm ls code).filterMap _).trans ?_
    rw [hloses, List.filterMap_filter]
    simp only [hlane]
    rfl
  · rw [List.filterMap_reverse, List.isEmpty_reverse]
  · exact ((hok.chains n e he).congr (hok.parts_of_entry hs he).nodup (hgranules n e (hslots n hn) he)).2.2
  · have hulift : u.lift f = s.lift f := by simp [u]
    obtain ⟨-, -, -, -, hlevel⟩ := hlift f
    have hreturned : (ls.filter (u.losesHold code)).filter (fun l => (u.lane l).hold.any fun h => h.lift == f)
        = allLanes.filter fun l => loses l && (s.lane l).hold.any fun h => h.lift == f := by
      rw [hloses, List.filter_filter]
      exact List.filter_congr fun l _ => by rw [hlane, Bool.and_comm]
    have hwrites := State.setLanes_lift (s := u) (code := code) (p := profile) hnodup f (by rw [hulift]; exact hlevel)
    rw [hreturned, hulift] at hwrites
    simp only [State.complete_frame]
    exact hwrites
  · have htarget : targeted l = true := (Bool.and_eq_true _ _ ▸ hl).1
    have hport : u.port q = s.port q := by simp [u]
    refine (State.SameFlag.complete _ q).trans (State.setLanes_flagged hnodup ((hmem l).2 htarget) ((hmoves l htarget).trans hl) hq ?_)
    rwa [hlane, hport]

end Sys2Proof.Machine
